-- ==== Sys2Proof/Word.lean ====
section
/-! DEFINITION. The word types of the Abxis model and their plainest arithmetic (R7, R96). Signed quantities that the
manual computes exactly are `Int`; a register that software reads and writes whole is a bit vector or a `Nat` held
below its width. -/

namespace Sys2Proof

abbrev Byte := BitVec 8
abbrev Word16 := BitVec 16
abbrev Word32 := BitVec 32
abbrev Word64 := BitVec 64

/-- The two's-complement reading of the low `w` bits of `n` (R96). -/
def toSigned (w n : Nat) : Int :=
  let m := n % 2 ^ w
  if 2 * m < 2 ^ w then (m : Int) else (m : Int) - (2 ^ w : Nat)

/-- The `w`-bit two's-complement code of an integer, as a natural number. -/
def ofSigned (w : Nat) (x : Int) : Nat :=
  (x % ((2 ^ w : Nat) : Int)).toNat

/-- Bits [lo + len - 1 : lo] of a number; bit 0 is the least significant (R7). -/
def bits (n lo len : Nat) : Nat :=
  (n >>> lo) % 2 ^ len

/-- Bit `i` of a number. -/
def bit (n i : Nat) : Bool :=
  (n >>> i) % 2 == 1

/-- A Bool as one bit. -/
def b2n (b : Bool) : Nat :=
  if b then 1 else 0

/-- The number held little-endian in a byte string (R7). -/
def leNat : List Byte → Nat
  | [] => 0
  | b :: bs => b.toNat + 256 * leNat bs

/-- The `n` little-endian bytes of a number (R7). -/
def leBytes : Nat → Nat → List Byte
  | 0, _ => []
  | n + 1, v => BitVec.ofNat 8 v :: leBytes n (v / 256)

/-- Serial order of R507: `a` is greater than `b` when (a - b) mod 2^32 lies from 1 to 2^31 - 1. -/
def serialGreater (a b : Nat) : Bool :=
  let d := (a + 2 ^ 32 - b % 2 ^ 32) % 2 ^ 32
  decide (1 ≤ d ∧ d ≤ 2 ^ 31 - 1)

/-- The larger ceiling of a quotient. -/
def ceilDiv (a b : Nat) : Nat :=
  (a + b - 1) / b

end Sys2Proof
end

