-- ==== Sys2Proof/Syntax.lean ====
section
/-! DEFINITION. The commands of the block: one constructor of `Instr` per row of spec/opcode_table.json, with the
operands the rule it cites gives it. A measured or analogue quantity that the device receives from outside (a sensor
reading, an arriving frame, the result of a self-test) is an operand; everything else is taken from the state.
Unit numbers are `Fin`, so a unit that does not exist cannot be named. -/

namespace Sys2Proof

/-- A flit: payload [63:0] and tag [79:64] (R56, R57). -/
structure Flit where
  payload : Word64
  tag : Word16
  deriving DecidableEq, Repr

/-- What the check bits of a memory word, a link or a table entry give: nothing wrong, one bit corrected inline, or an error
that cannot be corrected (R53, R58, R78). -/
inductive Ecc where
  | ok | corrected | uncorrected
  deriving DecidableEq, Repr

/-- What goes wrong at a router while a flit passes: a link error found by the receiving router (R58), an error of the route
table (R78), or a parity error of the router's queue or arbiter (R135). -/
inductive HopFault where
  | none | link (e : Ecc) | table (e : Ecc) | parity
  deriving DecidableEq, Repr

/-- Errors found at self-test (R410 to R413): cores and spares by PCID, routers and
gateways and truss routers by physical cluster, cluster-memory rows by (physical cluster, row), data lanes as a mask,
viaducts by number 0 to 7; `badRows` holds (PCID, memory, row) with memory 1 weight SRAM and 2 activation SRAM (R405). -/
structure SelfTest where
  badCores : List Nat := []
  badRows : List (Nat × Nat × Nat) := []
  badRouters : List Nat := []
  badBankRows : List (Nat × Nat) := []
  badTruss : List Nat := []
  badLanes : Nat := 0
  badViaducts : List Nat := []
  deriving DecidableEq, Repr

/-- One item of a dictionary message (R381): entry, sub-index and data bytes. -/
structure OdItem where
  index : Nat
  sub : Nat
  data : List Byte := []
  deriving DecidableEq, Repr

/-- A mailbox request message (R380), with the TAG that the doorbell carried (R379). -/
structure OdMsg where
  bell : Word16
  tag : Word16
  pend : Bool := false
  dry : Bool := false
  target : Nat := 0xFFFD
  at_ : Nat := 0
  items : List OdItem := []
  deriving DecidableEq, Repr

/-- The operation of a mailbox message (R380). -/
inductive OdOp where
  | read | write | describe | list
  deriving DecidableEq, Repr

/-- One loop of a core's sequencer (R84) and one address generator (R85). -/
structure LoopCfg where
  start : Nat := 0
  limit : Nat := 0
  deriving DecidableEq, Repr

structure AgCfg where
  base : Nat := 0
  s0 : Int := 0
  s1 : Int := 0
  s2 : Int := 0
  act : Bool := false
  deriving DecidableEq, Repr

/-- Steering modes (R89). -/
inductive SteerMode where
  | pass | select | merge
  deriving DecidableEq, Repr

/-- The decoded CORE_CTRL section of a core (R164), whose byte layout the spec leaves to the toolchain. -/
structure CoreCtrl where
  loops : List LoopCfg := []
  ags : List AgCfg := []
  mode : SteerMode := .pass
  phaseN : Nat := 1
  steerWindow : Nat := 1
  entries : List Nat := [0, 0, 0, 0]
  skipEntry : Option Nat := none
  xmode1 : Bool := false
  lutSegment : Bool := false
  lutB0 : Int := 0
  lutW : List Nat := []
  lutI16 : Bool := false
  streamMask : Nat := 0
  stateful : Bool := false
  adaptable : Bool := false
  group : Option Nat := none
  adaptCore : Bool := false
  deriving DecidableEq, Repr

/-- What an image loads into one logical core (R164): control, route tables by (port × 2 + channel) × 16 + label with the local
port's 8 entries at 128 to 135, and control templates, as the CORE_CTRL and ROUTE sections hold them; the microwords, requantiser
entries, lookup points and weights are filled from the bytes of the slot (log entry 9). -/
structure CoreImage where
  x : Nat
  y : Nat
  ctrl : CoreCtrl := {}
  routes : List (Nat × Nat) := []
  templates : List Word64 := []
  program : Bool := false
  micro : List Word64 := []
  req : List (Nat × BitVec 128) := []
  lut : List (Nat × Int) := []
  weights : List (Nat × Byte) := []
  deriving DecidableEq, Repr

/-- What an image loads into one logical cluster: gateway tables (R133), cluster memory words and the cluster's truss router
tables (R141) by ((port × 8 + lane) × 2 + channel) × 16 + label; the deck table (R137) is filled from the bytes of the slot. -/
structure ClusterImage where
  num : Nat
  outbound : List (Nat × Nat) := []
  inbound : List (Nat × Nat) := []
  deck : List (Nat × Nat) := []
  mem : List (Nat × Nat) := []
  truss : List (Nat × Nat) := []
  deriving DecidableEq, Repr

/-- Where the recall engine's answers to a deep core leave the HBM controllers' block of the hub switch (R213): lane and label of the
response route and of the value route. `core` is the logical core x + 256 y. -/
structure RecallRoute where
  core : Nat
  lane : Nat
  label : Nat
  vlane : Nat
  vlabel : Nat
  deriving DecidableEq, Repr

/-- A recurrence layer's input (R205, R209): the stream whose drained entries it takes, the power domain of its CONTINUOUS quad, and
the lane and label on which the entries leave the HBM controllers' block of the hub switch. -/
structure RecurFeed where
  stream : Nat
  quad : Nat
  lane : Nat
  label : Nat
  deriving DecidableEq, Repr

/-- The deep schedule of an image (R199 to R217, R222). `rlog` holds (stream, RLOG); `handoff` (stream, logical cluster, deck entry);
`quads` (power domain, CONTINUOUS, DEEP_FCYC); `hints` (ticks after the slot's start, die mask). -/
structure DeepCfg where
  k : Nat := 0
  refSpacing : Nat := 1024
  refLen : Nat := 96
  candBudget : Nat := 0
  spillCap : Nat := 0
  deliverOfs : Nat := 0
  candCap : Nat := 0
  candCyc : Nat := 0
  guardTicks : Nat := 0
  hqDepth : Nat := 256
  rlog : List (Nat × Nat) := []
  handoff : List (Nat × Nat × Nat) := []
  periodicSet : List Nat := []
  periodSlots : Nat := 1
  quads : List (Nat × Bool × Nat) := []
  labelQuads : List Nat := []
  hints : List (Nat × Nat) := []
  strictBuild : Bool := false
  routes : List RecallRoute := []
  feeds : List RecurFeed := []
  deriving DecidableEq, Repr

/-- One layer of an adaptation group: first weight index, number of weights, WEXP, SH8, layer number and the logical cores
(x + 256 y) and tile addresses of its copies (R226, R227). -/
structure AdaptLayer where
  first : Nat
  count : Nat
  wexp : Int
  sh8 : Nat
  layer : Nat
  copies : List (Nat × Nat) := []
  deriving DecidableEq, Repr

/-- The parameters of an adaptation group (R226). -/
structure AdaptCfg where
  seed : Nat := 0
  period : Nat := 1
  batchMax : Nat := 1
  b1 : Nat := 1
  b2 : Nat := 1
  lrM : Nat := 0
  lrS : Nat := 0
  epsE : Int := 0
  envStep : Nat := 0
  envDrift : Nat := 0
  envMode : Nat := 0
  satRoll : Nat := 0xFFFFFFFF
  fcyc : Nat := 0
  streams : List Nat := []
  layers : List AdaptLayer := []
  baseline : List (Nat × Int) := []
  /-- Section index of the CLUSTER_MEM section that holds the baseline. -/
  baselineIn : Nat := 0
  /-- Lane and label on which the hub controller sends samples to the adaptation cores. -/
  feed : Option (Nat × Nat) := none
  deriving DecidableEq, Repr

/-- Input-quantiser defaults (R104). -/
structure IqCfg where
  ofs : Int := 0
  mult : Int := 1
  shift : Nat := 0
  mode : Bool := false
  lo : Int := -128
  hi : Int := 127
  deriving DecidableEq, Repr

/-- One entry of the injection map (R16): a stream, the logical column of the edge core, the route label its tokens carry, and the
channels of one data flit, eight from `ch` on. -/
structure InjectMap where
  stream : Nat
  x : Nat
  label : Nat
  ch : Nat
  deriving DecidableEq, Repr

/-- Where a hub relay sends a flit (R146): to a channel and lane of another die's viaduct, or to a hub block, by number: 0 the
HBM controllers, 1 the capture engine, 2 the audit sealer, 3 the hub controller, 4 the Girder ports. -/
inductive RelayTo where
  | die (d chan lane : Nat)
  | block (n : Nat)
  deriving DecidableEq, Repr

/-- A hub relay (R146): the viaduct, channel, lane and label a flit comes from, with die 4 for the hub blocks and a block's number
for its channel, and where it goes; a relay on reserved lanes is reserved end to end. -/
structure Relay where
  die : Nat
  chan : Nat
  lane : Nat
  label : Nat
  dest : RelayTo
  reserved : Bool := false
  deriving DecidableEq, Repr

/-- How a token crosses from one core to the next (R148): mesh hops within one cluster, or truss hops. -/
inductive Crossing where
  | same (hops : Nat)
  | die (h : Nat)
  | adjacent (h1 h2 : Nat)
  | diagonal (h1 mid h2 : Nat)
  | hub
  deriving DecidableEq, Repr

/-- One stage of a placed path (R44, R148): cycles from a token at its core's input to the emit, with the steering wait in full,
then mesh hops out and in, the crossing, and deck or merge cycles. -/
structure PathSeg where
  stage : Nat
  out : Nat := 0
  cross : Crossing := .same 0
  into : Nat := 0
  extra : Nat := 0
  deriving DecidableEq, Repr

/-- A reduction of a plan (R116, R117, R155): the most terms summed into one accumulator lane, the most merge-ins between two
merge-outs, and the INT8 tiles it reads, as (x, y, tile). -/
structure Reduction where
  terms : Nat
  merges : Nat := 0
  tiles : List (Nat × Nat × Nat) := []
  deriving DecidableEq, Repr

/-- Where traffic into a deck comes from (R139). -/
inductive DeckSource where
  | fast | deep | hub
  deriving DecidableEq, Repr

/-- What the sections of an image decode to whose byte layout Etver keeps and the spec does not give (R164; log entry 9): an operand
of the step that checks a slot, kept with the slot. `decodes` says that each decodes as its type's content, `place` where the
first that does not stands (section, byte). Sections with a layout in the spec are read from the slot's bytes.

`reserved` holds reserved lanes as (logical cluster, truss port, lane) (R144), `fastTruss` the truss entries of fast-path flits
as (logical cluster, entry), `schedule` the occupancy (kind, resource, cycle) of R164, `weightWrites` the cycles of
weight-write flits likewise (R228), `deckIn` the traffic into decks by logical cluster (R139), `decides` the streams of the
record map (R17), `scales` scale bytes held in CLUSTER_MEM and HBM_INIT (R99), `hbmInit` (region KIND, offset, bytes). `skipRecord` and `adaptOther` are findings of Etver's analysis that R83
and R228 name. -/
structure ImageContent where
  decodes : Bool := true
  place : Nat × Nat := (0, 0)
  cores : List CoreImage := []
  clusters : List ClusterImage := []
  inject : List InjectMap := []
  iq : List (Nat × IqCfg) := []
  decides : List Nat := []
  thresh : List (Nat × Nat) := []
  reserved : List (Nat × Nat × Nat) := []
  fastTruss : List (Nat × Nat) := []
  relays : List Relay := []
  stretchGroups : List (List Nat) := []
  deep : DeepCfg := {}
  adapt : List AdaptCfg := []
  hbmInit : List (Nat × Nat × List Byte) := []
  schedule : List (Nat × Nat × Nat) := []
  weightWrites : List (Nat × Nat × Nat) := []
  deckIn : List (DeckSource × Nat) := []
  paths : List (List PathSeg) := []
  reductions : List Reduction := []
  scales : List Byte := []
  skipRecord : Bool := false
  adaptOther : Bool := false
  deriving DecidableEq, Repr

/-- A line error met while a lane block was received (R267). -/
inductive BlockFault where
  | none | code | fec | marker
  deriving DecidableEq, Repr

/-- Why a receive lane leaves DATA (R276). -/
inductive LaneLoss where
  | phase | fec | blockLock | delineate
  deriving DecidableEq, Repr

/-- One MXINT8 gradient block of a group's update: block number, scale, 32 elements, marks V and S (R235). -/
structure GradBlock where
  block : Nat
  scale : Nat
  elems : List Int
  v : Bool := false
  s : Bool := false
  deriving DecidableEq, Repr

/-- A JTAG instruction (R504, R505). -/
inductive TapInstr where
  | idcode | bypass | samplePreload | vendor | extest
  deriving DecidableEq, Repr

/-- Identity carried by a JOIN_REQ (R345), with the parent that relayed it and its port (R353), which no field carries. -/
structure JoinInfo where
  serial : Nat
  grade : Nat
  stepping : Nat
  latClass : Nat
  fwVerified : Bool := true
  pcieUp : Bool := false
  running : Bool := false
  held : Nat := 0xFFFE
  parent : Nat := 0
  pport : Nat := 0
  deriving DecidableEq, Repr

/-- A Girder frame as a port receives it (R344): the fields of its header that its meaning goes by, and whether its CRC holds. -/
structure GFrame where
  port : Fin 4
  typ : Byte
  src : Word16 := 0
  dst : Word16 := 0xFFFE
  lseq : Word16 := 0
  hops : Byte := 1
  crcOk : Bool := true
  deriving DecidableEq, Repr

/-- The payload of a SYNC frame (R356). ORIGIN is the linear count of TIME96 in 2^-16 ns. -/
structure SyncMsg where
  corr : Int
  origin : Int
  cyc : Nat
  cycFrac : Nat
  drone : Nat
  tphase : Nat
  tickdiv : Nat
  mgrRate : Int
  syncLog2 : Nat
  incMode : Bool := false
  deriving DecidableEq, Repr

/-- A LAUNCH frame's payload (R361). -/
structure LaunchMsg where
  count : Nat
  kind : Nat
  targets : Nat
  slot : Nat := 0
  mode : Nat := 0
  resumeAt : Nat := 0
  tickdiv : Nat := 60
  msg : Option OdMsg := none
  deriving DecidableEq, Repr

/-- The BAR0 registers without a row of their own (R376, R378, R395, R398). -/
inductive Bar0Reg where
  | mbIrqEn | evtTail | evtMod
  | staging (ofs : Fin 16384) (bytes : List Byte)
  | msix (word : Fin 128) (value : Word32)
  deriving DecidableEq, Repr

/-- The commands and events of the block. The rule each cites is the one the table's row gives. -/
inductive Instr where
  -- bring-up (R402 to R415, R496, R497)
  | perstNRelease (role : Fin 4) (refdly : Fin 8)
  | refdlyWaitEnd
  | pllLockComplete
  | pllLockTimeout
  | fuseReadComplete (array : BitVec 8192)
  | fwChunk (ofs : Fin 16777216) (len : Fin 65536)
  | fwCmdVerify
  | fwCmdDiscard
  | fwVerifyDone
  | selfTestDone (r : SelfTest)
  | trainingDone (failed : List (Fin 128))
  | defectMergeDone (ms : Word32)
  | conventionalReset
  | supplyMonitorReset
  -- the tick (R30 to R37, R267)
  | tickBoundary (ue : Word64)
  | ingestDeadline
  | tickinEdge (rising : Bool) (cycle : Nat)
  | tickinTimeout
  -- tokens at a core (R60, R70, R89 to R92)
  | inputFifoArrival (core : Nat) (ctrl : Bool) (label : Fin 16) (flit : Flit)
  | bof (core : Nat) (label : Fin 16) (tag : Word16) (ftag : Word16) (stream : Fin 64)
  | eof (core : Nat) (label : Fin 16) (tag : Word16) (ftag : Word16)
  | select (core : Nat) (label : Fin 16) (tag : Word16) (ftag : Word16) (sel : Fin 16)
  | skip (core : Nat) (label : Fin 16) (tag : Word16) (ftag : Word16)
  | void (core : Nat) (label : Fin 16) (tag : Word16) (ftag : Word16) (cause : Byte)
  | frameAccept (core : Nat) (ecc : Ecc)
  | steerTimeout (core : Nat)
  -- one field of a microword at a core (R71 to R88, R107 to R129)
  | mac8 (core : Nat) (w : Word64) (ecc : Ecc)
  | mac4 (core : Nat) (w : Word64) (ecc : Ecc)
  | scaleStep (core : Nat) (w : Word64) (ecc : Ecc)
  | dataStep (core : Nat) (w : Word64) (ecc : Ecc)
  | loadInputFlit (core : Nat) (w : Word64)
  | loadActivationWord (core : Nat) (w : Word64) (ecc : Ecc)
  | weightWordRewrite (core : Nat) (addr : Fin 32768)
  | loadPartialSum (core : Nat) (w : Word64)
  | requantise (core : Nat) (w : Word64) (ecc : Ecc)
  | requantiseLookup (core : Nat) (w : Word64) (ecc : Ecc)
  | lookup (core : Nat) (w : Word64) (ecc : Ecc)
  | mergeIn (core : Nat) (w : Word64)
  | mergeOut (core : Nat) (w : Word64) (ecc : Ecc)
  | mergeOutLookup (core : Nat) (w : Word64) (ecc : Ecc)
  | blockEncode (core : Nat) (w : Word64) (ecc : Ecc)
  | emitData (core : Nat) (w : Word64)
  | emitPartialSums (core : Nat) (w : Word64)
  | emitControlTemplate (core : Nat) (w : Word64)
  | storeActivation (core : Nat) (w : Word64)
  | emitDecisionRecord (core : Nat) (w : Word64)
  | coreParity (core : Nat)
  -- the package fabric (R63, R132, R138, R141, R142, R146)
  | routerHop (pos : Nat) (out : Fin 5) (fault : HopFault)
  | gatewayCrossing (cluster : Fin 256) (outbound : Bool) (port : Fin 12) (ctrl : Bool)
  | trussHop (cluster : Fin 256) (out : Fin 6) (lane : Fin 8) (ecc : Ecc)
  | viaductCrossing (via : Fin 8) (chan : Fin 64) (lane : Fin 8) (ctrl : Bool) (back : Bool) (ecc : Ecc)
  | hubRelay (src : Fin 5) (chan : Fin 64) (lane : Fin 4) (ctrl : Bool)
  | deckWrite (cluster : Fin 256) (label : Fin 16) (ctrl : Bool) (flit : Flit)
  | deckRead (cluster : Fin 256) (label : Fin 16) (ctrl : Bool) (flit : Flit) (ue : Option (Fin 4096)) (ce : Bool)
  -- decisions (R47, R188, R271, R272, R295)
  | recordArrival (stream : Fin 64) (record : Word64) (epoch : Fin 8) (cycle : Nat)
  | recordRelease (stream : Fin 64)
  | deadlineMiss (stream : Fin 64)
  | staleRecord (stream : Fin 64)
  | trigoutPulseEnd (pin : Fin 8) (stream : Fin 64)
  | decisionBurst (lane : Fin 64)
  | laneSubstitute (lane : Fin 64) (rank : Fin 16)
  -- data lanes (R251, R259, R262, R276 to R278, R269, R308)
  | laneBlockReceived (lane : Fin 64) (bytes : List Byte) (fault : BlockFault) (fill pin : Nat)
  | fecCodeword (lane : Fin 64) (corrected : Option (Fin 16))
  | laneEnable (lane : Fin 64) (value : Byte)
  | quadConfigWrite (quad : Fin 16) (sub : Fin 9) (value : Word32)
  | lanePllLocked (quad : Fin 16)
  | cdrLocked (lane : Fin 64)
  | adaptConverged (lane : Fin 64) (ctle : Fin 16) (dfe : Word32)
  | adaptTimeout (lane : Fin 64) (ctle : Fin 16) (dfe : Word32)
  | fecLock (lane : Fin 64)
  | blockLock (lane : Fin 64)
  | delineated (lane : Fin 64)
  | laneDown (lane : Fin 64) (why : LaneLoss)
  | laneTrainFail (lane : Fin 64)
  | prbsLock (lane : Fin 64) (rx : List Bool)
  | injFire (lane : Fin 64)
  | injPeriodic (lane : Fin 64)
  | deepBurst (lane : Fin 64)
  | readoutBurst (lane : Fin 64) (ecc : Ecc)
  -- capture (R299 to R310)
  | captureFrameWrite (stream : Fin 64)
  | captArm (stream : Fin 64)
  | captStop (stream : Fin 64)
  | captFreeTo (stream : Fin 64) (segno : Word32)
  | ovfRearm (stream : Fin 64)
  | maskTestDone (stream : Fin 64) (ueFirst : Option Nat) (ce : Bool)
  | maskPointWrite (hi : Word32)
  | gateTimeout (stream : Fin 64)
  -- the deep path (R199 to R222)
  | deepSlotBoundary
  | refreshWindow (t0 t1 : Byte) (corrected reissued : Nat)
  | handoffDrain (stream : Fin 64)
  | recallRequest (core : Nat) (f0 q0 q1 : Word64)
  | recallStart (ueAddrs : List Nat) (ce : Nat)
  | recallResponse
  | deepItemStart
  | deepResult (payload : Word64) (sat hist reset repair programVoid : Bool)
  | deepStrictRelease
  | histClear
  -- adaptation (R232 to R243)
  | labelCutoff (group : Fin 8)
  | adaptUpdate (group : Fin 8) (grads : List GradBlock) (banksWritten : Bool)
  | adaptBankRelease (group : Fin 8)
  | adaptSwap (group : Fin 8)
  | rollbackCmd
  | satReport (core : Nat) (layer : Fin 1088) (count : Word32)
  | driftWindowBoundary
  -- images, slots and activation (R170 to R190)
  | slotOpen (slot : Fin 2) (seq : Word32)
  | slotCommit (slot : Fin 2) (size : Word64) (prog weight : BitVec 256)
  | slotClear (slot : Fin 2)
  | slotCheckDone (slot : Fin 2) (content : ImageContent)
  | bar2Write (ofs : Fin 268435456) (bytes : List Byte)
  | bar2Read (ofs : Fin 268435456) (len : Fin 4097) (ecc : Ecc)
  | winBaseWrite (value : Word64)
  | actCmdActivate (slot : Fin 2) (mode : Fin 2) (at_ resumeAt : Word64)
  | actCmdCancel
  | actStart
  | drainDone
  | verifyPass
  | dampStuck
  | loadDone (ecc : Ecc)
  | rampWave (wave : Fin 8)
  | resumeTick
  | launchMissed
  | epochSweep (found : Bool)
  -- audit, record and replay (R320 to R335)
  | auditWindowBoundary
  | sealComplete
  | sealEnWrite (value : Bool)
  | recArm
  | recStop
  | recOverrun
  | replayStart (anchor : Word64) (slot : Fin 2) (end_ : Word64)
  | replayStop
  -- Girder (R339 to R370)
  | beaconSend
  | beacon (rx : GFrame) (domain : Word32) (mgrSerial : Word64) (rosterGen : Word32) (joins : Bool)
  | joinReq (rx : GFrame) (info : JoinInfo)
  | joinAck (rx : GFrame) (serial : Word64) (addr : Word16) (depth : Fin 256)
  | joinNak (rx : GFrame) (serial : Word64) (reason : Fin 256)
  | leave (rx : GFrame) (addr : Fin 256) (orderly subtree : Bool)
  | heartbeat (rx : GFrame) (addr : Fin 256) (drone : Word32)
  | heartbeatSend
  | heartbeatMissed (addr : Fin 256)
  | sync (rx : GFrame) (m : SyncMsg) (ingress : Nat) (frac : Fin 65536)
  | syncSend (egressFrac : Fin 65536)
  | delayMeasure
  | delayReq (rx : GFrame) (turn : Word64)
  | delayResp (rx : GFrame) (t1 t4 : Nat) (turn : Word64)
  | launch (rx : GFrame) (m : LaunchMsg)
  | launchAck (rx : GFrame) (count : Word64) (code : Fin 4) (refuse : Byte) (addr : Fin 256)
  | launchAckTimeout
  | odReq (rx : GFrame) (op : OdOp) (m : OdMsg)
  | odResp (rx : GFrame) (addr : Fin 256) (tag : Word16) (op : OdOp) (status : Byte) (failItem : Word16) (tick : Word64) (items : List (OdItem × Byte))
  | odForwardTimeout
  | fwData (rx : GFrame) (ofs : Word32) (bytes : List Byte) (last : Bool)
  | fwStatus (rx : GFrame) (addr : Fin 256) (received : Word32) (status : Fin 3)
  | linkAck (rx : GFrame) (lseq : Word16) (nak : Bool)
  | resendTimeout (port : Fin 4)
  | joinRetry
  | refusedWaitEnd
  | beaconWatchdog
  | servoHoldover
  | addrHoldExpiry (addr : Fin 256)
  | joinCmd
  | leaveCmd (value : Bool)
  | launchCmd (m : LaunchMsg)
  | roleOverride (value : Byte)
  | upstreamLoss (refclk : Bool)
  | holdoverEnd (refclk : Bool)
  | tbTimeWrite (tb : Fin 4) (time : BitVec 96)
  | tbStep (tb : Fin 4) (step : BitVec 96)
  | tbRateWrite (tb : Fin 4) (rate : Word32)
  | tbIncrWrite (tb : Fin 4) (incr : Word32)
  | tbIncAdj (tb : Fin 4) (adj : Word32)
  -- dictionary and host (R376 to R399)
  | odRead (m : OdMsg)
  | odWrite (m : OdMsg)
  | odWriteDry (m : OdMsg)
  | odDescribe (m : OdMsg)
  | odList (m : OdMsg)
  | mbAck
  | txnCommit
  | bar0RegisterWrite (reg : Bar0Reg) (value : Word32)
  | functionLevelReset
  | pcieLinkDown
  -- licences, presence, fuses, debug (R417 to R429, R504, R505)
  | licData (bytes : List Byte)
  | licInstall
  | licCheckDone
  | licRemove
  | licDiscard
  | presenceBtnPress
  | presenceWindowExpiry
  | presClose
  | presentNChange (level : Bool)
  | sealLoopBreak
  | sealLoopRestored
  | fuseProgram (field : Byte) (value : BitVec 256)
  | fuseProgramDone (good : Bool)
  | debugUnlock
  | debugRelock
  | tapInstruction (ins : TapInstr)
  -- power, clocks and thermal (R435 to R461)
  | powerEstimate (mw : Word32)
  | thermSample (readings : List Int)
  | thermalDemandStep
  | marginShort (die : Fin 4)
  | avsTransactionDone (die : Fin 4) (ok : Bool) (mv deciAmps : Word16)
  | loadHint (dies : Fin 16) (drone48 : BitVec 48)
  | hintBoostStart
  | hintBoostEnd
  | droopTrip (die : Fin 4) (cycle : Nat)
  | stretchEnd (die : Fin 4) (cycle : Nat)
  | gateIdleAck (block : Nat)
  | gateRefused (block : Nat)
  | pllUnlock (pll : Fin 42)
  | clockMuxSwitch (mux : Fin 8) (src : Fin 64)
  | deadClock (mux : Fin 8) (src : Fin 64)
  | clkmonWrite (sel : Byte) (div : Word16)
  -- faults (R465 to R485)
  | errClear (unit : Word16)
  | errAutoclearExpiry (unit : Word16)
  | hubFault
  | safeDrainEnd
  | repairWindowStart (core : Nat)
  | standInLoadDone (core : Nat)
  | standIn (core : Nat)
  | pluckCmd
  | pluckInEdge (rising : Bool)
  | pluckLatch
  | snapshotCopyDone (bank : Fin 2)
  | snapRelease (bank : Byte)
  -- counter clears and the rest
  | monClear
  | coreCntClear
  | satClear
  | fabricCntClear
  | deepCntClear
  | adaptCntClear
  | laneCntClear
  | trgCntClear
  | hostCntClear
  | pwrCntClear
  | fwImgData (bytes : List Byte)
  | girderPortLock (port : Fin 4)
  | girderPortLossOfLock (port : Fin 4)
  | referenceReturn (src : Fin 6)
  | pcieLinkUp (rate : Fin 8) (width : Fin 32)
  | evtModExpiry (vector : Fin 32)
  | hubFirmwareRestartDone
  deriving DecidableEq, Repr

end Sys2Proof
end

