-- ==== Sys2Proof/Decode.lean ====
section
/-! DEFINITION. The decoder over the rows of spec/opcode_table.json that give bits. No row of the table gives any: its
rows are commands and events with operands, not words, so no word spells a command. -/

namespace Sys2Proof

/-- The command a word of `nbits` bits spells by the table's bits: none, since no row gives bits. -/
def decodeTableWord (nbits w : Nat) : Option Instr :=
  let rows : List (Nat × Nat × Nat × Instr) := []
  (rows.find? fun r => decide (r.1 = nbits ∧ w &&& r.2.1 = r.2.2.1)).map fun r => r.2.2.2

end Sys2Proof
end

