-- ==== Sys2Proof/Config.lean ====
section
/-! DEFINITION. What the spec leaves free. Each constant here is opaque: no proof can see its value, so a claim holds
whatever it is. State.freeCtr is the plain counter a step reads and advances when it needs a fresh one. -/

namespace Sys2Proof

/-- A byte the spec leaves undefined: HBM contents of a region that starts undefined (R198, R461), by draw number and
address. Log entry 5. -/
opaque Config.freeByte : Nat → Nat → Byte

/-- A value the spec leaves undefined or unstated, by draw number. Log entry 6. -/
opaque Config.freeNat : Nat → Nat

end Sys2Proof
end

