-- ==== Sys2Proof/Machine/Map.lean ====
section
/-! DEFINITION. Sparse tables as plain data: a list of (key, value) pairs with strictly rising keys in which no value
equals what an unlisted key reads as. The device's memories, its per-core, per-lane and per-stream units and its
object-dictionary cells are all held in this one form, so that equal contents are equal data. -/

namespace Sys2Proof

/-- A sparse table from unit numbers or addresses to values. -/
abbrev SMap (α : Type) := List (Nat × α)

/-- What a key reads as: its listed value, or the given default. -/
def SMap.get {α : Type} (d : α) : SMap α → Nat → α
  | [], _ => d
  | (k, v) :: m, q => if k = q then v else SMap.get d m q

/-- A key taken out of a table. -/
def SMap.erase {α : Type} : SMap α → Nat → SMap α
  | [], _ => []
  | (k, v) :: m, q => if k = q then SMap.erase m q else (k, v) :: SMap.erase m q

/-- A key put into a table, in its place by order. -/
def SMap.put {α : Type} : SMap α → Nat → α → SMap α
  | [], q, x => [(q, x)]
  | (k, v) :: m, q, x =>
    if q < k then (q, x) :: (k, v) :: m
    else if q = k then (q, x) :: m
    else (k, v) :: SMap.put m q x

/-- Writing a key keeps the canonical form: writing the default removes the key. -/
def SMap.set {α : Type} [DecidableEq α] (d : α) (m : SMap α) (q : Nat) (x : α) : SMap α :=
  if x = d then SMap.erase m q else SMap.put m q x

/-- A key's value replaced by a function of itself. -/
def SMap.upd {α : Type} [DecidableEq α] (d : α) (m : SMap α) (q : Nat) (f : α → α) : SMap α :=
  SMap.set d m q (f (SMap.get d m q))

/-- Every listed value replaced by a function of key and value, dropping those that become the default. -/
def SMap.mapVals {α : Type} [DecidableEq α] (d : α) (f : Nat → α → α) (m : SMap α) : SMap α :=
  m.filterMap fun p => if f p.1 p.2 = d then none else some (p.1, f p.1 p.2)

/-- Every key above `lo` (the head's key) rises strictly and holds no default. -/
def SMap.wfFrom {α : Type} [DecidableEq α] (d : α) : Nat → SMap α → Bool
  | _, [] => true
  | lo, (k, v) :: m => decide (lo ≤ k) && decide (v ≠ d) && SMap.wfFrom d (k + 1) m

/-- The canonical form: keys strictly rising, no value equal to what an unlisted key reads as. -/
def SMap.wf {α : Type} [DecidableEq α] (d : α) (m : SMap α) : Bool :=
  SMap.wfFrom d 0 m

/-- The listed keys of a table. -/
def SMap.keys {α : Type} (m : SMap α) : List Nat :=
  m.map Prod.fst

/-- `n` consecutive keys from `lo` on, read in order. -/
def SMap.range {α : Type} (d : α) (m : SMap α) (lo : Nat) : Nat → List α
  | 0 => []
  | n + 1 => SMap.get d m lo :: SMap.range d m (lo + 1) n

/-- A list written at consecutive keys from `lo` on. -/
def SMap.putRange {α : Type} [DecidableEq α] (d : α) (m : SMap α) (lo : Nat) : List α → SMap α
  | [] => m
  | x :: xs => SMap.putRange d (SMap.set d m lo x) (lo + 1) xs

/-- Every listed key in [lo, hi) taken out. -/
def SMap.dropRange {α : Type} (m : SMap α) (lo hi : Nat) : SMap α :=
  m.filter fun p => decide (p.1 < lo ∨ hi ≤ p.1)

end Sys2Proof
end

