-- ==== Sys2Proof/Machine/State.lean ====
section
/-! DEFINITION. The state of one Abxis as plain data. Every object-dictionary entry that is stored is one cell of
`Dict.cells` (settings, counters and status words alike; its reset value is the entry's default in Machine/OdTable.lean);
what the manual gives the machine besides the dictionary stands in the structures here. Each field's docstring names
the rule that gives it and its reset value. -/

namespace Sys2Proof.Machine

/-- Why a step stops. -/
inductive Fault where
  /-- The sensed fuse array carries a GRADE or BAD_CORE code that R2 and R405 call reserved; raised by FUSE_READ_COMPLETE. Safe: the machine stops. -/
  | reservedFuse
  deriving DecidableEq, Repr

/-- Why a command has no meaning. -/
inductive Refusal where
  /-- The command has no meaning in the model yet; answered by exec's arms only. Safe. -/
  | notModelled (mnemonic : String)
  deriving DecidableEq, Repr

/-! ### Core -/

/-- The marks V (void), K (skip) and S (saturated) of R74. -/
structure Marks where
  v : Bool := false
  k : Bool := false
  s : Bool := false
  deriving DecidableEq, Repr

/-- An operand register or activation word: 64 bits, marks, the 4-bit block tag of R119 and the CAUSE of its void. -/
structure Opr where
  val : Word64 := 0
  marks : Marks := {}
  bt : BitVec 4 := 0
  cause : Byte := 0
  deriving DecidableEq, Repr

/-- An open block group on an accumulator (R120, R121): group exponents, group tag, scales, scale tile, steps done and
the block sum in progress. -/
structure Group where
  xe : List Int := []
  g : BitVec 4 := 0
  ea : Word64 := 0
  tile : Nat := 0
  step : Nat := 0
  sum : List Int := []
  bad : Bool := false
  deriving DecidableEq, Repr

/-- An accumulator register: eight signed 32-bit lanes (an empty list is eight zeros), marks, group (R55, R71, R120). -/
structure AccReg where
  lanes : List Int := []
  marks : Marks := {}
  cause : Byte := 0
  grp : Option Group := none
  filled : Nat := 0
  deriving DecidableEq, Repr

/-- A merge register: eight signed 48-bit lanes and marks (R55, R88). -/
structure Mg where
  lanes : List Int := []
  marks : Marks := {}
  cause : Byte := 0
  deriving DecidableEq, Repr

/-- A token waiting in a queue: flit, route label and the outputs of a multicast already served (R64, R66). -/
structure Tok where
  flit : Flit
  label : Nat := 0
  served : Nat := 0
  deriving DecidableEq, Repr

/-- A decision record leaving the fabric (R17, R83): core, bits, EPOCH it carries, cycle it left. -/
structure RecOut where
  core : Nat
  bits : Word64
  epoch : Nat
  cycle : Nat
  deriving DecidableEq, Repr

/-- Values that a write on its way has not yet replaced (R73, R77, R83): (register or address, fabric cycles for which the
value still stands, the value), in the order in which the writes of one register land. -/
abbrev Late (α : Type) := List (Nat × Nat × α)

/-- What a core's pipeline has counted and not yet reported (R95): accumulator lanes clamped, VOID tokens emitted,
STEER_MISMATCH and SCALE_SKEW events. -/
structure CoreRep where
  accSat : Nat := 0
  voidOut : Nat := 0
  mm : Nat := 0
  skew : Nat := 0
  deriving DecidableEq, Repr

/-- A frame-table entry (R81), with the block number of R129 and the bank of R242. -/
structure FrameEnt where
  ftag : Word16 := 0
  void : Bool := false
  skip : Bool := false
  sat : Bool := false
  stale : Bool := false
  cause : Byte := 0
  entry : Nat := 0
  /-- R74. The frame was accepted as void, so that its loads take no flit. -/
  dead : Bool := false
  /-- R89. Source label a MERGE frame was accepted from; 16 when any source serves. -/
  src : Nat := 16
  blk : Nat := 0
  newBank : Bool := false
  deriving DecidableEq, Repr

/-- One core (R55), home or spare, by PCID (R151). All registers are zero at reset and at every activation (R179). -/
structure Core where
  /-- Loaded by the running image, so that it takes part in the fabric; R95 a MICROCODE section targets it. -/
  loaded : Bool := false
  program : Bool := false
  /-- R55, R82. Microcode memory, 256 × 64 bits. -/
  micro : SMap Word64 := []
  /-- R84, R85, R89, R118, R478. Control settings. -/
  ctrl : CoreCtrl := {}
  /-- R105. Requantiser table, 64 × 128 bits. -/
  req : SMap (BitVec 128) := []
  /-- R87. Lookup points, 256 × 16 bits. -/
  lut : SMap Int := []
  /-- R76. Weight SRAM, 32,768 bytes. -/
  weights : SMap Byte := []
  /-- R77, R119. Activation SRAM, 1,024 words with marks and block tags: the newest values, and R77 those still read. -/
  act : SMap Opr := []
  actOld : Late Opr := []
  /-- R55. OPR0 to OPR31: the newest values, and R83 those still read. -/
  opr : SMap Opr := []
  oprOld : Late Opr := []
  /-- R55. ACC0 to ACC15: the newest values, which a step adds to, and R73 those a read still sees. -/
  acc : SMap AccReg := []
  accOld : Late AccReg := []
  /-- R55. MG0 to MG3: the newest values, and R83 those still read. -/
  mg : SMap Mg := []
  mgOld : Late Mg := []
  /-- R84. Loop counters LC0 to LC2, 16 bits each. -/
  lc0 : Nat := 0
  lc1 : Nat := 0
  lc2 : Nat := 0
  /-- R84. Microcode address, 8 bits. -/
  pc : Nat := 0
  /-- R79. A body is running. -/
  running : Bool := false
  /-- R80. Fabric cycles since the last body started, and since it ended. -/
  age : Nat := 0
  rest : Nat := 0
  /-- R81. Frame table, newest first, at most 8 entries. -/
  ftab : List FrameEnt := []
  /-- R62, R91. Expected frame tag, and whether a BOF has set it since activation. -/
  expect : Word16 := 0
  expectSet : Bool := false
  /-- R60. Stream named by the last BOF. -/
  stream : Nat := 0
  /-- R69. Input FIFO: data and control queues, oldest first. -/
  fifoD : List Tok := []
  fifoC : List Tok := []
  /-- R93. The current frame's EOF has been seen. -/
  eofSeen : Bool := false
  /-- R89. Source a SELECT has named for the expected frame in MERGE mode; tokens of the expected frame taken off the control
  head before its acceptance, as (label, KIND, CAUSE): log entry 20. -/
  mergeSel : Option Nat := none
  taken : List (Nat × Nat × Byte) := []
  /-- R91. Steering tags of the frames whose mismatch has been counted. -/
  mmTags : List Nat := []
  /-- R60, R70. Steering tags of frames to come that a malformed (false) or stale (true) token has voided. -/
  hurt : List (Nat × Bool) := []
  /-- R68. Tokens emitted and not yet in the router's local queue: fabric cycles left, control channel, token. -/
  out : List (Nat × Bool × Tok) := []
  /-- R83. Decision records emitted in this cycle. -/
  recs : List RecOut := []
  /-- R95. Counts not yet reported. -/
  rep : CoreRep := {}
  /-- R242. SWTAG when armed; R76 the bank that frames before the swap use is B. -/
  arm : Option Word16 := none
  bankB : Bool := false
  /-- R78. Weight words whose first failure is recorded, with its cycle. -/
  weightFail : SMap Nat := []
  /-- R94. Cycle of the last ROUTE_FAULT. -/
  routeFault : Option Nat := none
  /-- R111. Saturations counted per layer and not yet reported to the hub. -/
  satPend : SMap Nat := []
  /-- R64. Route tables, and the 8 control templates. -/
  routes : SMap Nat := []
  templates : SMap Word64 := []
  deriving DecidableEq, Repr

/-- A word of cluster memory: 64 data bits, block tag, marks M, V, K (R136). -/
structure DeckWord where
  data : Word64 := 0
  bt : BitVec 4 := 0
  m : Bool := false
  v : Bool := false
  k : Bool := false
  deriving DecidableEq, Repr

/-- A deck READ under way (R138): deck entry by number and contents, frame slot, the token that triggered it with its channel and
its full frame tag, whether a word of the slot cannot be corrected, the cycle of the first read, and the next word. -/
structure DeckRead where
  num : Nat
  entry : Nat
  slot : Nat
  flit : Flit
  ctrl : Bool
  ftag : Nat
  bad : Bool := false
  due : Nat := 0
  next : Nat := 0
  deriving DecidableEq, Repr

/-- One physical cluster (R131 to R138). -/
structure Cluster where
  /-- R133. Outbound and inbound gateway tables, 16 entries each. -/
  outbound : SMap Nat := []
  inbound : SMap Nat := []
  /-- R137. Deck table, 64 entries of 64 bits. -/
  deck : SMap Nat := []
  /-- R136. Cluster memory, 131,072 words. -/
  mem : SMap DeckWord := []
  /-- R138. Data flits written so far of the frames in progress, per deck entry: (STAG, count), newest first; words written
  and not yet readable: (address, first cycle at which the new word is read, the old one). -/
  wr : SMap (List (Nat × Nat)) := []
  memOld : List (Nat × Nat × DeckWord) := []
  /-- R138. READs under way, oldest first. -/
  reads : List DeckRead := []
  /-- R141. Truss route tables. -/
  truss : SMap Nat := []
  /-- R134. Stood-in position plus one; 0 none. -/
  standIn : Nat := 0
  /-- R412. The spare is bad or used up by a fence. -/
  spareBad : Bool := false
  /-- R153, R481. DEGRADED until the next power-up. -/
  degraded : Bool := false
  /-- R159. Cycle of the last GATEWAY_FAULT by edge, of the last TRUSS_ROUTE_FAULT, of a failed word. -/
  gwFault : SMap Nat := []
  trussFault : Option Nat := none
  wordFail : SMap Nat := []
  /-- R159. Banks of cluster memory out of service, as a mask. -/
  banksOut : Nat := 0
  /-- R412. The truss router failed self-test and is fenced. -/
  trussFenced : Bool := false
  deriving DecidableEq, Repr

/-- An injection buffer's entry (R15, R16, R51): stream and tick, the cycle at which its tokens enter the fabric when the die
has no lag, and those that have not entered: key of the edge router's queue, control channel, token. -/
structure Inject where
  stream : Nat
  tick : Nat
  cycle : Nat := 0
  left : List (Nat × Bool × Tok) := []
  deriving DecidableEq, Repr

/-- The fabric: cores, clusters, queues (R63, R132, R140, R142, R146). -/
structure Fabric where
  cores : SMap Core := []
  clusters : SMap Cluster := []
  /-- R134, R477. Fenced cores and fenced positions by PCID. -/
  fencedCores : SMap Bool := []
  fencedPos : SMap Bool := []
  /-- R63. Router input queues by (PCID × 5 + port) × 2 + channel; round-robin pointers by PCID × 5 + output. -/
  routerQ : SMap (List Tok) := []
  rr : SMap Nat := []
  /-- R132. Gateway queues from the mesh by (cluster × 12 + edge) × 2 + channel, and from the truss by
  (3072 + cluster × 8 + lane) × 2 + channel. -/
  gateQ : SMap (List Tok) := []
  /-- R147. Round-robin pointers of the gateway by cluster × 20 + output (truss lanes 0 to 7, then the 12 edges), of the deck by
  cluster × 16 + bank. -/
  gateRr : SMap Nat := []
  deckRr : SMap Nat := []
  /-- R140. Truss input queues by ((cluster × 6 + port) × 8 + lane) × 2 + channel; pointers by (cluster × 6 + port) × 8 + lane. -/
  trussQ : SMap (List Tok) := []
  trussRr : SMap Nat := []
  /-- R142. Flits granted into a viaduct channel, by (((viaduct × 64 + channel) × 8 + lane) × 2 + control) × 2 + back. -/
  viaQ : SMap (List Tok) := []
  /-- R146. Hub switch input queues, by ((die × 64 + channel) × 4 + lane) × 2 + channel, with die 4 for the hub blocks and a
  block's number for its channel; R147 round-robin pointers by output die. -/
  hubQ : SMap (List Tok) := []
  hubRr : SMap Nat := []
  /-- R63, R138. Tokens in flight to a core's input FIFO, by (position PCID) × 2 + channel; tokens in flight to a deck port,
  by cluster × 2 + channel. -/
  localQ : SMap (List Tok) := []
  deckQ : SMap (List Tok) := []
  /-- R135. Cycles of recent LINK_UE per link, by receiving PCID × 5 + input port. -/
  linkUe : SMap (List Nat) := []
  /-- R159. Cycles of recent VIADUCT_UE per viaduct channel; viaducts degraded. -/
  viaUe : SMap (List Nat) := []
  viaBad : List Nat := []
  /-- R51. Injection buffers per die, oldest first. -/
  inject : SMap (List Inject) := []
  /-- R83, R17. Decision records leaving the fabric, oldest first: (core, record bits). -/
  recordsOut : List RecOut := []
  deriving DecidableEq, Repr

/-! ### Ingest and decision -/

/-- A detector's state (R282): none before its first sample after a reset. -/
structure Comp where
  a : Option Bool := none
  b : Option Bool := none
  /-- R284. Widths in progress of the positive and the negative measurement, and whether the timeout has fired. -/
  pos : Option Nat := none
  neg : Option Nat := none
  firedP : Bool := false
  deriving DecidableEq, Repr

/-- Trigger-logic settings in force at a frame's admission (R292). -/
structure TrigCfg where
  terms : List (Nat × Nat × Nat) := []
  thr : Nat := 0
  thrMode : Nat := 0
  accSrc : Nat := 0
  deriving DecidableEq, Repr

/-- A frame in the alignment buffer (R265): its SEQ, the lane blocks in (lane, header, samples). A dead frame has been discarded,
at its deadline or for want of room; its lanes are still followed, without their bytes, so that it counts when it completes. -/
structure AlignFrame where
  seq : Nat
  parts : List (Nat × List Byte × List Byte) := []
  complete : Bool := false
  dead : Bool := false
  deriving DecidableEq, Repr

/-- The ingest unit of one stream (R258 to R289). -/
structure Ingest where
  /-- R265. Alignment buffer, at most 8 frames that are not dead. -/
  align : List AlignFrame := []
  /-- R267. The next tick is marked void at its deadline. -/
  voidMark : Bool := false
  /-- R267. A lane block of the next tick failed a check. -/
  checkFail : List Nat := []
  /-- R281, R282. Comparators by channel. -/
  comps : SMap Comp := []
  /-- R286. The last tick was void, or admission has just resumed: comparators reset at the next complete frame. -/
  needReset : Bool := true
  /-- R289. No complete frame has come since the resume tick. -/
  firstFrame : Bool := true
  /-- R266. SEQ_OFS is still to be learned. -/
  learn : Bool := false
  deriving DecidableEq, Repr

/-- A decision record (R294). -/
structure Rec where
  accept : Nat := 0
  score : Int := 0
  ftag : Nat := 0
  late : Bool := false
  void : Bool := false
  repair : Bool := false
  sat : Bool := false
  stale : Bool := false
  logic : Bool := false
  stream : Nat := 0
  cause : Nat := 0
  deriving DecidableEq, Repr

/-- A frame admitted whose record has not been released (R46, R290, R292). -/
structure Flight where
  tick : Nat
  bnd : Nat
  p : Nat
  void : Bool
  cause : Nat
  inputs : Nat
  cfg : TrigCfg
  hdr : List Nat := []
  /-- R188. A hard retune has made its record stale. -/
  stale : Bool := false
  deriving DecidableEq, Repr

/-- The decision unit of one stream (R46 to R50, R271, R478). -/
structure Decide where
  /-- R290. Frames in flight, oldest first. -/
  flights : List Flight := []
  /-- R45, R47. Deadline buffer, at most 64 records: (record, arrival cycle). -/
  buffer : List (Rec × Nat) := []
  /-- R48. Ticks whose substitute has been released and whose record has not come. -/
  substituted : List Nat := []
  /-- R272. Records released, newest first, with release cycle and deadline, kept for the decision lanes. -/
  released : List (Rec × Nat × Nat) := []
  /-- R178, R296. Whether the stream has no record to release, so that its pins stand at the fail-safe level: (first cycle,
  so), newest first. -/
  failsafe : List (Nat × Bool) := [(0, true)]
  deriving DecidableEq, Repr

/-- A stream's contribution to a TRIGOUT pin (R295): in level mode, (first cycle, level), newest first; in pulse mode,
(first cycle, end) of its pulses, newest first. -/
structure PinPart where
  levels : List (Nat × Bool) := []
  pulses : List (Nat × Nat) := []
  deriving DecidableEq, Repr

/-- A decision burst in preparation or on its way (R271, R272): deadline D of its tick, frame tag, the records of its slots
so far by rank, and whether its marker has left. -/
structure Burst where
  deadline : Nat := 0
  ftag : Nat := 0
  slots : List (Option Word64) := []
  started : Bool := false
  deriving DecidableEq, Repr

/-- One data lane besides its dictionary cells (R259 to R278). -/
structure Lane where
  /-- R276. SEQ of the last lane block taken; consecutive lane blocks in error. -/
  lastSeq : Option Nat := none
  badRun : Nat := 0
  /-- R276. Cycle at which the lane left OFF, or from which its training time counts. -/
  leftOff : Nat := 0
  /-- R262. Zero syndromes in a row, uncorrectable codewords in a row. -/
  fecGood : Nat := 0
  fecBad : Nat := 0
  /-- R276. Lane blocks that passed their checks in DELINEATE, newest first, with the cycle of each. -/
  held : List (List Byte × Nat) := []
  /-- R268. Burst count of the lane, and the bytes of the last burst sent. -/
  bseq : Nat := 0
  wire : List Byte := []
  /-- R269. Deep records queued, at most 1,024. -/
  deepQ : List (BitVec 128) := []
  /-- R308, R309. Segments ready for this lane: (stream, slot), and the next chunk of the first. -/
  readoutQ : List (Nat × Nat) := []
  chunk : Nat := 0
  /-- R270. Held out of DATA by a lower licence envelope. -/
  heldOff : Bool := false
  /-- R277. Last bits of the checker, newest first, and error-free bits in a row before it locks. -/
  chk : List Bool := []
  chkRun : Nat := 0
  /-- R278. Bits inverted so far, and the time of the last periodic one. -/
  injected : Nat := 0
  injAt : Nat := 0
  /-- R271, R272. Decision burst in preparation; deadline of the last one begun. -/
  burst : Option Burst := none
  lastBurst : Nat := 0
  /-- R256. Time from which the units of the transmit side are counted, units accounted for since, and units sent since the last
  filler. -/
  fillFrom : Nat := 0
  fillSent : Nat := 0
  fillRun : Nat := 0
  deriving DecidableEq, Repr

/-! ### Capture -/

/-- A capture frame in the copy queue (R298, R300). -/
structure CapFrame where
  tick : Nat
  void : Bool
  bytes : List Byte
  deriving DecidableEq, Repr

/-- A capture segment (R299 to R308). Status: 0 free, 1 in progress, 2 under test, 3 gated, 4 ready. -/
structure Seg where
  status : Nat := 0
  segno : Nat := 0
  /-- R301. HBM address. -/
  base : Nat := 0
  armTick : Nat := 0
  w : Nat := 0
  fb : Nat := 0
  /-- R302. First tick held, and ticks held. -/
  first : Nat := 0
  nticks : Nat := 0
  trig : Option (Nat × Rec) := none
  hfields : List Nat := []
  ovf : Bool := false
  trunc : Bool := false
  tested : Bool := false
  failed : Bool := false
  averaged : Bool := false
  kept : Bool := false
  gateTimeout : Bool := false
  ovfLost : Nat := 0
  voids : Nat := 0
  viol : Nat := 0
  violFirst : Nat := 0
  violCh : Nat := 0
  deriving DecidableEq, Repr

/-- The capture engine of one stream (R299). -/
structure Capt where
  /-- R299. State 0 IDLE, 1 FILL, 2 ARMED, 3 POST, 4 STOPPED; stop reason of CAPT_STATE. -/
  st : Nat := 0
  reason : Nat := 0
  /-- R300. Copy queue, at most 64 frames, and capture triggers that wait for the segment in POST to end: (tick, record,
  header fields). -/
  queue : List CapFrame := []
  trigs : List (Nat × Rec × List Nat) := []
  /-- R300. The tick after the last capture frame written, or dropped while no segment is in progress. -/
  seen : Nat := 0
  /-- R301. Segments by slot in ring order; the slot in progress; the next slot. -/
  segs : SMap Seg := []
  cur : Nat := 0
  nextSlot : Nat := 0
  /-- R299, R303. OVF marks the next segment; triggers lost while STOPPED. -/
  ovfNext : Bool := false
  lost : Nat := 0
  /-- R307. Verdicts held: (tick, READOUT). -/
  verdicts : List (Nat × Nat) := []
  deriving DecidableEq, Repr

/-! ### Deep path and adaptation -/

/-- A handoff entry (R204, R206): its 512 bits without DRONE48, and the tick it belongs to. -/
structure Handoff where
  bits : BitVec 512
  tick : Nat
  deriving DecidableEq, Repr

/-- A work item of the deep path (R215 to R217). KIND 0 candidate, 1 periodic. -/
structure Item where
  tick : Nat
  stream : Nat
  kind : Nat
  score : Int := 0
  delay : Nat := 0
  slot : Nat := 0
  deriving DecidableEq, Repr

/-- A recall request (R211) and its result (R212, R213). -/
structure Recall where
  core : Nat
  stream : Nat
  flat : Bool
  k : Nat
  n48 : Nat
  q : List Int
  deriving DecidableEq, Repr

structure RecallHit where
  score : Int
  age : Nat
  vscale : Nat
  flags : Nat
  value : BitVec 256
  deriving DecidableEq, Repr

/-- One cluster quad as the deep path sees it (R202, R203, R453), by power domain 16d + q: step in force, whether the
running deep slot is skipped, step asked for and its deferrals (8 once abandoned), reset due to recurrence state. -/
structure QuadSt where
  step : Nat := 8
  skipped : Bool := false
  want : Nat := 8
  defer : Nat := 0
  resetDue : Bool := false
  /-- R210. Ticks still to be processed after a reset of the quad's recurrence state. -/
  zLeft : Nat := 0
  deriving DecidableEq, Repr

/-- The deep path (R199 to R223). -/
structure Deep where
  /-- R204, R205. Handoff rings by stream, oldest first; streams that have raised HANDOFF_OVERRUN in this deep slot. -/
  rings : SMap (List Handoff) := []
  ovrSeen : List Nat := []
  /-- R212. Last tick written to history per stream, plus one. -/
  writtenTo : SMap Nat := []
  /-- R215. Candidates of the deep slot in progress, and how many it has taken. -/
  cands : List Item := []
  candCount : Nat := 0
  /-- R215, R217. Entries the list of the deep slot before has taken; candidates given to the deep slot in progress. -/
  prevCount : Nat := 0
  allotted : Nat := 0
  /-- R216, R217. Work of the slot in progress; spill queue; item in service. -/
  work : List Item := []
  spill : List Item := []
  serving : Option Item := none
  /-- R199. Cycle and tick at which the deep slot began; a deep slot runs. -/
  start : Nat := 0
  startTick : Nat := 0
  active : Bool := false
  /-- R330. Candidates served in this deep slot: (stream, tick). -/
  served : List (Nat × Nat) := []
  /-- R222. Records held for STRICT release: (due cycle, record). -/
  held : List (Nat × BitVec 128) := []
  /-- R221. The last record delivered. -/
  lastResult : Option (BitVec 128) := none
  /-- R211. Requests waiting; results of those started: request, hits and the H flag; the last response's flits. -/
  requests : List Recall := []
  results : List (Recall × List RecallHit × Bool) := []
  response : List Word64 := []
  /-- R202, R453. Quads. -/
  quads : SMap QuadSt := []
  /-- R209. Entries drained for the recurrence layers, by stream: (tick, entry), oldest first. -/
  feed : SMap (List Handoff) := []
  /-- R206. Frame tag of the last handoff entry of a stream, plus one. -/
  handTag : SMap Nat := []
  /-- R201. Refreshes of the last window against those of a window below 85 °C at 400 MHz or more, as a fraction; whether a stack was
  above 85 °C; the last window's cycle. -/
  refresh : Nat × Nat := (1, 1)
  hot : Bool := false
  lastWindow : Nat := 0
  deriving DecidableEq, Repr

/-- A label event (R230): tick, stream, label, KIND (0 candidate, 1 periodic, 2 calibration). -/
structure Label where
  tick : Nat
  stream : Nat
  label : Nat
  kind : Nat
  deriving DecidableEq, Repr

/-- A sample: label and the entry's VALUE with VSCALE (R232). -/
structure Sample where
  label : Nat
  value : BitVec 256
  vscale : Nat
  deriving DecidableEq, Repr

/-- Counts of one period for its update record (R246). -/
structure PeriodStats where
  samples : Nat := 0
  late : Nat := 0
  skip : Nat := 0
  excess : Nat := 0
  clips : Nat := 0
  deriving DecidableEq, Repr

/-- An adaptation group (R226 to R246). -/
structure Grp where
  /-- R227. Masters by weight, an unlisted one at its baseline, none listed while all are; moments by block: (scale, elements). -/
  masters : SMap Int := []
  m : SMap (Nat × List Int) := []
  v : SMap (Nat × List Int) := []
  /-- R231. Label set of each open period, in ascending tick and stream. -/
  sets : SMap (List Label) := []
  /-- R232. Last period cut, plus one, and its samples until they are used. -/
  cutTo : Nat := 0
  samples : List Sample := []
  /-- R240, R241. Period whose update waits for its banks to be written; period whose swap is due. -/
  unwritten : Option Nat := none
  ready : Option Nat := none
  /-- R243. Rollback cause waiting for its swap tick. -/
  cause : Option Nat := none
  /-- R242. Armed with SWTAG. -/
  armed : Option Nat := none
  /-- R246. Counts by period. -/
  stats : SMap PeriodStats := []
  deriving DecidableEq, Repr

/-! ### Audit and replay -/

/-- An audit event entry (R323): type, tick, payload bytes [63:8]. -/
structure AudEvent where
  etype : Nat
  tick : Nat
  payload : List Byte := []
  deriving DecidableEq, Repr

/-- A part of an audit window (R320 to R322). -/
structure Part where
  /-- R319. WRAP × 2^32 + WIN, and the first tick the part covers. -/
  win : Nat
  part : Nat
  start : Nat := 0
  flags : Nat := 0
  first : Option Nat := none
  last : Option Nat := none
  crc : SMap Nat := []
  events : List AudEvent := []
  prog : Nat := 0
  weight : Nat := 0
  deriving DecidableEq, Repr

/-- A completed seal in the log (R327): the byte string of R322 and the seal value. -/
structure SealEntry where
  win : Nat
  part : Nat
  body : List Byte
  value : Nat
  read : Bool := false
  deriving DecidableEq, Repr

/-- The audit sealer (R319 to R327). -/
structure Audit where
  cur : Option Part := none
  closed : List Part := []
  waiting : List AudEvent := []
  /-- R320. Window and part number of the last part opened. -/
  lastWin : Option Nat := none
  lastPart : Nat := 0
  /-- R322, R324. Seal value of the last seal made; a seal has been made since power-up. -/
  prev : Nat := 0
  made : Bool := false
  log : List SealEntry := []
  /-- R325. First unsealed tick while the sealer is off. -/
  gap : Option Nat := none
  gapEvents : List AudEvent := []
  deriving DecidableEq, Repr

/-- An entry of the recording (R329, R330). -/
structure RecEnt where
  rtype : Nat
  tick : Nat
  stream : Nat := 0
  aux : Nat := 0
  payload : List Byte := []
  deriving DecidableEq, Repr

/-- The recorder and the replay reader (R328 to R336). -/
structure Tape where
  /-- R329. Region offset of the next entry; entries held, oldest first: (offset, bytes, RTYPE, tick). -/
  ptr : Nat := 4096
  held : List (Nat × Nat × Nat × Nat) := []
  /-- R330. Entries waiting for the next tick boundary. -/
  waiting : List RecEnt := []
  /-- R328. The recording ends at the next tick boundary. -/
  stopDue : Bool := false
  /-- R334. Replay: running, requested for its activation, region offset of the ANCHOR it repeats, replay count, last tick. -/
  replaying : Bool := false
  starting : Bool := false
  rdPtr : Nat := 0
  count : Nat := 0
  endTick : Nat := 0
  /-- R336. PREV taken from the recording for the next replayed part. -/
  prev : Nat := 0
  /-- R320. Window and part the device's own chain opened last before the replay, which go on after it. -/
  ownWin : Option Nat := none
  ownPart : Nat := 0
  deriving DecidableEq, Repr

/-! ### Girder -/

/-- A roster entry (R353). State 0 free, 1 MEMBER, 2 LEFT, 3 LOST. -/
structure RosterEnt where
  serial : Nat := 0
  grade : Nat := 0
  stepping : Nat := 0
  depth : Nat := 0
  parent : Nat := 0
  port : Nat := 0
  state : Nat := 0
  joins : Nat := 0
  changed : Nat := 0
  /-- R350. TCOUNT at which a departed address was freed; R352 heartbeats missed in a row. -/
  freedAt : Nat := 0
  reserved : Bool := false
  missed : Nat := 0
  deriving DecidableEq, Repr

/-- A Girder port (R341, R346, R355). -/
structure GPort where
  /-- R344, R346. LSEQ of the next reliable frame sent, and of the next to be received. -/
  txSeq : Nat := 0
  rxSeq : Nat := 0
  /-- R346. Unacknowledged reliable frames: (LSEQ, the frame's bytes), oldest first, of which the first 16 have been sent; resends
  of the oldest. -/
  unacked : List (Nat × List Byte) := []
  resends : Nat := 0
  /-- R355. Twice the last values of d, newest first, in 2^-16 ns. -/
  delays : List Int := []
  /-- R355, R359. Residence: turn-round time sent last. -/
  lastResp : Nat := 0
  /-- R344. TYPE and payload of the last frame sent on this port, and its bytes from the header to the CRC. -/
  sent : Option (Nat × List Byte) := none
  wire : List Byte := []
  deriving DecidableEq, Repr

/-- The Girder agent (R339 to R368). -/
structure Girder where
  upstream : Option Nat := none
  ports : SMap GPort := []
  /-- R353. Roster by address; R347 port by address; R349 port by serial of a pending join. -/
  roster : SMap RosterEnt := []
  routes : SMap Nat := []
  pendJoin : SMap Nat := []
  /-- R345. Beacons, heartbeats and syncs sent. -/
  beacons : Nat := 0
  hopsIn : Nat := 0
  mgrSerial : Nat := 0
  /-- R351. Firmware being sent to address, and the manager's store. -/
  fwStore : SMap Byte := []
  fwPush : SMap Nat := []
  /-- R357. Delay measurements since ALIGNING; R356 SYNC intervals since one. -/
  measured : Nat := 0
  syncs : Nat := 0
  /-- R366. Servo integrator, last MGR_RATE of the manager. -/
  servoI : Int := 0
  mgrRate : Int := 0
  /-- R392. Request forwarded: (address, TAG, operation). -/
  forward : Option (Nat × Nat × OdOp) := none
  /-- R361. Launch outstanding: COUNT and the targets that have not answered. -/
  launchCount : Nat := 0
  launchOpen : Bool := false
  /-- R368. A holdover runs since this cycle. -/
  holdover : Option Nat := none
  /-- R404. Ports whose receiver has locked. -/
  locked : List Nat := []
  /-- R361. Launches accepted and waiting: PLUCK counts. -/
  pluckAt : List Nat := []
  /-- R368. The PLLs have stopped for want of a reference; no reference at all is left. -/
  refStopped : Bool := false
  refDead : Bool := false
  /-- R348. JOIN_CMD has been written and no beacon has come since. -/
  joinWanted : Bool := false
  /-- R357, R359. Last SYNC taken: payload, ingress and K, both in 2^-16 ns. -/
  lastSync : Option (SyncMsg × Int × Int) := none
  deriving DecidableEq, Repr

/-- A time base (R363): offset in 2^-16 ns, anchor in TCOUNT. Its rate and mode are dictionary cells. -/
structure TimeBase where
  ofs : Int := 0
  anchor : Nat := 0
  deriving DecidableEq, Repr

/-! ### Dictionary, host, faults -/

/-- A timed transaction (R385): resolved items (cell key, entry index and sub, unit, value bytes), TAG, commit tick, source. -/
structure Txn where
  items : List (Nat × Nat × Nat × List Byte) := []
  tag : Nat := 0
  commitAt : Nat := 0
  girder : Bool := false
  deriving DecidableEq, Repr

/-- A response message (R380 to R382). -/
structure Resp where
  tag : Nat := 0
  op : OdOp := .read
  status : Nat := 0
  failItem : Nat := 0xFFFF
  tick : Nat := 0
  items : List (Nat × Nat × Nat × List Byte) := []
  deriving DecidableEq, Repr

/-- The object dictionary (R371 to R390). -/
structure Dict where
  /-- R371. Stored entries: value in force by (index × 256 + sub) × 65536 + unit. -/
  cells : SMap Nat := []
  /-- R374. Pending DAMP and LOAD values, with the tick at which each was committed. -/
  damp : SMap (Option (Nat × Nat)) := []
  load : SMap (Option (Nat × Nat)) := []
  /-- R385. Timed transactions in order of acceptance, at most 8. -/
  txns : List Txn := []
  /-- R387. A READ that waits for its sampling boundary: message, boundary, source. -/
  read : Option (OdMsg × Nat × Bool) := none
  /-- R390. Requests that wait while another is in service, oldest first: operation, message, source (true over Girder). -/
  waiting : List (OdOp × OdMsg × Bool) := []
  /-- R380. The last response given: to the host's mailbox, or to the manager (R393). -/
  girderResp : Option Resp := none
  deriving DecidableEq, Repr

/-- An entry of the event ring (R394). -/
structure Evt where
  code : Nat
  flags : Nat := 0
  drone : Nat := 0
  tcount : Nat := 0
  loc : Nat := 0xFFFF
  count : Nat := 1
  detail : Nat := 0
  deriving DecidableEq, Repr

/-- Host attachment (R376 to R399). -/
structure HostIf where
  /-- R378. Mailbox: READY, BUSY, DONE, OVERRUN, the response held, interrupt enable. -/
  ready : Bool := false
  busy : Bool := false
  done : Bool := false
  overrun : Bool := false
  resp : Resp := {}
  irqEn : Bool := false
  /-- R395. Event ring. -/
  ring : SMap (Option Evt) := []
  head : Nat := 0
  tail : Nat := 0
  lost : Nat := 0
  modUs : Nat := 0
  lostMark : Bool := false
  /-- R395, R396. Signals sent per vector, vectors spaced by EVT_MOD and vectors with a signal held back. -/
  signals : SMap Nat := []
  spacing : List Nat := []
  heldBack : List Nat := []
  /-- R376. MSI-X table words (a vector's control word is 1, masked, at reset: log entry 18) and pending bits. -/
  msix : SMap Nat := []
  pba : Nat := 0
  /-- R398. BAR2 window base, the last completion (poisoned, bytes), TCOUNT of the last BAR2_DENIED. -/
  winBase : Nat := 0
  completion : Option (Bool × List Byte) := none
  deniedAt : Option Nat := none
  deriving DecidableEq, Repr

/-- An error record (R469). -/
structure ErrRec where
  code : Nat
  sev : Nat
  raised : Nat
  level : Nat
  escalated : Bool := false
  counted : Bool := false
  safe : Bool := false
  drone : Nat := 0
  tcount : Nat := 0
  loc : Nat := 0xFFFF
  unit : Nat := 0
  secondary : Nat := 0
  detail : Nat := 0
  logseq : Nat := 0
  /-- R472. ERR_AUTOCLEAR in force when it was made. -/
  auto : Nat := 0
  cycle : Nat := 0
  deriving DecidableEq, Repr

/-- An error unit (R465). -/
structure ErrUnit where
  primary : Option ErrRec := none
  secondary : Nat := 0
  deriving DecidableEq, Repr

/-- A fence in repair (R478 to R481): core by PCID, detection cycle, stream mask, whether its cluster is DEGRADED, whether the
load of the stand-in has begun and the cycle in which it completed, the tick of its connection, the first repaired tick once
known. -/
structure Repair where
  core : Nat
  detected : Nat
  mask : Nat
  degraded : Bool := false
  started : Bool := false
  loaded : Option Nat := none
  connect : Option Nat := none
  first : Option Nat := none
  /-- R185, R482. Fenced while no frame can be in flight: LOAD, RAMP, HOLD, or no configuration yet. -/
  idle : Bool := false
  /-- R479, R481. The window's event has been entered. -/
  sealed : Bool := false
  deriving DecidableEq, Repr

/-- A snapshot bank (R485, R486). -/
structure Snap where
  taken : Bool := false
  copied : Bool := false
  no : Nat := 0
  src : Nat := 0
  ecode : Nat := 0
  drone : Nat := 0
  cycle : Nat := 0
  tcount : Nat := 0
  vals : SMap Nat := []
  deriving DecidableEq, Repr

/-- Error units, log, SAFE, Pluck (R465 to R486). -/
structure Faults where
  units : SMap ErrUnit := []
  /-- R473. Error log, newest first, at most 256 records. -/
  log : List ErrRec := []
  /-- R474. SAFE, the cycle of its entry, and its drain has ended. -/
  safe : Bool := false
  safeAt : Nat := 0
  safeDrained : Bool := false
  repairs : List Repair := []
  /-- R483, R484. Plucks on their way, by rising latch cycle: (latch cycle, source bits, event code); the last latch cycle, and
  the bank it took, 2 if it took none. -/
  pluck : List (Nat × Nat × Nat) := []
  lastLatch : Option Nat := none
  lastBank : Nat := 0
  bank0 : Snap := {}
  bank1 : Snap := {}
  deriving DecidableEq, Repr

/-! ### Bring-up, licences, power -/

/-- Bring-up (R402 to R415, R496). -/
structure Boot where
  /-- R496. PERST_N or a supply monitor holds the device in reset; true at power-up. -/
  inReset : Bool := true
  stage : Nat := 0
  err : Nat := 0
  halted : Bool := false
  strapRole : Nat := 0
  refdly : Nat := 0
  /-- R377. Staging window, image received, FW_STATUS. -/
  staging : SMap Byte := []
  image : SMap Byte := []
  received : Nat := 0
  copied : Bool := false
  verified : Bool := false
  refused : Bool := false
  /-- R351. The image in transfer comes over Girder (some true) or PCIe (some false); it is complete. -/
  source : Option Bool := none
  girderDone : Bool := false
  /-- R409. Presence held when FW_CMD was written. -/
  presence : Bool := false
  fwSlot : Nat := 0
  fwSvn : Nat := 0
  /-- R405. Shadow registers: the fuse array as sensed; R425 OTP bits programmed since. -/
  fuses : BitVec 8192 := 0
  otp : BitVec 8192 := 0
  fuseBusy : Option (Nat × Nat) := none
  test : SelfTest := {}
  /-- R415. Failed pseudo-channels. -/
  hbmFailed : Bool := false
  /-- R429, R504. Debug port. -/
  unlocked : Bool := false
  tap : TapInstr := .bypass
  tapOut : Nat := 0
  deriving DecidableEq, Repr

/-- Licences and presence (R416 to R424). -/
structure Licence where
  staged : SMap (Option Byte) := []
  checking : Bool := false
  installed : Bool := false
  features : Nat := 0
  clkMax : Nat := 400
  pcapMax : Nat := 90
  lanesMax : Nat := 32
  /-- R418, R419. Features the running configuration was activated with. -/
  runFeatures : Nat := 0
  /-- R420 to R422. PRESENT_N level; presence window end in TCOUNT; seal loop. -/
  presentN : Bool := true
  windowEnd : Option Nat := none
  sealIntact : Bool := true
  sealLatched : Bool := false
  deriving DecidableEq, Repr

/-- One die as the power manager sees it (R445 to R453). -/
structure DieSt where
  /-- R445. Setpoint demanded by the margin monitors, mV; a write is outstanding. -/
  demand : Nat := 750
  avsBusy : Bool := false
  retries : Nat := 0
  frozen : Bool := false
  boosted : Bool := false
  sinceLower : Nat := 0
  /-- R450. Stretching since, lag in cycles, cycle of the last stretch end, suppressed edges of the episode. -/
  stretch : Option Nat := none
  lag : Nat := 0
  lastEnd : Option Nat := none
  tripped : Bool := false
  overrun : Bool := false
  deriving DecidableEq, Repr

/-- Clocks, power and thermal control (R432 to R461). -/
structure Power where
  dies : SMap DieSt := []
  /-- R456. P_est of the last intervals in mW, newest first; intervals since the level moved; below the cap in a row. -/
  hist : List Nat := []
  sinceMove : Nat := 0
  below : Nat := 0
  capDemand : Nat := 0
  thermDemand : Nat := 0
  sinceUnmet : Nat := 4096
  /-- R444. Energy fraction in units of 2^-16 µJ. -/
  energyFrac : Nat := 0
  /-- R449. Hints that wait: (die mask, Drone count); boosts that act: (die mask, cycle at which each ends). -/
  hints : List (Nat × Nat) := []
  boost : List (Nat × Nat) := []
  /-- R439. Closed gates by block number. -/
  gates : SMap Bool := []
  /-- R435. What the bypass muxes 1 to 6 of the core PLLs of D0 to D3, the hub core PLL and the hub PLL pass (0 the reference, 1
  the PLL), and the CLKMON mux 7; the reference mux is REF_SRC. -/
  mux : SMap Nat := []
  /-- R461. Samples at 115 °C in a row per sensor (16d + i on die d, 64 to 67 on the hub); TRIPPED, THERMTRIP_N asserted. -/
  hot : SMap Nat := []
  tripped : Bool := false
  deriving DecidableEq, Repr

/-- A pending activation (R175, R179): slot, mode (0 soft, 1 hard), ACT_AT, ACT_RESUME_AT, and the TICKDIV a LAUNCH carried
(R360). -/
structure Activation where
  slot : Nat
  mode : Nat
  at_ : Nat
  resumeAt : Nat
  tickdiv : Option Nat := none
  deriving DecidableEq, Repr

/-- The running configuration and the activation in progress (R175 to R192). -/
structure Act where
  /-- R175. Activation pending. -/
  pending : Option Activation := none
  /-- R182. Slot being activated, hard retune, T_s, old P, resume count wanted. -/
  slot : Nat := 0
  hard : Bool := false
  ts : Nat := 0
  resumeAt : Nat := 0
  missed : Bool := false
  /-- R178. Admission is on. -/
  admitOn : Bool := false
  /-- R176, R177. T_r of the running configuration. -/
  tr : Nat := 0
  /-- R161. Header of the active image: streams used, features, history layout; a configuration is active. -/
  running : Bool := false
  streamMask : Nat := 0
  features : Nat := 0
  histLayout : Nat := 0
  /-- R179. The next resume tick marks the history rings empty. -/
  emptyHist : Bool := false
  /-- R164, R179. What the running image has loaded, in this device's coordinates. -/
  content : ImageContent := {}
  /-- R153, R157. Placement mask of the image running or being loaded, in this device's coordinates. -/
  mask : Nat := 0
  /-- R189. Cycle of the epoch sweep that is due; hard retunes barred. -/
  sweepAt : Option Nat := none
  barred : Bool := false
  /-- R190. Waves started, and the cycle of the first. -/
  waves : List Nat := []
  ramp0 : Nat := 0
  loadDone : Bool := false
  /-- R182. Cycle at which VERIFY began. -/
  since : Nat := 0
  /-- R164. By slot, what its sections without a byte layout in the spec decode to, as read when the slot was checked (log
  entry 9). -/
  images : SMap ImageContent := []
  /-- R167. By section of the active image, the bytes as loaded, with relocations and patches applied, where it has any. -/
  hub : SMap (List Byte) := []
  /-- R170. Expected digests of a slot's COMMIT; an OPEN has succeeded since power-up. -/
  expect : SMap (Nat × Nat) := []
  opened : Bool := false
  /-- R112. Drift windows begun since activation, first tick of the current one, layers that have raised events in it. -/
  driftWin : Nat := 0
  /-- R112. Tick at which the drift window in progress began. -/
  driftAt : Option Nat := none
  satSeen : List Nat := []
  driftSeen : List Nat := []
  deriving DecidableEq, Repr

/-- Time (R30, R354). -/
structure Clock where
  /-- R354. Counters run: from PLL lock on. -/
  running : Bool := false
  /-- R354. CYCLE64, 64 bits. -/
  cycle : Nat := 0
  /-- R354. Time since PLL lock in units of 1/5354228880 ns, of which every legal core clock's cycle is a whole number;
  TCOUNT is its whole nanoseconds. -/
  fine : Nat := 0
  /-- R30. Drone counter, 64 bits, and the cycle of the last tick boundary. -/
  drone : Nat := 0
  bnd : Nat := 0
  /-- R35. Cycles by which the present tick ends early: a phased tick that would have begun before cycle 0. -/
  short : Nat := 0
  /-- R35. The wait for a TICKIN edge began at this cycle. -/
  tickinWait : Option Nat := none
  /-- R267. Tick whose ingest deadline has passed. -/
  deadlineOf : Option Nat := none
  /-- R34. Cycle of the last TICKIN edge. -/
  tickinSeen : Option Nat := none
  deriving DecidableEq, Repr

/-- HBM (R193 to R198): written bytes, and ranges whose contents are undefined: (low, high, draw). -/
structure Hbm where
  cells : List Host.Cell := []
  undef : List (Nat × Nat × Nat) := []
  deriving DecidableEq, Repr

/-- The Abxis. -/
structure State where
  /-- The commands that are waiting, first in, first out. -/
  pending : List Instr := []
  clock : Clock := {}
  boot : Boot := {}
  lic : Licence := {}
  dict : Dict := {}
  host : HostIf := {}
  act : Act := {}
  fabric : Fabric := {}
  ingest : SMap Ingest := []
  decisions : SMap Decide := []
  pins : SMap PinPart := []
  lanes : SMap Lane := []
  capt : SMap Capt := []
  /-- R306. Mask table points by table × 4096 + point: (LO, HI). -/
  masks : SMap (Int × Int) := []
  deep : Deep := {}
  groups : SMap Grp := []
  hbm : Hbm := {}
  audit : Audit := {}
  tape : Tape := {}
  girder : Girder := {}
  bases : SMap TimeBase := []
  power : Power := {}
  faults : Faults := {}
  /-- The model's own: draws of free values made so far (log entry 6). -/
  freeCtr : Nat := 0
  deriving DecidableEq, Repr

/-- The device at power-up with PERST_N low (R402, R496): every field at the value its docstring gives. -/
def State.reset : State := {}

end Sys2Proof.Machine
end

