-- ==== Sys2Proof/Machine/OdTable.lean ====
section
/-! DEFINITION. The object dictionary (R371 to R375): one `Entry` for every row of the manual's entry tables, with its
type, access, level, apply point, default, selector and range, as the row gives them. A stored entry is one cell of
`Dict.cells`, read and written by `State.rd` and `State.wr`; an entry without a selector has unit 0, an entry whose row
names a run of sub-indices has the sub-index's place in the run as its unit. -/

namespace Sys2Proof.Machine

/-- The types of R371. -/
inductive OdType where
  | u8 | u16 | u32 | u64 | i32 | i64 | bool
  | bits (size : Nat)
  | octets (size : Nat) (fixed : Bool)
  | time96
  deriving DecidableEq, Repr

/-- The access codes of R372 that entries use. -/
inductive OdAccess where
  | ro | rw | wo | rwp
  deriving DecidableEq, Repr

/-- The apply points of R374. -/
inductive OdApply where
  | none | imm | tick | damp | load
  deriving DecidableEq, Repr

/-- Which selector names the unit of an entry (R389). -/
inductive OdSel where
  | none | array | core | cluster | iq | layer | dstream | adapt | quad | lane | stream | trgStream | trgCh | trgItem
  | maskTab | pin | port | roster | tb | keyhash
  deriving DecidableEq, Repr

/-- One row of an entry table. -/
structure Entry where
  idx : Nat
  sub : Nat
  last : Nat
  typ : OdType
  acc : OdAccess := .ro
  expert : Bool := false
  app : OdApply := .none
  dflt : Nat := 0
  sel : OdSel := .none
  /-- The range a write must lie in; wider or finer rules stand in Machine/Dictionary.lean. -/
  lo : Int := 0
  hi : Int := 2 ^ 8192
  /-- The bits that are not reserved (R7). -/
  mask : Nat := 2 ^ 8192 - 1
  /-- R389. This entry is a selector. -/
  selector : Bool := false
  deriving DecidableEq, Repr

/-- Bytes of a value of a type; the largest for a bounded byte string (R371). -/
def OdType.size : OdType → Nat
  | .u8 => 1 | .u16 => 2 | .u32 => 4 | .u64 => 8 | .i32 => 4 | .i64 => 8 | .bool => 1
  | .bits n => n
  | .octets n _ => n
  | .time96 => 12

/-- The type's code (R371). -/
def OdType.code : OdType → Nat
  | .u8 => 1 | .u16 => 2 | .u32 => 3 | .u64 => 4 | .i32 => 5 | .i64 => 6 | .bool => 7
  | .bits _ => 8
  | .octets _ _ => 9
  | .time96 => 10

/-- The access code in a DESCRIBE answer (R381). -/
def OdAccess.code : OdAccess → Nat
  | .ro => 1 | .rw => 2 | .wo => 3 | .rwp => 5

/-- The apply code in a DESCRIBE answer (R381). -/
def OdApply.code : OdApply → Nat
  | .none => 0 | .imm => 1 | .tick => 2 | .damp => 3 | .load => 4

/-- The cell of unit `u` of an entry. -/
def Entry.key (e : Entry) (u : Nat) : Nat :=
  (e.idx * 256 + e.sub) * 65536 + u % 65536

/-- The value in force of unit `u` of an entry. -/
def State.rd (s : State) (e : Entry) (u : Nat := 0) : Nat :=
  SMap.get e.dflt s.dict.cells (e.key u)

/-- A cell table with unit `u` of an entry set. -/
def Dict.wrCells (c : SMap Nat) (e : Entry) (u v : Nat) : SMap Nat :=
  SMap.set e.dflt c (e.key u) v

/-- Unit `u` of an entry takes a value. -/
def State.wr (s : State) (e : Entry) (u v : Nat) : State :=
  { s with dict := { s.dict with cells := Dict.wrCells s.dict.cells e u v } }

/-- Width in bits of an entry's value. -/
def Entry.width (e : Entry) : Nat :=
  8 * e.typ.size

/-- A signed entry's value (R371). -/
def State.rdI (s : State) (e : Entry) (u : Nat := 0) : Int :=
  toSigned e.width (s.rd e u)

/-- A signed entry takes a value. -/
def State.wrI (s : State) (e : Entry) (u : Nat) (v : Int) : State :=
  s.wr e u (ofSigned e.width v)

/-- A counter advances by `n`: 64-bit counters wrap, narrower ones hold at their largest value (R487). -/
def State.inc (s : State) (e : Entry) (u : Nat) (n : Nat := 1) : State :=
  if e.typ = .u64 then s.wr e u ((s.rd e u + n) % 2 ^ 64)
  else s.wr e u (min (s.rd e u + n) (2 ^ e.width - 1))

/-- One unit of an entry returns to its default. -/
def State.clr (s : State) (e : Entry) (u : Nat) : State :=
  s.wr e u e.dflt

/-- Every unit of an entry returns to its default. -/
def State.clrAll (s : State) (e : Entry) : State :=
  { s with dict := { s.dict with cells := SMap.dropRange s.dict.cells (e.key 0) (e.key 0 + 65536) } }

/-- Every unit of several entries returns to its default. -/
def State.clrEntries (s : State) (es : List Entry) : State :=
  es.foldl State.clrAll s


/-- R2. VENDOR: Drisen Kalnov vendor code Default: 0x0D4B. -/
def OD.VENDOR : Entry := { idx := 0x1000, sub := 0x01, last := 0x01, typ := .u16, dflt := 3403 }

/-- R2. PART: Abxis part code Default: 0xA815. -/
def OD.PART : Entry := { idx := 0x1000, sub := 0x02, last := 0x02, typ := .u16, dflt := 43029 }

/-- R2. GRADE: 1 = A4096, 2 = A3584; other values reserved Default: fuse. -/
def OD.GRADE : Entry := { idx := 0x1000, sub := 0x03, last := 0x03, typ := .u8 }

/-- R2. SERIAL: Fused serial number that licences are bound to Default: fuse. -/
def OD.SERIAL : Entry := { idx := 0x1000, sub := 0x04, last := 0x04, typ := .u64 }

/-- R2. STEPPING: Silicon stepping, counting from 1 Default: fuse. -/
def OD.STEPPING : Entry := { idx := 0x1000, sub := 0x05, last := 0x05, typ := .u8 }

/-- R2. LAT_CLASS: Architectural latency class; 1 = class L1 Default: fuse. -/
def OD.LAT_CLASS : Entry := { idx := 0x1000, sub := 0x06, last := 0x06, typ := .u8 }

/-- R400. EXPERT_EN: R373 Default: 0. -/
def OD.EXPERT_EN : Entry := { idx := 0x1001, sub := 0x01, last := 0x01, typ := .bool, acc := .rw, app := .imm, lo := 0, hi := 1 }

/-- R400. TXN_PENDING: Timed transactions waiting, 0 to 8 Default: 0. -/
def OD.TXN_PENDING : Entry := { idx := 0x1001, sub := 0x02, last := 0x02, typ := .u8 }

/-- R400. TXN_COMMITTED: Transactions committed, all sources Default: 0. -/
def OD.TXN_COMMITTED : Entry := { idx := 0x1001, sub := 0x03, last := 0x03, typ := .u64 }

/-- R400. TXN_REFUSED: Transactions refused at acceptance Default: 0. -/
def OD.TXN_REFUSED : Entry := { idx := 0x1001, sub := 0x04, last := 0x04, typ := .u64 }

/-- R400. TXN_FAILED_CNT: Transactions failing their check at the commit tick (R385) Default: 0. -/
def OD.TXN_FAILED_CNT : Entry := { idx := 0x1001, sub := 0x05, last := 0x05, typ := .u64 }

/-- R400. LAST_TXN_FAIL: [15:0] TAG; [31:16] item; [39:32] status; [40] source 0 PCIe, 1 Girder; [63:41] reserved Default: 0. -/
def OD.LAST_TXN_FAIL : Entry := { idx := 0x1001, sub := 0x06, last := 0x06, typ := (.bits 8) }

/-- R400. MB_OVERRUNS: R379; saturating Default: 0. -/
def OD.MB_OVERRUNS : Entry := { idx := 0x1001, sub := 0x07, last := 0x07, typ := .u32, expert := true }

/-- R400. PCIE_LINK: [3:0] rate, generation 1 to 6; [8:4] width; [9] FLIT mode; [10] link up; [11] D3hot; [31:12] reserved Default: 0. -/
def OD.PCIE_LINK : Entry := { idx := 0x1001, sub := 0x08, last := 0x08, typ := (.bits 4) }

/-- R400. PCIE_AER_CE: Corrected errors reported; saturating Default: 0. -/
def OD.PCIE_AER_CE : Entry := { idx := 0x1001, sub := 0x09, last := 0x09, typ := .u32, expert := true }

/-- R400. PCIE_AER_UE: Uncorrectable errors reported; saturating Default: 0. -/
def OD.PCIE_AER_UE : Entry := { idx := 0x1001, sub := 0x0A, last := 0x0A, typ := .u32, expert := true }

/-- R400. BAR2_DENY: R398 Default: 0. -/
def OD.BAR2_DENY : Entry := { idx := 0x1001, sub := 0x0B, last := 0x0B, typ := .u64 }

/-- R400. BAR2_POISON: R398; saturating Default: 0. -/
def OD.BAR2_POISON : Entry := { idx := 0x1001, sub := 0x0C, last := 0x0C, typ := .u32, expert := true }

/-- R400. EVT_LOST_TOTAL: As EVT_LOST; saturating Default: 0. -/
def OD.EVT_LOST_TOTAL : Entry := { idx := 0x1001, sub := 0x0D, last := 0x0D, typ := .u32 }

/-- R400. HOST_CNT_CLEAR: Writing 1 clears 1001.03 to 1001.0D, EVT_LOST and MB_STATUS[3] Default: none given. -/
def OD.HOST_CNT_CLEAR : Entry := { idx := 0x1001, sub := 0x0E, last := 0x0E, typ := .bool, acc := .wo, app := .imm, lo := 0, hi := 1 }

/-- R400. VEC_MAP: MSI-X vector, 1 to 31, of event class (sub − 1) (R396) Default: 1. -/
def OD.VEC_MAP : Entry := { idx := 0x1002, sub := 0x01, last := 0x10, typ := .u8, acc := .rw, app := .imm, dflt := 1, sel := .array, lo := 1, hi := 31 }

/-- R430. BRINGUP: [0] firmware verified; [1] self-test done; [2] HBM in service; [3] lane quads calibrated; [31:4] reserved Default: none given. -/
def OD.BRINGUP : Entry := { idx := 0x1010, sub := 0x01, last := 0x01, typ := (.bits 4) }

/-- R430. FW_KEY_SLOT: Key slot of the running firmware Default: none given. -/
def OD.FW_KEY_SLOT : Entry := { idx := 0x1010, sub := 0x02, last := 0x02, typ := .u8 }

/-- R430. FW_SVN_RUN: SVN of the running firmware Default: none given. -/
def OD.FW_SVN_RUN : Entry := { idx := 0x1010, sub := 0x03, last := 0x03, typ := .u8 }

/-- R430. FUSED_BAD_CORES: Cores fused bad outside disabled rows Default: fuse. -/
def OD.FUSED_BAD_CORES : Entry := { idx := 0x1010, sub := 0x04, last := 0x04, typ := .u16 }

/-- R430. FIELD_DEFECTS: Units fenced at self-test Default: 0. -/
def OD.FIELD_DEFECTS : Entry := { idx := 0x1010, sub := 0x05, last := 0x05, typ := .u16 }

/-- R430. SPARES_FREE: Logical clusters of the grade, not DEGRADED, whose spare is free, whether or not the active image places them Default: none given. -/
def OD.SPARES_FREE : Entry := { idx := 0x1010, sub := 0x06, last := 0x06, typ := .u16 }

/-- R430. DEGRADED_COUNT: DEGRADED clusters Default: 0. -/
def OD.DEGRADED_COUNT : Entry := { idx := 0x1010, sub := 0x07, last := 0x07, typ := .u16 }

/-- R430. ROW_REPAIRS: Rows repaired at self-test (R411) Default: 0. -/
def OD.ROW_REPAIRS : Entry := { idx := 0x1010, sub := 0x08, last := 0x08, typ := .u16, expert := true }

/-- R430. LANES_FUSED_BAD: R413 Default: fuse. -/
def OD.LANES_FUSED_BAD : Entry := { idx := 0x1010, sub := 0x09, last := 0x09, typ := .u64 }

/-- R430. LANES_FIELD_BAD: R413 Default: 0. -/
def OD.LANES_FIELD_BAD : Entry := { idx := 0x1010, sub := 0x0A, last := 0x0A, typ := .u64 }

/-- R430. BOOT_MS: Reset release to stage 9, in ms Default: none given. -/
def OD.BOOT_MS : Entry := { idx := 0x1010, sub := 0x0B, last := 0x0B, typ := .u32 }

/-- R34. TICKDIV: Tick period in cycles, 4 to 65,536. A write outside this range is refused Default: 60. -/
def OD.TICKDIV : Entry := { idx := 0x2010, sub := 0x01, last := 0x01, typ := .u32, acc := .rw, app := .damp, dflt := 60, lo := 4, hi := 65536 }

/-- R34. TICKDIV_MIN: TICKDIV_MIN declared by the active image; 4 when no image is active Default: 4. -/
def OD.TICKDIV_MIN : Entry := { idx := 0x2010, sub := 0x02, last := 0x02, typ := .u32, dflt := 4 }

/-- R34. TICK_RATE: Current tick rate in Hz, rounded down Default: none given. -/
def OD.TICK_RATE : Entry := { idx := 0x2010, sub := 0x03, last := 0x03, typ := .u32 }

/-- R34. TICKIN_EN: 1 = phase the tick to the TICKIN pin at the next activation Default: 0. -/
def OD.TICKIN_EN : Entry := { idx := 0x2010, sub := 0x04, last := 0x04, typ := .bool, acc := .rw, expert := true, app := .damp, lo := 0, hi := 1 }

/-- R34. TICKIN_EDGE: 0 = rising edge, 1 = falling edge; other values reserved Default: 0. -/
def OD.TICKIN_EDGE : Entry := { idx := 0x2010, sub := 0x05, last := 0x05, typ := .u8, acc := .rw, expert := true, app := .damp, lo := 0, hi := 1 }

/-- R34. TICKIN_OFFSET: Cycles from the synchronised edge to the first tick boundary, 0 to TICKDIV − 1, where TICKDIV is the value the next Damp will apply (R35) Default: 0. -/
def OD.TICKIN_OFFSET : Entry := { idx := 0x2010, sub := 0x06, last := 0x06, typ := .u32, acc := .rw, expert := true, app := .damp, lo := 0, hi := 4294967295 }

/-- R34. TICKIN_TOL: Phase error, in cycles, above which TICK_PHASE is raised Default: 2. -/
def OD.TICKIN_TOL : Entry := { idx := 0x2010, sub := 0x07, last := 0x07, typ := .u16, acc := .rw, expert := true, app := .tick, dflt := 2, lo := 0, hi := 65535 }

/-- R34. TICKIN_PHASE: Last measured phase error in cycles, signed; positive when TICKIN is late Default: 0. -/
def OD.TICKIN_PHASE : Entry := { idx := 0x2010, sub := 0x08, last := 0x08, typ := .i32, expert := true }

/-- R34. TICKIN_STATUS: [0] phase applied; [1] edge seen in the last 2^24 cycles; [2] TICKIN ignored, role is worker; [31:3] reserved Default: 0. -/
def OD.TICKIN_STATUS : Entry := { idx := 0x2010, sub := 0x09, last := 0x09, typ := (.bits 4), expert := true }

/-- R52. LAT_A: Admission latency A in cycles Default: 12. -/
def OD.LAT_A : Entry := { idx := 0x2011, sub := 0x01, last := 0x01, typ := .u16, dflt := 12 }

/-- R52. LAT_P: P declared by the active image Default: 0. -/
def OD.LAT_P : Entry := { idx := 0x2011, sub := 0x02, last := 0x02, typ := .u16 }

/-- R52. LAT_PCRIT: P_crit declared by the active image Default: 0. -/
def OD.LAT_PCRIT : Entry := { idx := 0x2011, sub := 0x03, last := 0x03, typ := .u16, expert := true }

/-- R52. LAT_SLACK: S = P − P_crit Default: 0. -/
def OD.LAT_SLACK : Entry := { idx := 0x2011, sub := 0x04, last := 0x04, typ := .u16 }

/-- R52. LAT_E_TRIG: E on TRIGOUT in cycles Default: 10. -/
def OD.LAT_E_TRIG : Entry := { idx := 0x2011, sub := 0x05, last := 0x05, typ := .u16, dflt := 10 }

/-- R52. LAT_CLASS_IMG: Latency class declared by the active image; 0 when none Default: 0. -/
def OD.LAT_CLASS_IMG : Entry := { idx := 0x2011, sub := 0x06, last := 0x06, typ := .u8, expert := true }

/-- R52. LATE_TOTAL: Late records released, all streams, substitutes included Default: 0. -/
def OD.LATE_TOTAL : Entry := { idx := 0x2011, sub := 0x07, last := 0x07, typ := .u64 }

/-- R52. SUBST_TOTAL: Substitute records released, all streams Default: 0. -/
def OD.SUBST_TOTAL : Entry := { idx := 0x2011, sub := 0x08, last := 0x08, typ := .u64 }

/-- R52. LATE_DROP_TOTAL: Records discarded after their substitute Default: 0. -/
def OD.LATE_DROP_TOTAL : Entry := { idx := 0x2011, sub := 0x09, last := 0x09, typ := .u64, expert := true }

/-- R52. MAX_LAG_D0: Largest lag on D0 since last clear, in cycles Default: 0. -/
def OD.MAX_LAG_D0 : Entry := { idx := 0x2011, sub := 0x0A, last := 0x0A, typ := .u32, expert := true }

/-- R52. MAX_LAG_D1: As 2011.0A, D1 Default: 0. -/
def OD.MAX_LAG_D1 : Entry := { idx := 0x2011, sub := 0x0B, last := 0x0B, typ := .u32, expert := true }

/-- R52. MAX_LAG_D2: As 2011.0A, D2 Default: 0. -/
def OD.MAX_LAG_D2 : Entry := { idx := 0x2011, sub := 0x0C, last := 0x0C, typ := .u32, expert := true }

/-- R52. MAX_LAG_D3: As 2011.0A, D3 Default: 0. -/
def OD.MAX_LAG_D3 : Entry := { idx := 0x2011, sub := 0x0D, last := 0x0D, typ := .u32, expert := true }

/-- R52. MON_CLEAR: Writing 1 clears every counter and extreme in 2011 to 2013 Default: none given. -/
def OD.MON_CLEAR : Entry := { idx := 0x2011, sub := 0x0E, last := 0x0E, typ := .bool, acc := .wo, app := .imm, lo := 0, hi := 1 }

/-- R52. LATE_COUNT: Late records of stream (sub − 1); saturating Default: 0. -/
def OD.LATE_COUNT : Entry := { idx := 0x2012, sub := 0x01, last := 0x40, typ := .u32, sel := .array }

/-- R52. MIN_MARGIN: Smallest D − C seen for stream (sub − 1); negative once late Default: 0x7FFF_FFFF. -/
def OD.MIN_MARGIN : Entry := { idx := 0x2013, sub := 0x01, last := 0x40, typ := .i32, expert := true, dflt := 2147483647, sel := .array }

/-- R95. CORE_SEL: [5:0] logical x, [13:8] logical y; other bits reserved Default: 0. -/
def OD.CORE_SEL : Entry := { idx := 0x2020, sub := 0x01, last := 0x01, typ := .u16, acc := .rw, expert := true, app := .imm, lo := 0, hi := 65535, mask := 0x3F3F, selector := true }

/-- R95. CORE_STATE: [0] in use: the active image loads this logical core with a program, that is, a MICROCODE section targets it; [1] fenced; [2] served by a stand-in; [3] fast quad; [4] error record pending; [7:5] current epoch; [31:8] reserved Default: 0. -/
def OD.CORE_STATE : Entry := { idx := 0x2020, sub := 0x02, last := 0x02, typ := (.bits 4), expert := true, sel := .core }

/-- R95. CORE_CE: Corrected ECC events in all memories of the core Default: 0. -/
def OD.CORE_CE : Entry := { idx := 0x2020, sub := 0x03, last := 0x03, typ := .u32, expert := true, sel := .core }

/-- R95. CORE_STEER_MM: STEER_MISMATCH events Default: 0. -/
def OD.CORE_STEER_MM : Entry := { idx := 0x2020, sub := 0x04, last := 0x04, typ := .u32, expert := true, sel := .core }

/-- R95. CORE_STALE: STALE_TOKEN events Default: 0. -/
def OD.CORE_STALE : Entry := { idx := 0x2020, sub := 0x05, last := 0x05, typ := .u32, expert := true, sel := .core }

/-- R95. CORE_ACC_SAT: Accumulator saturations: one for each lane clamped in a step (R115) Default: 0. -/
def OD.CORE_ACC_SAT : Entry := { idx := 0x2020, sub := 0x06, last := 0x06, typ := .u32, expert := true, sel := .core }

/-- R95. CORE_VOID_OUT: VOID tokens emitted Default: 0. -/
def OD.CORE_VOID_OUT : Entry := { idx := 0x2020, sub := 0x07, last := 0x07, typ := .u32, expert := true, sel := .core }

/-- R95. CORE_LINK_CE: Corrected flit errors at the core's router Default: 0. -/
def OD.CORE_LINK_CE : Entry := { idx := 0x2020, sub := 0x08, last := 0x08, typ := .u32, expert := true, sel := .core }

/-- R95. STEER_MISMATCH_TOTAL: All cores Default: 0. -/
def OD.STEER_MISMATCH_TOTAL : Entry := { idx := 0x2021, sub := 0x01, last := 0x01, typ := .u64 }

/-- R95. STALE_TOKEN_TOTAL: All cores and decision ports Default: 0. -/
def OD.STALE_TOKEN_TOTAL : Entry := { idx := 0x2021, sub := 0x02, last := 0x02, typ := .u64 }

/-- R95. TOKEN_FORMAT_TOTAL: All cores Default: 0. -/
def OD.TOKEN_FORMAT_TOTAL : Entry := { idx := 0x2021, sub := 0x03, last := 0x03, typ := .u64 }

/-- R95. CORE_CE_TOTAL: Corrected ECC, all core memories Default: 0. -/
def OD.CORE_CE_TOTAL : Entry := { idx := 0x2021, sub := 0x04, last := 0x04, typ := .u64 }

/-- R95. CORE_UE_TOTAL: Uncorrected ECC, all core memories Default: 0. -/
def OD.CORE_UE_TOTAL : Entry := { idx := 0x2021, sub := 0x05, last := 0x05, typ := .u64 }

/-- R95. LINK_UE_TOTAL: Discarded flits, all routers Default: 0. -/
def OD.LINK_UE_TOTAL : Entry := { idx := 0x2021, sub := 0x06, last := 0x06, typ := .u64 }

/-- R95. ACC_SAT_TOTAL: Accumulator saturations, all cores, counted per clamped lane as CORE_ACC_SAT Default: 0. -/
def OD.ACC_SAT_TOTAL : Entry := { idx := 0x2021, sub := 0x07, last := 0x07, typ := .u64 }

/-- R95. CORE_CNT_CLEAR: Writing 1 clears 2020.03 to 2020.08 in every core and every counter in 2021 Default: none given. -/
def OD.CORE_CNT_CLEAR : Entry := { idx := 0x2021, sub := 0x08, last := 0x08, typ := .bool, acc := .wo, app := .imm, lo := 0, hi := 1 }

/-- R114. SAT_WIN: Drift window in ticks; a power of two from 1,024 to 16,777,216, other values refused Default: 65,536. -/
def OD.SAT_WIN : Entry := { idx := 0x2030, sub := 0x01, last := 0x01, typ := .u32, acc := .rw, app := .tick, dflt := 65536, lo := 1024, hi := 16777216 }

/-- R114. LAYER_SEL: Layer reported by 2030.03 to 2030.05, 0 to 1,087 Default: 0. -/
def OD.LAYER_SEL : Entry := { idx := 0x2030, sub := 0x02, last := 0x02, typ := .u16, acc := .rw, app := .imm, lo := 0, hi := 1087, selector := true }

/-- R114. LAYER_THRESH: Threshold of the selected layer; 0xFFFF_FFFF = off; set at each activation as R114 states Default: image. -/
def OD.LAYER_THRESH : Entry := { idx := 0x2030, sub := 0x03, last := 0x03, typ := .u32, acc := .rw, app := .tick, sel := .layer, lo := 0, hi := 4294967295 }

/-- R114. LAYER_SAT_WIN: Count of the selected layer in the current window Default: 0. -/
def OD.LAYER_SAT_WIN : Entry := { idx := 0x2030, sub := 0x04, last := 0x04, typ := .u32, sel := .layer }

/-- R114. LAYER_SAT_TOTAL: Count of the selected layer since activation; saturating Default: 0. -/
def OD.LAYER_SAT_TOTAL : Entry := { idx := 0x2030, sub := 0x05, last := 0x05, typ := .u32, sel := .layer }

/-- R114. DRIFT_TOTAL: CAL_DRIFT events since activation Default: 0. -/
def OD.DRIFT_TOTAL : Entry := { idx := 0x2030, sub := 0x06, last := 0x06, typ := .u64 }

/-- R114. DRIFT_LAST: [10:0] layer; [11] valid; [15:12] reserved; [47:16] drift window number, counted from activation Default: 0. -/
def OD.DRIFT_LAST : Entry := { idx := 0x2030, sub := 0x07, last := 0x07, typ := (.bits 8) }

/-- R114. LAYER_COUNT: Number of program layers declared by the active image Default: 0. -/
def OD.LAYER_COUNT : Entry := { idx := 0x2030, sub := 0x08, last := 0x08, typ := .u16 }

/-- R114. SAT_CLEAR: Writing 1 clears 2030.04 to 2030.06 and 2030.0A for all layers Default: none given. -/
def OD.SAT_CLEAR : Entry := { idx := 0x2030, sub := 0x09, last := 0x09, typ := .bool, acc := .wo, app := .imm, lo := 0, hi := 1 }

/-- R114. SCALE_SKEW_TOTAL: SCALE_SKEW events, all cores Default: 0. -/
def OD.SCALE_SKEW_TOTAL : Entry := { idx := 0x2030, sub := 0x0A, last := 0x0A, typ := .u64 }

/-- R158. DIS_ROWS: Per die d, bits [4d+2:4d] disabled row; bit [4d+3] 1 = a row is disabled Default: fuse. -/
def OD.DIS_ROWS : Entry := { idx := 0x2040, sub := 0x01, last := 0x01, typ := .u16 }

/-- R158. PORTABLE: 1 = the active image is portable Default: 0. -/
def OD.PORTABLE : Entry := { idx := 0x2040, sub := 0x02, last := 0x02, typ := .bool }

/-- R158. PLACE_MASK: 32 bytes: placement mask of the active image (R153) Default: 0. -/
def OD.PLACE_MASK : Entry := { idx := 0x2040, sub := 0x03, last := 0x03, typ := (.octets 32 true) }

/-- R158. DEGRADED_MASK: 32 bytes: DEGRADED clusters, same layout Default: 0. -/
def OD.DEGRADED_MASK : Entry := { idx := 0x2040, sub := 0x04, last := 0x04, typ := (.octets 32 true) }

/-- R158. ROLE_MASK: 32 bytes: deep clusters of the active image Default: 0. -/
def OD.ROLE_MASK : Entry := { idx := 0x2040, sub := 0x05, last := 0x05, typ := (.octets 32 true), expert := true }

/-- R158. PCID_OF_SEL: PCID serving the logical core of OD 2020.01 Default: none given. -/
def OD.PCID_OF_SEL : Entry := { idx := 0x2040, sub := 0x06, last := 0x06, typ := .u16, expert := true, sel := .core }

/-- R158. CLUSTER_SEL: Logical cluster 16Y + X Default: 0. -/
def OD.CLUSTER_SEL : Entry := { idx := 0x2040, sub := 0x07, last := 0x07, typ := .u8, acc := .rw, expert := true, app := .imm, lo := 0, hi := 255, selector := true }

/-- R158. CLUSTER_STATE: [0] in use; [1] deep; [2] spare standing in; [3] DEGRADED; [8:4] stood-in position, 31 = none; [9] in a mixed physical quad; [31:10] reserved Default: 0. -/
def OD.CLUSTER_STATE : Entry := { idx := 0x2040, sub := 0x08, last := 0x08, typ := (.bits 4), expert := true, sel := .cluster }

/-- R158. DECK_CE: Corrected errors in the selected cluster memory; saturating Default: 0. -/
def OD.DECK_CE : Entry := { idx := 0x2040, sub := 0x09, last := 0x09, typ := .u32, expert := true, sel := .cluster }

/-- R158. DECK_UE: DECK_UE events of the selected cluster; saturating Default: 0. -/
def OD.DECK_UE : Entry := { idx := 0x2040, sub := 0x0A, last := 0x0A, typ := .u32, expert := true, sel := .cluster }

/-- R158. FENCED_DROP: Flits discarded at fenced positions of the selected cluster; saturating Default: 0. -/
def OD.FENCED_DROP : Entry := { idx := 0x2040, sub := 0x0B, last := 0x0B, typ := .u32, expert := true, sel := .cluster }

/-- R158. VIA_CE: Corrected flit errors, viaducts in the order D0–D1, D0–D2, D1–D3, D2–D3, D0–H, D1–H, D2–H, D3–H Default: 0. -/
def OD.VIA_CE : Entry := { idx := 0x2041, sub := 0x01, last := 0x08, typ := .u64, expert := true, sel := .array }

/-- R158. VIA_UE: VIADUCT_UE events, same order Default: 0. -/
def OD.VIA_UE : Entry := { idx := 0x2041, sub := 0x09, last := 0x10, typ := .u64, sel := .array }

/-- R158. VIA_FAST_LANES: Lanes reserved by the active image, summed over the viaduct's channels, same order Default: 0. -/
def OD.VIA_FAST_LANES : Entry := { idx := 0x2041, sub := 0x11, last := 0x18, typ := .u16, expert := true, sel := .array }

/-- R158. TRUSS_UE_TOTAL: TRUSS_UE events, all dies Default: 0. -/
def OD.TRUSS_UE_TOTAL : Entry := { idx := 0x2041, sub := 0x19, last := 0x19, typ := .u64 }

/-- R158. FABRIC_CNT_CLEAR: Writing 1 clears 2040.09 to 2040.0B in every cluster and every counter in 2041 Default: none given. -/
def OD.FABRIC_CNT_CLEAR : Entry := { idx := 0x2041, sub := 0x1A, last := 0x1A, typ := .bool, acc := .wo, app := .imm, lo := 0, hi := 1 }

/-- R191. SLOT_CMD: 1 OPEN, 2 COMMIT, 3 CLEAR; other values refused with RANGE (R170) Default: none given. -/
def OD.SLOT_CMD : Entry := { idx := 0x2050, sub := 0x01, last := 0x01, typ := .u8, acc := .wo, app := .imm, lo := 1, hi := 3 }

/-- R191. SLOT_CMD_SLOT: 0 = A, 1 = B Default: 0. -/
def OD.SLOT_CMD_SLOT : Entry := { idx := 0x2050, sub := 0x02, last := 0x02, typ := .u8, acc := .rw, app := .imm, lo := 0, hi := 1 }

/-- R191. OPEN_SEQ: Sequence number for OPEN Default: 0. -/
def OD.OPEN_SEQ : Entry := { idx := 0x2050, sub := 0x03, last := 0x03, typ := .u32, acc := .rw, app := .imm, lo := 0, hi := 4294967295 }

/-- R191. COMMIT_SIZE: Image length for COMMIT Default: 0. -/
def OD.COMMIT_SIZE : Entry := { idx := 0x2050, sub := 0x04, last := 0x04, typ := .u64, acc := .rw, app := .imm, lo := 0, hi := 18446744073709551615 }

/-- R191. EXPECT_PROG: 32 bytes; all zero = not checked Default: 0. -/
def OD.EXPECT_PROG : Entry := { idx := 0x2050, sub := 0x05, last := 0x05, typ := (.octets 32 true), acc := .rw, app := .imm }

/-- R191. EXPECT_WEIGHT: 32 bytes; all zero = not checked Default: 0. -/
def OD.EXPECT_WEIGHT : Entry := { idx := 0x2050, sub := 0x06, last := 0x06, typ := (.octets 32 true), acc := .rw, app := .imm }

/-- R191. LAST_SEQ: Last sequence number accepted by OPEN Default: 0. -/
def OD.LAST_SEQ : Entry := { idx := 0x2050, sub := 0x07, last := 0x07, typ := .u32 }

/-- R191. QD_CLASS: Queue-depth class; 1 on every current stepping Default: fuse. -/
def OD.QD_CLASS : Entry := { idx := 0x2050, sub := 0x08, last := 0x08, typ := .u8, expert := true }

/-- R191. SLOT_WRITE_DROP: Slot-region writes discarded (R171) Default: 0. -/
def OD.SLOT_WRITE_DROP : Entry := { idx := 0x2050, sub := 0x09, last := 0x09, typ := .u64, expert := true }

/-- R191. A_STATE: Slot state (R169) Default: 0. -/
def OD.A_STATE : Entry := { idx := 0x2051, sub := 0x01, last := 0x01, typ := .u8 }

/-- R191. A_SEQ: Sequence number Default: 0. -/
def OD.A_SEQ : Entry := { idx := 0x2051, sub := 0x02, last := 0x02, typ := .u32 }

/-- R191. A_SIZE: Image length Default: 0. -/
def OD.A_SIZE : Entry := { idx := 0x2051, sub := 0x03, last := 0x03, typ := .u64 }

/-- R191. A_PROG_DIGEST: 32 bytes, computed Default: 0. -/
def OD.A_PROG_DIGEST : Entry := { idx := 0x2051, sub := 0x04, last := 0x04, typ := (.octets 32 true) }

/-- R191. A_WEIGHT_DIGEST: 32 bytes, computed Default: 0. -/
def OD.A_WEIGHT_DIGEST : Entry := { idx := 0x2051, sub := 0x05, last := 0x05, typ := (.octets 32 true) }

/-- R191. A_REFUSE_CODE: Code of R174; 0 = none Default: 0. -/
def OD.A_REFUSE_CODE : Entry := { idx := 0x2051, sub := 0x06, last := 0x06, typ := .u8 }

/-- R191. A_REFUSE_DETAIL: As R174 Default: 0. -/
def OD.A_REFUSE_DETAIL : Entry := { idx := 0x2051, sub := 0x07, last := 0x07, typ := .u64, expert := true }

/-- R191. A_DECL: [1:0] grade; [2] portable; [10:3] latency class; [26:11] P; [58:27] TICKDIV_MIN; [63:59] reserved Default: 0. -/
def OD.A_DECL : Entry := { idx := 0x2051, sub := 0x08, last := 0x08, typ := (.bits 8) }

/-- R191. A_LOAD_CYC: Load-phase bound (R183) Default: 0. -/
def OD.A_LOAD_CYC : Entry := { idx := 0x2051, sub := 0x09, last := 0x09, typ := .u32, expert := true }

/-- R191. B_STATE: As 2051.01, slot B Default: 0. -/
def OD.B_STATE : Entry := { idx := 0x2052, sub := 0x01, last := 0x01, typ := .u8 }

/-- R191. B_SEQ: As 2051.02, slot B Default: 0. -/
def OD.B_SEQ : Entry := { idx := 0x2052, sub := 0x02, last := 0x02, typ := .u32 }

/-- R191. B_SIZE: As 2051.03, slot B Default: 0. -/
def OD.B_SIZE : Entry := { idx := 0x2052, sub := 0x03, last := 0x03, typ := .u64 }

/-- R191. B_PROG_DIGEST: As 2051.04, slot B Default: 0. -/
def OD.B_PROG_DIGEST : Entry := { idx := 0x2052, sub := 0x04, last := 0x04, typ := (.octets 32 true) }

/-- R191. B_WEIGHT_DIGEST: As 2051.05, slot B Default: 0. -/
def OD.B_WEIGHT_DIGEST : Entry := { idx := 0x2052, sub := 0x05, last := 0x05, typ := (.octets 32 true) }

/-- R191. B_REFUSE_CODE: As 2051.06, slot B Default: 0. -/
def OD.B_REFUSE_CODE : Entry := { idx := 0x2052, sub := 0x06, last := 0x06, typ := .u8 }

/-- R191. B_REFUSE_DETAIL: As 2051.07, slot B Default: 0. -/
def OD.B_REFUSE_DETAIL : Entry := { idx := 0x2052, sub := 0x07, last := 0x07, typ := .u64, expert := true }

/-- R191. B_DECL: As 2051.08, slot B Default: 0. -/
def OD.B_DECL : Entry := { idx := 0x2052, sub := 0x08, last := 0x08, typ := (.bits 8) }

/-- R191. B_LOAD_CYC: As 2051.09, slot B Default: 0. -/
def OD.B_LOAD_CYC : Entry := { idx := 0x2052, sub := 0x09, last := 0x09, typ := .u32, expert := true }

/-- R191. ACT_SLOT: 0 = A, 1 = B Default: 0. -/
def OD.ACT_SLOT : Entry := { idx := 0x2053, sub := 0x01, last := 0x01, typ := .u8, acc := .rw, app := .imm, lo := 0, hi := 1 }

/-- R191. ACT_MODE: 0 Damp, 1 hard retune Default: 0. -/
def OD.ACT_MODE : Entry := { idx := 0x2053, sub := 0x02, last := 0x02, typ := .u8, acc := .rw, expert := true, app := .imm, lo := 0, hi := 1 }

/-- R191. ACT_AT: Drone count of T_s; 0 = next tick Default: 0. -/
def OD.ACT_AT : Entry := { idx := 0x2053, sub := 0x03, last := 0x03, typ := .u64, acc := .rw, app := .imm, lo := 0, hi := 18446744073709551615 }

/-- R191. ACT_RESUME_AT: Drone count of T_r; 0 = as soon as ready Default: 0. -/
def OD.ACT_RESUME_AT : Entry := { idx := 0x2053, sub := 0x04, last := 0x04, typ := .u64, acc := .rw, app := .imm, lo := 0, hi := 18446744073709551615 }

/-- R191. ACT_CMD: 1 activate, 2 cancel Default: none given. -/
def OD.ACT_CMD : Entry := { idx := 0x2053, sub := 0x05, last := 0x05, typ := .u8, acc := .wo, app := .imm, lo := 1, hi := 2 }

/-- R191. ACT_STATUS: 0 idle, 1 pending, 2 in progress, 3 done, 4 refused, 5 stuck, 6 launch missed, 7 cancelled, 8 load failed, 9 TICKIN timeout (R35) Default: 0. -/
def OD.ACT_STATUS : Entry := { idx := 0x2053, sub := 0x06, last := 0x06, typ := .u8 }

/-- R191. ACTIVE_SLOT: 0 = A, 1 = B, 0xFF = none Default: 0xFF. -/
def OD.ACTIVE_SLOT : Entry := { idx := 0x2053, sub := 0x07, last := 0x07, typ := .u8, dflt := 255 }

/-- R191. EPOCH: Current epoch Default: 0. -/
def OD.EPOCH : Entry := { idx := 0x2053, sub := 0x08, last := 0x08, typ := .u8, expert := true }

/-- R191. DAMP_STATE: State code (R182) Default: 0. -/
def OD.DAMP_STATE : Entry := { idx := 0x2053, sub := 0x09, last := 0x09, typ := .u8 }

/-- R191. PAUSE_AT: Drone count of the last T_s Default: 0. -/
def OD.PAUSE_AT : Entry := { idx := 0x2053, sub := 0x0A, last := 0x0A, typ := .u64 }

/-- R191. RESUME_LAST: Drone count of the last T_r Default: 0. -/
def OD.RESUME_LAST : Entry := { idx := 0x2053, sub := 0x0B, last := 0x0B, typ := .u64 }

/-- R191. DAMP_LIMIT: VERIFY bound in cycles, 1,024 to 2^24 Default: 65,536. -/
def OD.DAMP_LIMIT : Entry := { idx := 0x2053, sub := 0x0C, last := 0x0C, typ := .u32, acc := .rw, expert := true, app := .imm, dflt := 65536, lo := 1024, hi := 16777216 }

/-- R191. RAMP_STEP: Cycles between waves, 16 to 1,024 Default: 64. -/
def OD.RAMP_STEP : Entry := { idx := 0x2053, sub := 0x0D, last := 0x0D, typ := .u16, acc := .rw, expert := true, app := .damp, dflt := 64, lo := 16, hi := 1024 }

/-- R191. DEEP_DAMP_DISCARD: Deep candidates discarded by activations Default: 0. -/
def OD.DEEP_DAMP_DISCARD : Entry := { idx := 0x2053, sub := 0x0E, last := 0x0E, typ := .u64, expert := true }

/-- R191. HARD_COUNT: Hard retunes since power-up Default: 0. -/
def OD.HARD_COUNT : Entry := { idx := 0x2053, sub := 0x0F, last := 0x0F, typ := .u64, expert := true }

/-- R191. DAMP_DROP: Frames of stream (sub − 1) not admitted during pauses; saturating Default: 0. -/
def OD.DAMP_DROP : Entry := { idx := 0x2054, sub := 0x01, last := 0x40, typ := .u32, expert := true, sel := .array }

/-- R279. LANES_ENABLED: Enabled lanes (R251) Default: 0. -/
def OD.LANES_ENABLED : Entry := { idx := 0x3000, sub := 0x01, last := 0x01, typ := .u8 }

/-- R279. LQ_SEL: Quad 0 to 15 Default: 0. -/
def OD.LQ_SEL : Entry := { idx := 0x3000, sub := 0x02, last := 0x02, typ := .u8, acc := .rw, app := .imm, lo := 0, hi := 15, selector := true }

/-- R279. LANE_SEL: Lane 0 to 63 Default: 0. -/
def OD.LANE_SEL : Entry := { idx := 0x3000, sub := 0x03, last := 0x03, typ := .u8, acc := .rw, app := .imm, lo := 0, hi := 63, selector := true }

/-- R279. STREAM_SEL: Stream 0 to 63 Default: 0. -/
def OD.STREAM_SEL : Entry := { idx := 0x3000, sub := 0x04, last := 0x04, typ := .u8, acc := .rw, app := .imm, lo := 0, hi := 63, selector := true }

/-- R279. LANE_CNT_CLEAR: Writing 1 clears every counter in 3020, 3022 and 3030 Default: none given. -/
def OD.LANE_CNT_CLEAR : Entry := { idx := 0x3000, sub := 0x05, last := 0x05, typ := .bool, acc := .wo, app := .imm, lo := 0, hi := 1 }

/-- R279. RX_CODING: 0 off; codes of R250 Default: 0. -/
def OD.RX_CODING : Entry := { idx := 0x3010, sub := 0x01, last := 0x01, typ := .u8, acc := .rw, app := .imm, sel := .quad, lo := 0, hi := 3 }

/-- R279. RX_RATE: Line rate in kb/s Default: 0. -/
def OD.RX_RATE : Entry := { idx := 0x3010, sub := 0x02, last := 0x02, typ := .u32, acc := .rw, app := .imm, sel := .quad, lo := 0, hi := 4294967295 }

/-- R279. TX_CODING: 0 off; codes of R250; follows TX_LOCK while TX_LOCK is not 0 (R270) Default: 0. -/
def OD.TX_CODING : Entry := { idx := 0x3010, sub := 0x03, last := 0x03, typ := .u8, acc := .rw, app := .imm, sel := .quad, lo := 0, hi := 3 }

/-- R279. TX_RATE: Line rate in kb/s; reads the cycle-locked rate when TX_LOCK ≠ 0 Default: 0. -/
def OD.TX_RATE : Entry := { idx := 0x3010, sub := 0x04, last := 0x04, typ := .u32, acc := .rw, app := .imm, sel := .quad, lo := 0, hi := 4294967295 }

/-- R279. TX_LOCK: 0 free rate; 1 to 6 as R270 Default: 0. -/
def OD.TX_LOCK : Entry := { idx := 0x3010, sub := 0x05, last := 0x05, typ := .u8, acc := .rw, app := .imm, sel := .quad, lo := 0, hi := 6 }

/-- R279. RX_FEC: R261; refused for 8b/10b Default: 0. -/
def OD.RX_FEC : Entry := { idx := 0x3010, sub := 0x06, last := 0x06, typ := .bool, acc := .rw, app := .imm, sel := .quad, lo := 0, hi := 1 }

/-- R279. TX_FEC: R261; refused for 8b/10b and with TX_LOCK ≠ 0 Default: 0. -/
def OD.TX_FEC : Entry := { idx := 0x3010, sub := 0x07, last := 0x07, typ := .bool, acc := .rw, app := .imm, sel := .quad, lo := 0, hi := 1 }

/-- R279. PRECODE: [0] receive, [1] transmit (R254); [7:2] reserved Default: 3. -/
def OD.PRECODE : Entry := { idx := 0x3010, sub := 0x08, last := 0x08, typ := (.bits 1), acc := .rw, expert := true, app := .imm, dflt := 3, sel := .quad, lo := 0, hi := 255, mask := 0x3 }

/-- R279. LQ_STATUS: [0] RX PLL locked; [1] TX PLL locked; [2] powered; [31:3] reserved Default: 0. -/
def OD.LQ_STATUS : Entry := { idx := 0x3010, sub := 0x09, last := 0x09, typ := (.bits 4), sel := .quad }

/-- R279. LANE_EN: [0] receive; [1] transmit; [2] invert RX polarity; [3] invert TX polarity; [7:4] reserved Default: 0. -/
def OD.LANE_EN : Entry := { idx := 0x3020, sub := 0x01, last := 0x01, typ := (.bits 1), acc := .rw, app := .imm, sel := .lane, lo := 0, hi := 255, mask := 0xF }

/-- R279. RX_STATE: Code of R276 Default: 0. -/
def OD.RX_STATE : Entry := { idx := 0x3020, sub := 0x02, last := 0x02, typ := .u8, sel := .lane }

/-- R279. TX_STATE: 0 OFF, 1 PLL, 7 DATA, 8 PRBS Default: 0. -/
def OD.TX_STATE : Entry := { idx := 0x3020, sub := 0x03, last := 0x03, typ := .u8, sel := .lane }

/-- R279. TX_EQ: R274: PRE 0, MAIN 54, POST 9, SWING 8 Default: 0x0008_2760. -/
def OD.TX_EQ : Entry := { idx := 0x3020, sub := 0x04, last := 0x04, typ := (.bits 4), acc := .rw, app := .imm, dflt := 534368, sel := .lane, lo := 0, hi := 4294967295, mask := 0xF7FFF }

/-- R279. RX_EQ_MODE: R275 Default: 0. -/
def OD.RX_EQ_MODE : Entry := { idx := 0x3020, sub := 0x05, last := 0x05, typ := .u8, acc := .rw, expert := true, app := .imm, sel := .lane, lo := 0, hi := 2 }

/-- R279. RX_CTLE: Code 0 to 15; reads the code in use Default: none given. -/
def OD.RX_CTLE : Entry := { idx := 0x3020, sub := 0x06, last := 0x06, typ := .u8, acc := .rw, expert := true, app := .imm, sel := .lane, lo := 0, hi := 15 }

/-- R279. RX_DFE: 4 × I8: DFE taps 1 to 4 Default: none given. -/
def OD.RX_DFE : Entry := { idx := 0x3020, sub := 0x07, last := 0x07, typ := (.octets 4 true), expert := true, sel := .lane }

/-- R279. TX_KIND: 0 none, 1 decision, 2 deep, 3 readout, 4 deep and readout Default: 0. -/
def OD.TX_KIND : Entry := { idx := 0x3020, sub := 0x08, last := 0x08, typ := .u8, acc := .rw, app := .damp, sel := .lane, lo := 0, hi := 4 }

/-- R279. TX_DEC_MAP: 16 bytes: streams in rank order; 0xFF ends the list Default: 0xFF…. -/
def OD.TX_DEC_MAP : Entry := { idx := 0x3020, sub := 0x09, last := 0x09, typ := (.octets 16 true), acc := .rw, app := .damp, dflt := 340282366920938463463374607431768211455, sel := .lane, lo := 0, hi := 340282366920938463463374607431768211455 }

/-- R279. LAT_E_TX: E for rank 0, cycles; 0 unless a decision lane Default: 0. -/
def OD.LAT_E_TX : Entry := { idx := 0x3020, sub := 0x0A, last := 0x0A, typ := .u16, sel := .lane }

/-- R279. LAT_E_STEP: Cycles added per rank Default: 0. -/
def OD.LAT_E_STEP : Entry := { idx := 0x3020, sub := 0x0B, last := 0x0B, typ := .u16, sel := .lane }

/-- R279. CODE_ERR: Code violations Default: 0. -/
def OD.CODE_ERR : Entry := { idx := 0x3020, sub := 0x0C, last := 0x0C, typ := .u32, sel := .lane }

/-- R279. LANE_CRC_ERR: Lane blocks failing CRC Default: 0. -/
def OD.LANE_CRC_ERR : Entry := { idx := 0x3020, sub := 0x0D, last := 0x0D, typ := .u32, sel := .lane }

/-- R279. FEC_CORR: Corrected symbols Default: 0. -/
def OD.FEC_CORR : Entry := { idx := 0x3020, sub := 0x0E, last := 0x0E, typ := .u64, sel := .lane }

/-- R279. FEC_UNCORR: Uncorrectable codewords Default: 0. -/
def OD.FEC_UNCORR : Entry := { idx := 0x3020, sub := 0x0F, last := 0x0F, typ := .u32, sel := .lane }

/-- R279. LOCK_LOSS: Falls from DATA Default: 0. -/
def OD.LOCK_LOSS : Entry := { idx := 0x3020, sub := 0x10, last := 0x10, typ := .u32, sel := .lane }

/-- R279. FILL_DEL: Fillers deleted Default: 0. -/
def OD.FILL_DEL : Entry := { idx := 0x3020, sub := 0x11, last := 0x11, typ := .u64, expert := true, sel := .lane }

/-- R279. FILL_INS: Fillers inserted Default: 0. -/
def OD.FILL_INS : Entry := { idx := 0x3020, sub := 0x12, last := 0x12, typ := .u64, expert := true, sel := .lane }

/-- R279. LANE_SUBST: Lane substitutes sent (R272) Default: 0. -/
def OD.LANE_SUBST : Entry := { idx := 0x3020, sub := 0x13, last := 0x13, typ := .u32, sel := .lane }

/-- R279. TX_DISCARD: R273 Default: 0. -/
def OD.TX_DISCARD : Entry := { idx := 0x3020, sub := 0x14, last := 0x14, typ := .u32, sel := .lane }

/-- R279. DEEP_TX_DROP: R269 Default: 0. -/
def OD.DEEP_TX_DROP : Entry := { idx := 0x3020, sub := 0x15, last := 0x15, typ := .u32, sel := .lane }

/-- R279. PRBS_TX: Pattern code of R277 Default: 0. -/
def OD.PRBS_TX : Entry := { idx := 0x3022, sub := 0x01, last := 0x01, typ := .u8, acc := .rw, expert := true, app := .imm, sel := .lane, lo := 0, hi := 5 }

/-- R279. PRBS_RX: Pattern code of R277 Default: 0. -/
def OD.PRBS_RX : Entry := { idx := 0x3022, sub := 0x02, last := 0x02, typ := .u8, acc := .rw, expert := true, app := .imm, sel := .lane, lo := 0, hi := 5 }

/-- R279. PRBS_LOCK: Checker locked Default: 0. -/
def OD.PRBS_LOCK : Entry := { idx := 0x3022, sub := 0x03, last := 0x03, typ := .bool, expert := true, sel := .lane }

/-- R279. PRBS_ERR: Bit errors; saturating Default: 0. -/
def OD.PRBS_ERR : Entry := { idx := 0x3022, sub := 0x04, last := 0x04, typ := .u32, expert := true, sel := .lane }

/-- R279. PRBS_BITS: Bits compared Default: 0. -/
def OD.PRBS_BITS : Entry := { idx := 0x3022, sub := 0x05, last := 0x05, typ := .u64, expert := true, sel := .lane }

/-- R279. INJ_MODE: R278 Default: 0. -/
def OD.INJ_MODE : Entry := { idx := 0x3022, sub := 0x06, last := 0x06, typ := .u8, acc := .rw, expert := true, app := .imm, sel := .lane, lo := 0, hi := 2 }

/-- R279. INJ_PERIOD: Exponent, 4 to 30 Default: 16. -/
def OD.INJ_PERIOD : Entry := { idx := 0x3022, sub := 0x07, last := 0x07, typ := .u8, acc := .rw, expert := true, app := .imm, dflt := 16, sel := .lane, lo := 4, hi := 30 }

/-- R279. INJ_FIRE: Writing 1 injects one error in mode 1 Default: none given. -/
def OD.INJ_FIRE : Entry := { idx := 0x3022, sub := 0x08, last := 0x08, typ := .bool, acc := .wo, expert := true, app := .imm, sel := .lane, lo := 0, hi := 1 }

/-- R279. ST_FIRST_LANE: R257 Default: 0. -/
def OD.ST_FIRST_LANE : Entry := { idx := 0x3030, sub := 0x01, last := 0x01, typ := .u8, acc := .rw, app := .damp, sel := .stream, lo := 0, hi := 63 }

/-- R279. ST_NLANES: 1 to 8; 0 = stream not fed Default: 0. -/
def OD.ST_NLANES : Entry := { idx := 0x3030, sub := 0x02, last := 0x02, typ := .u8, acc := .rw, app := .damp, sel := .stream, lo := 0, hi := 8 }

/-- R279. ST_NCH: Channels, 1 to 16 Default: 16. -/
def OD.ST_NCH : Entry := { idx := 0x3030, sub := 0x03, last := 0x03, typ := .u8, acc := .rw, app := .damp, dflt := 16, sel := .stream, lo := 1, hi := 16 }

/-- R279. ST_WIDTH: Sample bits, 8 to 16 Default: 16. -/
def OD.ST_WIDTH : Entry := { idx := 0x3030, sub := 0x04, last := 0x04, typ := .u8, acc := .rw, app := .damp, dflt := 16, sel := .stream, lo := 8, hi := 16 }

/-- R279. ST_SIGNED: 1 = two's complement samples Default: 0. -/
def OD.ST_SIGNED : Entry := { idx := 0x3030, sub := 0x05, last := 0x05, typ := .bool, acc := .rw, app := .damp, sel := .stream, lo := 0, hi := 1 }

/-- R279. ST_HDR_BYTES: 0 to 64 Default: 0. -/
def OD.ST_HDR_BYTES : Entry := { idx := 0x3030, sub := 0x06, last := 0x06, typ := .u8, acc := .rw, app := .damp, sel := .stream, lo := 0, hi := 64 }

/-- R279. ST_CRC: R263 Default: 1. -/
def OD.ST_CRC : Entry := { idx := 0x3030, sub := 0x07, last := 0x07, typ := .bool, acc := .rw, app := .damp, dflt := 1, sel := .stream, lo := 0, hi := 1 }

/-- R279. ALIGN_MODE: R266 Default: 0. -/
def OD.ALIGN_MODE : Entry := { idx := 0x3030, sub := 0x08, last := 0x08, typ := .u8, acc := .rw, app := .damp, sel := .stream, lo := 0, hi := 1 }

/-- R279. SEQ_OFS: R265; reads the learned value in mode 1 Default: 0. -/
def OD.SEQ_OFS : Entry := { idx := 0x3030, sub := 0x09, last := 0x09, typ := .u16, acc := .rw, app := .damp, sel := .stream, lo := 0, hi := 65535 }

/-- R279. LEARN_MARGIN: Ticks, 0 to 7 Default: 3. -/
def OD.LEARN_MARGIN : Entry := { idx := 0x3030, sub := 0x0A, last := 0x0A, typ := .u8, acc := .rw, expert := true, app := .damp, dflt := 3, sel := .stream, lo := 0, hi := 7 }

/-- R279. LB_BYTES: 8 × U16: LB_i of each bond lane Default: 0. -/
def OD.LB_BYTES : Entry := { idx := 0x3030, sub := 0x0B, last := 0x0B, typ := (.octets 16 true), sel := .stream }

/-- R279. FRAMES_OK: Frames admitted complete Default: 0. -/
def OD.FRAMES_OK : Entry := { idx := 0x3030, sub := 0x0C, last := 0x0C, typ := .u64, sel := .stream }

/-- R279. FRAMES_VOID: Ticks admitted void by ingest Default: 0. -/
def OD.FRAMES_VOID : Entry := { idx := 0x3030, sub := 0x0D, last := 0x0D, typ := .u64, sel := .stream }

/-- R279. VOID_LANE: R267, lane not in DATA or block missing Default: 0. -/
def OD.VOID_LANE : Entry := { idx := 0x3030, sub := 0x0E, last := 0x0E, typ := .u32, expert := true, sel := .stream }

/-- R279. VOID_CHECK: R267, CRC, FEC, code or marker error Default: 0. -/
def OD.VOID_CHECK : Entry := { idx := 0x3030, sub := 0x0F, last := 0x0F, typ := .u32, expert := true, sel := .stream }

/-- R279. FRAME_LATE: R265 Default: 0. -/
def OD.FRAME_LATE : Entry := { idx := 0x3030, sub := 0x10, last := 0x10, typ := .u32, sel := .stream }

/-- R279. FRAME_EARLY: R265 Default: 0. -/
def OD.FRAME_EARLY : Entry := { idx := 0x3030, sub := 0x11, last := 0x11, typ := .u32, sel := .stream }

/-- R279. FRAME_DUP: R265 Default: 0. -/
def OD.FRAME_DUP : Entry := { idx := 0x3030, sub := 0x12, last := 0x12, typ := .u32, expert := true, sel := .stream }

/-- R104. IQ_SEL: [5:0] stream, [11:8] channel; other bits reserved Default: 0. -/
def OD.IQ_SEL : Entry := { idx := 0x3060, sub := 0x01, last := 0x01, typ := .u16, acc := .rw, app := .imm, lo := 0, hi := 65535, mask := 0xF3F, selector := true }

/-- R104. IQ_OFS: Offset ofs of the selected channel, −2^22 to 2^22 − 1 Default: image. -/
def OD.IQ_OFS : Entry := { idx := 0x3060, sub := 0x02, last := 0x02, typ := .i32, acc := .rw, app := .tick, sel := .iq, lo := -4194304, hi := 4194303 }

/-- R104. IQ_MULT: Multiplier mult Default: image. -/
def OD.IQ_MULT : Entry := { idx := 0x3060, sub := 0x03, last := 0x03, typ := .i32, acc := .rw, app := .tick, sel := .iq, lo := -2147483648, hi := 2147483647 }

/-- R104. IQ_SHIFT: Shift, 0 to 47; larger values are refused Default: image. -/
def OD.IQ_SHIFT : Entry := { idx := 0x3060, sub := 0x04, last := 0x04, typ := .u8, acc := .rw, app := .tick, sel := .iq, lo := 0, hi := 47 }

/-- R104. IQ_MODE: 0 = half to even, 1 = half away from zero Default: image. -/
def OD.IQ_MODE : Entry := { idx := 0x3060, sub := 0x05, last := 0x05, typ := .bool, acc := .rw, app := .tick, sel := .iq, lo := 0, hi := 1 }

/-- R104. IQ_LO: Lower clamp, −128 to 127 Default: image. -/
def OD.IQ_LO : Entry := { idx := 0x3060, sub := 0x06, last := 0x06, typ := .i32, acc := .rw, app := .tick, sel := .iq, lo := -128, hi := 127 }

/-- R104. IQ_HI: Upper clamp, IQ_LO to 127 Default: image. -/
def OD.IQ_HI : Entry := { idx := 0x3060, sub := 0x07, last := 0x07, typ := .i32, acc := .rw, app := .tick, sel := .iq, lo := -128, hi := 127 }

/-- R104. IQ_SAT: Input-quantiser clamps of stream (sub − 1) since activation; saturating Default: 0. -/
def OD.IQ_SAT : Entry := { idx := 0x3061, sub := 0x01, last := 0x40, typ := .u32, sel := .array }

/-- R310. TRG_STREAM_SEL: Stream 0 to 63 Default: 0. -/
def OD.TRG_STREAM_SEL : Entry := { idx := 0x4000, sub := 0x01, last := 0x01, typ := .u8, acc := .rw, app := .imm, lo := 0, hi := 63, selector := true }

/-- R310. TRG_CH_SEL: Channel 0 to 15 Default: 0. -/
def OD.TRG_CH_SEL : Entry := { idx := 0x4000, sub := 0x02, last := 0x02, typ := .u8, acc := .rw, app := .imm, lo := 0, hi := 15, selector := true }

/-- R310. TRG_ITEM_SEL: Field 0 to 7, or term 0 to 15 Default: 0. -/
def OD.TRG_ITEM_SEL : Entry := { idx := 0x4000, sub := 0x03, last := 0x03, typ := .u8, acc := .rw, app := .imm, lo := 0, hi := 15, selector := true }

/-- R310. TRG_CNT_CLEAR: Writing 1 clears 4010.09 and OD 4014 for every stream and channel Default: none given. -/
def OD.TRG_CNT_CLEAR : Entry := { idx := 0x4000, sub := 0x04, last := 0x04, typ := .bool, acc := .wo, app := .imm, lo := 0, hi := 1 }

/-- R310. TF_KIND: R284 Default: 0. -/
def OD.TF_KIND : Entry := { idx := 0x4010, sub := 0x01, last := 0x01, typ := .u8, acc := .rw, app := .tick, sel := .trgCh, lo := 0, hi := 4 }

/-- R310. TF_POL: 0, 1 or 2 (R284) Default: 0. -/
def OD.TF_POL : Entry := { idx := 0x4010, sub := 0x02, last := 0x02, typ := .u8, acc := .rw, app := .tick, sel := .trgCh, lo := 0, hi := 2 }

/-- R310. TF_THR_A: Threshold of detector A Default: 0. -/
def OD.TF_THR_A : Entry := { idx := 0x4010, sub := 0x03, last := 0x03, typ := .i32, acc := .rw, app := .tick, sel := .trgCh, lo := -2147483648, hi := 2147483647 }

/-- R310. TF_THR_B: Threshold of detector B Default: 0. -/
def OD.TF_THR_B : Entry := { idx := 0x4010, sub := 0x04, last := 0x04, typ := .i32, acc := .rw, app := .tick, sel := .trgCh, lo := -2147483648, hi := 2147483647 }

/-- R310. TF_HYST: Hysteresis (R282) Default: 0. -/
def OD.TF_HYST : Entry := { idx := 0x4010, sub := 0x05, last := 0x05, typ := .u16, acc := .rw, app := .tick, sel := .trgCh, lo := 0, hi := 65535 }

/-- R310. TF_QUAL: R283 Default: 0. -/
def OD.TF_QUAL : Entry := { idx := 0x4010, sub := 0x06, last := 0x06, typ := .u8, acc := .rw, app := .tick, sel := .trgCh, lo := 0, hi := 4 }

/-- R310. TF_T1: Samples, 1 to 16,777,215 Default: 1. -/
def OD.TF_T1 : Entry := { idx := 0x4010, sub := 0x07, last := 0x07, typ := .u32, acc := .rw, app := .tick, dflt := 1, sel := .trgCh, lo := 1, hi := 16777215 }

/-- R310. TF_T2: Samples, T1 to 16,777,215 Default: 1. -/
def OD.TF_T2 : Entry := { idx := 0x4010, sub := 0x08, last := 0x08, typ := .u32, acc := .rw, app := .tick, dflt := 1, sel := .trgCh, lo := 1, hi := 16777215 }

/-- R310. TF_FIRES: Firings of the channel Default: 0. -/
def OD.TF_FIRES : Entry := { idx := 0x4010, sub := 0x09, last := 0x09, typ := .u32, sel := .trgCh }

/-- R310. HF_POS: [5:0] byte; [10:8] bit; [20:16] width, 0 = off, 1 to 16; others reserved Default: 0. -/
def OD.HF_POS : Entry := { idx := 0x4011, sub := 0x01, last := 0x01, typ := (.bits 4), acc := .rw, app := .tick, sel := .trgItem, lo := 0, hi := 4294967295, mask := 0x1F073F }

/-- R310. HF_MODE: R289 Default: 0. -/
def OD.HF_MODE : Entry := { idx := 0x4011, sub := 0x02, last := 0x02, typ := .u8, acc := .rw, app := .tick, sel := .trgItem, lo := 0, hi := 5 }

/-- R310. HF_MASK: Match mask Default: 0xFFFF. -/
def OD.HF_MASK : Entry := { idx := 0x4011, sub := 0x03, last := 0x03, typ := .u16, acc := .rw, app := .tick, dflt := 65535, sel := .trgItem, lo := 0, hi := 65535 }

/-- R310. HF_VAL: Match value or lower bound Default: 0. -/
def OD.HF_VAL : Entry := { idx := 0x4011, sub := 0x04, last := 0x04, typ := .u16, acc := .rw, app := .tick, sel := .trgItem, lo := 0, hi := 65535 }

/-- R310. HF_HI: Upper bound Default: 0xFFFF. -/
def OD.HF_HI : Entry := { idx := 0x4011, sub := 0x05, last := 0x05, typ := .u16, acc := .rw, app := .tick, dflt := 65535, sel := .trgItem, lo := 0, hi := 65535 }

/-- R310. HF_LAST: v of the last complete frame Default: 0. -/
def OD.HF_LAST : Entry := { idx := 0x4011, sub := 0x06, last := 0x06, typ := .u16, sel := .trgItem }

/-- R310. TL_ACC_SRC: R292 Default: 0. -/
def OD.TL_ACC_SRC : Entry := { idx := 0x4012, sub := 0x01, last := 0x01, typ := .u16, acc := .rw, app := .tick, sel := .trgStream, lo := 0, hi := 65535 }

/-- R310. TL_THR: 4 × I16: THR_0 to THR_3 Default: 0. -/
def OD.TL_THR : Entry := { idx := 0x4012, sub := 0x02, last := 0x02, typ := (.octets 8 true), acc := .rw, app := .tick, sel := .trgStream, lo := 0, hi := 18446744073709551615 }

/-- R310. TL_THR_MODE: [2j+1:2j] mode of comparator j (R290); code 3 refused Default: 0. -/
def OD.TL_THR_MODE : Entry := { idx := 0x4012, sub := 0x03, last := 0x03, typ := .u8, acc := .rw, app := .tick, sel := .trgStream, lo := 0, hi := 255 }

/-- R310. FS_ACCEPT: Fail-safe accept bits Default: 0. -/
def OD.FS_ACCEPT : Entry := { idx := 0x4012, sub := 0x04, last := 0x04, typ := .u8, acc := .rw, app := .tick, sel := .trgStream, lo := 0, hi := 255 }

/-- R310. FS_SCORE: Fail-safe score, −32,768 to 32,767 Default: 0. -/
def OD.FS_SCORE : Entry := { idx := 0x4012, sub := 0x05, last := 0x05, typ := .i32, acc := .rw, app := .tick, sel := .trgStream, lo := -32768, hi := 32767 }

/-- R310. CAPT_TRIG_MASK: R297 Default: 0. -/
def OD.CAPT_TRIG_MASK : Entry := { idx := 0x4012, sub := 0x06, last := 0x06, typ := .u8, acc := .rw, app := .tick, sel := .trgStream, lo := 0, hi := 255 }

/-- R310. TERM_P: R291 Default: 0. -/
def OD.TERM_P : Entry := { idx := 0x4013, sub := 0x01, last := 0x01, typ := .u32, acc := .rw, app := .tick, sel := .trgItem, lo := 0, hi := 4294967295 }

/-- R310. TERM_N: R291 Default: 0. -/
def OD.TERM_N : Entry := { idx := 0x4013, sub := 0x02, last := 0x02, typ := .u32, acc := .rw, app := .tick, sel := .trgItem, lo := 0, hi := 4294967295 }

/-- R310. TERM_OUT: R291 Default: 0. -/
def OD.TERM_OUT : Entry := { idx := 0x4013, sub := 0x03, last := 0x03, typ := .u8, acc := .rw, app := .tick, sel := .trgItem, lo := 0, hi := 255 }

/-- R310. TRIG_CNT: Capture triggers; 48-bit, wraps; [63:48] read 0 Default: 0. -/
def OD.TRIG_CNT : Entry := { idx := 0x4014, sub := 0x01, last := 0x01, typ := .u64, sel := .trgStream }

/-- R310. TRIG_IGNORED: R299 Default: 0. -/
def OD.TRIG_IGNORED : Entry := { idx := 0x4014, sub := 0x02, last := 0x02, typ := .u32, sel := .trgStream }

/-- R310. SEG_DONE: Segments completed Default: 0. -/
def OD.SEG_DONE : Entry := { idx := 0x4014, sub := 0x03, last := 0x03, typ := .u32, sel := .trgStream }

/-- R310. CAPT_OVF: R303 Default: 0. -/
def OD.CAPT_OVF : Entry := { idx := 0x4014, sub := 0x04, last := 0x04, typ := .u32, sel := .trgStream }

/-- R310. MASK_FAILS: Segments failing their test Default: 0. -/
def OD.MASK_FAILS : Entry := { idx := 0x4014, sub := 0x05, last := 0x05, typ := .u32, sel := .trgStream }

/-- R310. SEG_DISCARD: Segments freed unsent (R305, R308) Default: 0. -/
def OD.SEG_DISCARD : Entry := { idx := 0x4014, sub := 0x06, last := 0x06, typ := .u32, sel := .trgStream }

/-- R310. AVG_K: 0 off, 1 to 10 (R287) Default: 0. -/
def OD.AVG_K : Entry := { idx := 0x4020, sub := 0x01, last := 0x01, typ := .u8, acc := .rw, app := .damp, sel := .trgStream, lo := 0, hi := 10 }

/-- R310. CAPT_SRC: 0 raw, 1 averaged (R298) Default: 0. -/
def OD.CAPT_SRC : Entry := { idx := 0x4020, sub := 0x02, last := 0x02, typ := .u8, acc := .rw, app := .damp, sel := .trgStream, lo := 0, hi := 1 }

/-- R310. SEG_COUNT: 0 = no capture, 1 to 65,536 Default: 0. -/
def OD.SEG_COUNT : Entry := { idx := 0x4020, sub := 0x03, last := 0x03, typ := .u32, acc := .rw, app := .damp, sel := .trgStream, lo := 0, hi := 65536 }

/-- R310. CAPT_PRE: Ticks before the trigger Default: 0. -/
def OD.CAPT_PRE : Entry := { idx := 0x4020, sub := 0x04, last := 0x04, typ := .u32, acc := .rw, app := .damp, sel := .trgStream, lo := 0, hi := 4294967295 }

/-- R310. CAPT_POST: Ticks from the trigger, 1 or more Default: 1. -/
def OD.CAPT_POST : Entry := { idx := 0x4020, sub := 0x05, last := 0x05, typ := .u32, acc := .rw, app := .damp, dflt := 1, sel := .trgStream, lo := 1, hi := 4294967295 }

/-- R310. CAPT_POST_EFF: POST_EFF (R300) Default: none given. -/
def OD.CAPT_POST_EFF : Entry := { idx := 0x4020, sub := 0x06, last := 0x06, typ := .u32, sel := .trgStream }

/-- R310. CAPT_MODE: 0 single, 1 continuous Default: 1. -/
def OD.CAPT_MODE : Entry := { idx := 0x4020, sub := 0x07, last := 0x07, typ := .u8, acc := .rw, app := .tick, dflt := 1, sel := .trgStream, lo := 0, hi := 1 }

/-- R310. CAPT_AUTOARM: Arm at each resume tick Default: 0. -/
def OD.CAPT_AUTOARM : Entry := { idx := 0x4020, sub := 0x08, last := 0x08, typ := .bool, acc := .rw, app := .damp, sel := .trgStream, lo := 0, hi := 1 }

/-- R310. OVF_REARM: R303 Default: 0. -/
def OD.OVF_REARM : Entry := { idx := 0x4020, sub := 0x09, last := 0x09, typ := .bool, acc := .rw, app := .tick, sel := .trgStream, lo := 0, hi := 1 }

/-- R310. CAPT_CMD: 1 arm, 2 stop Default: none given. -/
def OD.CAPT_CMD : Entry := { idx := 0x4020, sub := 0x0A, last := 0x0A, typ := .u8, acc := .wo, app := .tick, sel := .trgStream, lo := 1, hi := 2 }

/-- R310. CAPT_FREE_TO: Frees every READY segment whose SEGNO equals this value or precedes it in serial order (R507); a SEGNO at a distance of exactly 2^31 is not freed Default: none given. -/
def OD.CAPT_FREE_TO : Entry := { idx := 0x4020, sub := 0x0B, last := 0x0B, typ := .u32, acc := .wo, app := .tick, sel := .trgStream, lo := 0, hi := 4294967295 }

/-- R310. CAPT_STATE: [2:0] state (R299); [5:3] stop reason: 0 none, 1 command, 2 WRITE, 3 FULL, 4 mask; [31:6] reserved Default: 0. -/
def OD.CAPT_STATE : Entry := { idx := 0x4020, sub := 0x0C, last := 0x0C, typ := (.bits 4), sel := .trgStream }

/-- R310. SEG_NEXT: SEGNO of the next segment Default: 0. -/
def OD.SEG_NEXT : Entry := { idx := 0x4020, sub := 0x0D, last := 0x0D, typ := .u32, sel := .trgStream }

/-- R310. RING_BASE: HBM address of the stream's ring Default: none given. -/
def OD.RING_BASE : Entry := { idx := 0x4020, sub := 0x0E, last := 0x0E, typ := .u64, expert := true, sel := .trgStream }

/-- R310. SEG_STRIDE: R301 Default: none given. -/
def OD.SEG_STRIDE : Entry := { idx := 0x4020, sub := 0x0F, last := 0x0F, typ := .u32, expert := true, sel := .trgStream }

/-- R310. RO_LANE: Readout lane; 0xFF = none Default: 0xFF. -/
def OD.RO_LANE : Entry := { idx := 0x4020, sub := 0x10, last := 0x10, typ := .u8, acc := .rw, app := .damp, dflt := 255, sel := .trgStream, lo := 0, hi := 255 }

/-- R310. RO_GATE: R307 Default: 0. -/
def OD.RO_GATE : Entry := { idx := 0x4020, sub := 0x11, last := 0x11, typ := .bool, acc := .rw, app := .damp, sel := .trgStream, lo := 0, hi := 1 }

/-- R310. RO_GATE_DS: Deep slots, 1 to 64 Default: 4. -/
def OD.RO_GATE_DS : Entry := { idx := 0x4020, sub := 0x12, last := 0x12, typ := .u8, acc := .rw, app := .damp, dflt := 4, sel := .trgStream, lo := 1, hi := 64 }

/-- R310. RO_DEFAULT: 1 keep, 2 free Default: 1. -/
def OD.RO_DEFAULT : Entry := { idx := 0x4020, sub := 0x13, last := 0x13, typ := .u8, acc := .rw, app := .damp, dflt := 1, sel := .trgStream, lo := 1, hi := 2 }

/-- R310. MASK_TAB: Table 0 to 7; 0xFF = no test Default: 0xFF. -/
def OD.MASK_TAB : Entry := { idx := 0x4020, sub := 0x14, last := 0x14, typ := .u8, acc := .rw, app := .tick, dflt := 255, sel := .trgStream, lo := 0, hi := 255 }

/-- R310. MASK_CH: Channel tested Default: 0. -/
def OD.MASK_CH : Entry := { idx := 0x4020, sub := 0x15, last := 0x15, typ := .u8, acc := .rw, app := .tick, sel := .trgStream, lo := 0, hi := 15 }

/-- R310. MASK_DECIM: 0 to 15 (R304) Default: 0. -/
def OD.MASK_DECIM : Entry := { idx := 0x4020, sub := 0x16, last := 0x16, typ := .u8, acc := .rw, app := .tick, sel := .trgStream, lo := 0, hi := 15 }

/-- R310. MASK_ACT: R305 Default: 0. -/
def OD.MASK_ACT : Entry := { idx := 0x4020, sub := 0x17, last := 0x17, typ := .u8, acc := .rw, app := .tick, sel := .trgStream, lo := 0, hi := 2 }

/-- R310. MASK_TAB_SEL: Table 0 to 7 Default: 0. -/
def OD.MASK_TAB_SEL : Entry := { idx := 0x4030, sub := 0x01, last := 0x01, typ := .u8, acc := .rw, app := .imm, lo := 0, hi := 7, selector := true }

/-- R310. MASK_NPTS: Points, 1 to 4,096 Default: 4,096. -/
def OD.MASK_NPTS : Entry := { idx := 0x4030, sub := 0x02, last := 0x02, typ := .u16, acc := .rw, app := .imm, dflt := 4096, sel := .maskTab, lo := 1, hi := 4096 }

/-- R310. MASK_IDX: Next point written Default: 0. -/
def OD.MASK_IDX : Entry := { idx := 0x4030, sub := 0x03, last := 0x03, typ := .u16, acc := .rw, app := .imm, sel := .maskTab, lo := 0, hi := 4095 }

/-- R310. MASK_LO: Lower envelope value for the next point Default: none given. -/
def OD.MASK_LO : Entry := { idx := 0x4030, sub := 0x04, last := 0x04, typ := .i32, acc := .rw, app := .imm, sel := .maskTab, lo := -2147483648, hi := 2147483647 }

/-- R310. MASK_HI: Writing stores LO and HI at MASK_IDX, then increments it (R306) Default: none given. -/
def OD.MASK_HI : Entry := { idx := 0x4030, sub := 0x05, last := 0x05, typ := .i32, acc := .rw, app := .imm, sel := .maskTab, lo := -2147483648, hi := 2147483647 }

/-- R310. RO_CHUNK: One value for the device, used by every readout lane and every stream: chunk bytes, a multiple of 64 from 64 to 16,320 Default: 4,096. -/
def OD.RO_CHUNK : Entry := { idx := 0x4030, sub := 0x06, last := 0x06, typ := .u16, acc := .rw, expert := true, app := .damp, dflt := 4096, lo := 64, hi := 16320 }

/-- R310. PIN_SEL: Pin 0 to 7 Default: 0. -/
def OD.PIN_SEL : Entry := { idx := 0x4040, sub := 0x01, last := 0x01, typ := .u8, acc := .rw, app := .imm, lo := 0, hi := 7, selector := true }

/-- R310. PIN_STREAMS: Bit s = stream s (R295) Default: 0. -/
def OD.PIN_STREAMS : Entry := { idx := 0x4040, sub := 0x02, last := 0x02, typ := (.bits 8), acc := .rw, app := .damp, sel := .pin, lo := 0, hi := 18446744073709551615 }

/-- R310. PIN_CFG: [2:0] accept bit; [4:3] mode 0 to 2; [5] 1 = active low; [31:16] PULSE; others reserved Default: 0. -/
def OD.PIN_CFG : Entry := { idx := 0x4040, sub := 0x03, last := 0x03, typ := (.bits 4), acc := .rw, app := .damp, sel := .pin, lo := 0, hi := 4294967295, mask := 0xFFFF003F }

/-- R224. HBM_SIZE: Bytes of HBM Default: fuse. -/
def OD.HBM_SIZE : Entry := { idx := 0x5000, sub := 0x01, last := 0x01, typ := .u64 }

/-- R224. CAPT_GIB: Capture region in GiB (R198) Default: 16. -/
def OD.CAPT_GIB : Entry := { idx := 0x5000, sub := 0x02, last := 0x02, typ := .u16, acc := .rw, app := .load, dflt := 16, lo := 0, hi := 65535 }

/-- R224. REPLAY_GIB: Replay region in GiB Default: 32. -/
def OD.REPLAY_GIB : Entry := { idx := 0x5000, sub := 0x03, last := 0x03, typ := .u16, acc := .rw, app := .load, dflt := 32, lo := 0, hi := 65535 }

/-- R224. SCRATCH_GIB: Deep scratch in GiB, 1 or more Default: 8. -/
def OD.SCRATCH_GIB : Entry := { idx := 0x5000, sub := 0x04, last := 0x04, typ := .u16, acc := .rw, app := .load, dflt := 8, lo := 1, hi := 65535 }

/-- R224. MAP_BASES: 8 × U64: bases of the regions in the order of R197 Default: none given. -/
def OD.MAP_BASES : Entry := { idx := 0x5000, sub := 0x05, last := 0x05, typ := (.octets 64 true) }

/-- R224. HBM_CE: Corrected HBM reads Default: 0. -/
def OD.HBM_CE : Entry := { idx := 0x5000, sub := 0x06, last := 0x06, typ := .u64 }

/-- R224. HBM_UE: Uncorrected HBM reads (R196) Default: 0. -/
def OD.HBM_UE : Entry := { idx := 0x5000, sub := 0x07, last := 0x07, typ := .u64 }

/-- R224. HBM_TEMP: [7:0] M0, [15:8] M1, in °C, from the last window Default: none given. -/
def OD.HBM_TEMP : Entry := { idx := 0x5000, sub := 0x08, last := 0x08, typ := .u16 }

/-- R224. HBM_REISSUE: Commands reissued after parity errors Default: 0. -/
def OD.HBM_REISSUE : Entry := { idx := 0x5000, sub := 0x09, last := 0x09, typ := .u64, expert := true }

/-- R224. DSLOT_LOG: k of the active image; 0 = no deep quads Default: 0. -/
def OD.DSLOT_LOG : Entry := { idx := 0x5010, sub := 0x01, last := 0x01, typ := .u8 }

/-- R224. DSLOT_CYC: Deep-slot length in cycles Default: 0. -/
def OD.DSLOT_CYC : Entry := { idx := 0x5010, sub := 0x02, last := 0x02, typ := .u32 }

/-- R224. DSLOT_COUNT: Deep slots begun since activation Default: 0. -/
def OD.DSLOT_COUNT : Entry := { idx := 0x5010, sub := 0x03, last := 0x03, typ := .u64 }

/-- R224. DSLOT_SKIP: Deep slots skipped by throttle Default: 0. -/
def OD.DSLOT_SKIP : Entry := { idx := 0x5010, sub := 0x04, last := 0x04, typ := .u64 }

/-- R224. DEEP_OVERRUN_CNT: STRICT deep slots that overran Default: 0. -/
def OD.DEEP_OVERRUN_CNT : Entry := { idx := 0x5010, sub := 0x05, last := 0x05, typ := .u64 }

/-- R224. REF_SPACING: Window spacing in cycles Default: 1,024. -/
def OD.REF_SPACING : Entry := { idx := 0x5010, sub := 0x06, last := 0x06, typ := .u16, expert := true, dflt := 1024 }

/-- R224. REF_LEN: Window length in cycles Default: 96. -/
def OD.REF_LEN : Entry := { idx := 0x5010, sub := 0x07, last := 0x07, typ := .u16, expert := true, dflt := 96 }

/-- R224. CAND_BUDGET: STRICT candidates per deep slot Default: 0. -/
def OD.CAND_BUDGET : Entry := { idx := 0x5010, sub := 0x08, last := 0x08, typ := .u16, expert := true }

/-- R224. DELIVER_OFS: STRICT release offset in cycles Default: 0. -/
def OD.DELIVER_OFS : Entry := { idx := 0x5010, sub := 0x09, last := 0x09, typ := .u32, expert := true }

/-- R224. QUAD_FREQ: 64 × U8: frequency step of each cluster quad, 0 = step 8 (f_core) to 4 = step 4 (f_core ÷ 2), R202; at 600 MHz these are 600 MHz to 300 MHz Default: none given. -/
def OD.QUAD_FREQ : Entry := { idx := 0x5010, sub := 0x0A, last := 0x0A, typ := (.octets 64 true), expert := true }

/-- R224. DSTREAM_SEL: Stream 0 to 63 Default: 0. -/
def OD.DSTREAM_SEL : Entry := { idx := 0x5020, sub := 0x01, last := 0x01, typ := .u8, acc := .rw, app := .imm, lo := 0, hi := 63, selector := true }

/-- R224. HIST_LEN: 2^RLOG, or 0 when unused Default: 0. -/
def OD.HIST_LEN : Entry := { idx := 0x5020, sub := 0x02, last := 0x02, typ := .u32, sel := .dstream }

/-- R224. VALID_FROM: R207 Default: 0. -/
def OD.VALID_FROM : Entry := { idx := 0x5020, sub := 0x03, last := 0x03, typ := .u64, sel := .dstream }

/-- R224. HIST_WRITTEN: Entries written since activation Default: 0. -/
def OD.HIST_WRITTEN : Entry := { idx := 0x5020, sub := 0x04, last := 0x04, typ := .u64, sel := .dstream }

/-- R224. HANDOFF_OVR: R205; saturating Default: 0. -/
def OD.HANDOFF_OVR : Entry := { idx := 0x5020, sub := 0x05, last := 0x05, typ := .u32, sel := .dstream }

/-- R224. CAND_LOST: R205, R215; saturating Default: 0. -/
def OD.CAND_LOST : Entry := { idx := 0x5020, sub := 0x06, last := 0x06, typ := .u32, sel := .dstream }

/-- R224. CAND_DROP: R216, R218; saturating Default: 0. -/
def OD.CAND_DROP : Entry := { idx := 0x5020, sub := 0x07, last := 0x07, typ := .u32, sel := .dstream }

/-- R224. CAND_SPILL: Candidates spilled; saturating Default: 0. -/
def OD.CAND_SPILL : Entry := { idx := 0x5020, sub := 0x08, last := 0x08, typ := .u32, sel := .dstream }

/-- R224. SPILL_VOID: Voided for a full spill queue; saturating Default: 0. -/
def OD.SPILL_VOID : Entry := { idx := 0x5020, sub := 0x09, last := 0x09, typ := .u32, sel := .dstream }

/-- R224. RECALL_CNT: Recalls served Default: 0. -/
def OD.RECALL_CNT : Entry := { idx := 0x5020, sub := 0x0A, last := 0x0A, typ := .u64, expert := true, sel := .dstream }

/-- R224. HIST_STALE: Absent or uncorrected entries met in recall ranges; saturating Default: 0. -/
def OD.HIST_STALE : Entry := { idx := 0x5020, sub := 0x0B, last := 0x0B, typ := .u32, expert := true, sel := .dstream }

/-- R224. DEEP_LAT_MAX: Longest tick-to-release time in cycles Default: 0. -/
def OD.DEEP_LAT_MAX : Entry := { idx := 0x5020, sub := 0x0C, last := 0x0C, typ := .u32, expert := true, sel := .dstream }

/-- R224. HIST_CLEAR: Writing 1 sets VALID_FROM of every stream to the tick of application Default: none given. -/
def OD.HIST_CLEAR : Entry := { idx := 0x5030, sub := 0x01, last := 0x01, typ := .bool, acc := .wo, app := .tick, lo := 0, hi := 1 }

/-- R224. DEEP_CNT_CLEAR: Writing 1 clears 5000.06 to 5000.09, 5010.03 to 5010.05 and 5020.04 to 5020.0C Default: none given. -/
def OD.DEEP_CNT_CLEAR : Entry := { idx := 0x5030, sub := 0x02, last := 0x02, typ := .bool, acc := .wo, app := .imm, lo := 0, hi := 1 }

/-- R247. ADAPT_ENABLE: 0 = updates suspended (R234) Default: 1. -/
def OD.ADAPT_ENABLE : Entry := { idx := 0x5100, sub := 0x01, last := 0x01, typ := .bool, acc := .rw, app := .tick, dflt := 1, lo := 0, hi := 1 }

/-- R247. ADAPT_GROUPS: Groups declared by the active image Default: 0. -/
def OD.ADAPT_GROUPS : Entry := { idx := 0x5100, sub := 0x02, last := 0x02, typ := .u8 }

/-- R247. ADAPT_SEL: Group 0 to 7 Default: 0. -/
def OD.ADAPT_SEL : Entry := { idx := 0x5100, sub := 0x03, last := 0x03, typ := .u8, acc := .rw, app := .imm, lo := 0, hi := 7, selector := true }

/-- R247. CAL_EN: 1 = calibration frames give labels (R230) Default: 0. -/
def OD.CAL_EN : Entry := { idx := 0x5100, sub := 0x04, last := 0x04, typ := .bool, acc := .rw, app := .tick, lo := 0, hi := 1 }

/-- R247. CAL_FIELD: Header field 0 to 7 Default: 0. -/
def OD.CAL_FIELD : Entry := { idx := 0x5100, sub := 0x05, last := 0x05, typ := .u8, acc := .rw, app := .tick, lo := 0, hi := 7 }

/-- R247. CAL_KEY: Value of field bits [15:8] marking a calibration frame Default: 0xCA. -/
def OD.CAL_KEY : Entry := { idx := 0x5100, sub := 0x06, last := 0x06, typ := .u8, acc := .rw, app := .tick, dflt := 202, lo := 0, hi := 255 }

/-- R247. GRP_STATE: [0] declared; [1] suspended; [2] at baseline; [3] armed; [31:4] reserved Default: 0. -/
def OD.GRP_STATE : Entry := { idx := 0x5101, sub := 0x01, last := 0x01, typ := (.bits 4), sel := .adapt }

/-- R247. GRP_PERIOD: Current period j Default: 0. -/
def OD.GRP_PERIOD : Entry := { idx := 0x5101, sub := 0x02, last := 0x02, typ := .u64, sel := .adapt }

/-- R247. GRP_SWAPS: Swaps since activation, rollbacks included Default: 0. -/
def OD.GRP_SWAPS : Entry := { idx := 0x5101, sub := 0x03, last := 0x03, typ := .u64, sel := .adapt }

/-- R247. ROLLBACK_COUNT: Rollbacks since activation; saturating Default: 0. -/
def OD.ROLLBACK_COUNT : Entry := { idx := 0x5101, sub := 0x04, last := 0x04, typ := .u32, sel := .adapt }

/-- R247. LAST_ROLLBACK: [3:0] cause (R243); [7:4] reserved; [55:8] Drone count [47:0] of the swap; [63:56] reserved Default: 0. -/
def OD.LAST_ROLLBACK : Entry := { idx := 0x5101, sub := 0x05, last := 0x05, typ := (.bits 8), sel := .adapt }

/-- R247. GRP_SEED: SEED used from the next activation Default: image. -/
def OD.GRP_SEED : Entry := { idx := 0x5101, sub := 0x06, last := 0x06, typ := .u64, acc := .rw, expert := true, app := .load, sel := .adapt, lo := 0, hi := 18446744073709551615 }

/-- R247. ENV_STEP: Per-update bound in master LSBs Default: image. -/
def OD.ENV_STEP : Entry := { idx := 0x5101, sub := 0x07, last := 0x07, typ := .u16, acc := .rw, expert := true, app := .tick, sel := .adapt, lo := 0, hi := 65535 }

/-- R247. ENV_DRIFT: Bound from baseline in master LSBs Default: image. -/
def OD.ENV_DRIFT : Entry := { idx := 0x5101, sub := 0x08, last := 0x08, typ := .u16, acc := .rw, expert := true, app := .tick, sel := .adapt, lo := 0, hi := 65535 }

/-- R247. ENV_MODE: 0 clamp; 1 rollback on clamp; others refused Default: image. -/
def OD.ENV_MODE : Entry := { idx := 0x5101, sub := 0x09, last := 0x09, typ := .u8, acc := .rw, expert := true, app := .tick, sel := .adapt, lo := 0, hi := 1 }

/-- R247. SAT_ROLL_THRESH: Cause 4 threshold; 0xFFFF_FFFF = off Default: image. -/
def OD.SAT_ROLL_THRESH : Entry := { idx := 0x5101, sub := 0x0A, last := 0x0A, typ := .u32, acc := .rw, expert := true, app := .tick, sel := .adapt, lo := 0, hi := 4294967295 }

/-- R247. LABELS_USED: Samples used in updates Default: 0. -/
def OD.LABELS_USED : Entry := { idx := 0x5101, sub := 0x0B, last := 0x0B, typ := .u64, sel := .adapt }

/-- R247. LABEL_LATE: R232; saturating Default: 0. -/
def OD.LABEL_LATE : Entry := { idx := 0x5101, sub := 0x0C, last := 0x0C, typ := .u32, sel := .adapt }

/-- R247. LABEL_SKIP: R232; saturating Default: 0. -/
def OD.LABEL_SKIP : Entry := { idx := 0x5101, sub := 0x0D, last := 0x0D, typ := .u32, sel := .adapt }

/-- R247. LABEL_EXCESS: R231; saturating Default: 0. -/
def OD.LABEL_EXCESS : Entry := { idx := 0x5101, sub := 0x0E, last := 0x0E, typ := .u32, sel := .adapt }

/-- R247. ENV_CLIPS: Envelope clamps (R238) Default: 0. -/
def OD.ENV_CLIPS : Entry := { idx := 0x5101, sub := 0x0F, last := 0x0F, typ := .u64, sel := .adapt }

/-- R247. ADAPT_LATE: Swaps cancelled (R241); saturating Default: 0. -/
def OD.ADAPT_LATE : Entry := { idx := 0x5101, sub := 0x10, last := 0x10, typ := .u32, expert := true, sel := .adapt }

/-- R247. ADAPT_DISCARD: Updates discarded for void gradients (R235); saturating Default: 0. -/
def OD.ADAPT_DISCARD : Entry := { idx := 0x5101, sub := 0x11, last := 0x11, typ := .u32, expert := true, sel := .adapt }

/-- R247. LAST_CRC: INT8 CRC-64 of the last update record (R246) Default: 0. -/
def OD.LAST_CRC : Entry := { idx := 0x5101, sub := 0x12, last := 0x12, typ := .u64, expert := true, sel := .adapt }

/-- R247. ROLLBACK_CMD: Writing 1 requests cause 5 Default: none given. -/
def OD.ROLLBACK_CMD : Entry := { idx := 0x5101, sub := 0x13, last := 0x13, typ := .bool, acc := .wo, app := .tick, sel := .adapt, lo := 0, hi := 1 }

/-- R247. ADAPT_CNT_CLEAR: Writing 1 clears 5101.0B to 5101.11 Default: none given. -/
def OD.ADAPT_CNT_CLEAR : Entry := { idx := 0x5101, sub := 0x14, last := 0x14, typ := .bool, acc := .wo, app := .imm, sel := .adapt, lo := 0, hi := 1 }

/-- R369. ROLE: 0 standalone, 1 worker, 2 manager (R339) Default: strap. -/
def OD.ROLE : Entry := { idx := 0x6000, sub := 0x01, last := 0x01, typ := .u8 }

/-- R369. ROLE_OVERRIDE: 0xFF = none; 0 to 2 as ROLE Default: 0xFF. -/
def OD.ROLE_OVERRIDE : Entry := { idx := 0x6000, sub := 0x02, last := 0x02, typ := .u8, acc := .rwp, expert := true, app := .imm, dflt := 255, lo := 0, hi := 255 }

/-- R369. GIRDER_STATE: R348 Default: 0. -/
def OD.GIRDER_STATE : Entry := { idx := 0x6000, sub := 0x03, last := 0x03, typ := .u8 }

/-- R369. NODE_ADDR: Own address Default: 0xFFFE. -/
def OD.NODE_ADDR : Entry := { idx := 0x6000, sub := 0x04, last := 0x04, typ := .u16, dflt := 65534 }

/-- R369. DOMAIN_ID: Manager: set; worker: read only, copied from beacons Default: serial [31:0]. -/
def OD.DOMAIN_ID : Entry := { idx := 0x6000, sub := 0x05, last := 0x05, typ := .u32, acc := .rw, app := .imm, lo := 0, hi := 4294967295 }

/-- R369. JOIN_EN: Manager accepts joins Default: 1. -/
def OD.JOIN_EN : Entry := { idx := 0x6000, sub := 0x06, last := 0x06, typ := .bool, acc := .rw, app := .imm, dflt := 1, lo := 0, hi := 1 }

/-- R369. AUTO_JOIN: Worker joins on a beacon Default: 1. -/
def OD.AUTO_JOIN : Entry := { idx := 0x6000, sub := 0x07, last := 0x07, typ := .bool, acc := .rw, app := .imm, dflt := 1, lo := 0, hi := 1 }

/-- R369. JOIN_CMD: Writing 1 starts a join Default: none given. -/
def OD.JOIN_CMD : Entry := { idx := 0x6000, sub := 0x08, last := 0x08, typ := .bool, acc := .wo, app := .imm, lo := 0, hi := 1 }

/-- R369. LEAVE_CMD: 1 = leave orderly and stay LEFT (R352) Default: 0. -/
def OD.LEAVE_CMD : Entry := { idx := 0x6000, sub := 0x09, last := 0x09, typ := .bool, acc := .rw, app := .imm, lo := 0, hi := 1 }

/-- R369. REF_SRC: 0 none, 1 REFCLK, 2 to 5 Girder port 0 to 3 Default: none given. -/
def OD.REF_SRC : Entry := { idx := 0x6000, sub := 0x0A, last := 0x0A, typ := .u8 }

/-- R369. REF_FALLBACK: R368 Default: 1. -/
def OD.REF_FALLBACK : Entry := { idx := 0x6000, sub := 0x0B, last := 0x0B, typ := .bool, acc := .rw, app := .imm, dflt := 1, lo := 0, hi := 1 }

/-- R369. DEPTH: Hops from the manager Default: 0. -/
def OD.DEPTH : Entry := { idx := 0x6000, sub := 0x0C, last := 0x0C, typ := .u8 }

/-- R369. PARENT_ADDR: — Default: 0xFFFE. -/
def OD.PARENT_ADDR : Entry := { idx := 0x6000, sub := 0x0D, last := 0x0D, typ := .u16, dflt := 65534 }

/-- R369. ADDR_HOLD: Seconds, 0 to 3,600 (R350) Default: 60. -/
def OD.ADDR_HOLD : Entry := { idx := 0x6000, sub := 0x0E, last := 0x0E, typ := .u16, acc := .rw, expert := true, app := .imm, dflt := 60, lo := 0, hi := 3600 }

/-- R369. ROLE_STATUS: [0] manager without licence; [1] reserved strap; [31:2] reserved Default: 0. -/
def OD.ROLE_STATUS : Entry := { idx := 0x6000, sub := 0x0F, last := 0x0F, typ := (.bits 4) }

/-- R369. PORT_SEL: Port 0 to 3 Default: 0. -/
def OD.PORT_SEL : Entry := { idx := 0x6010, sub := 0x01, last := 0x01, typ := .u8, acc := .rw, app := .imm, lo := 0, hi := 3, selector := true }

/-- R369. PORT_STATE: 0 OFF, 1 TRAINING, 2 UP, 3 DOWN, 4 BLOCKED, 5 FAILED Default: 0. -/
def OD.PORT_STATE : Entry := { idx := 0x6010, sub := 0x02, last := 0x02, typ := .u8, sel := .port }

/-- R369. PORT_CRC_ERR: Frames failing CRC; saturating Default: 0. -/
def OD.PORT_CRC_ERR : Entry := { idx := 0x6011, sub := 0x01, last := 0x01, typ := .u32, sel := .port }

/-- R369. RESENDS: Reliable frames resent; saturating Default: 0. -/
def OD.RESENDS : Entry := { idx := 0x6011, sub := 0x02, last := 0x02, typ := .u32, sel := .port }

/-- R369. LINK_DOWNS: Saturating Default: 0. -/
def OD.LINK_DOWNS : Entry := { idx := 0x6011, sub := 0x03, last := 0x03, typ := .u32, sel := .port }

/-- R369. LINK_DELAY: 2^-16 ns (R355) Default: 0. -/
def OD.LINK_DELAY : Entry := { idx := 0x6011, sub := 0x04, last := 0x04, typ := .i32, sel := .port }

/-- R369. TS_ASYM: 2^-16 ns (R354) Default: 0. -/
def OD.TS_ASYM : Entry := { idx := 0x6011, sub := 0x05, last := 0x05, typ := .i32, acc := .rw, expert := true, app := .imm, sel := .port, lo := -2147483648, hi := 2147483647 }

/-- R369. DELAY_REJECT: Saturating Default: 0. -/
def OD.DELAY_REJECT : Entry := { idx := 0x6011, sub := 0x06, last := 0x06, typ := .u32, expert := true, sel := .port }

/-- R369. BAD_FRAME: Saturating Default: 0. -/
def OD.BAD_FRAME : Entry := { idx := 0x6011, sub := 0x07, last := 0x07, typ := .u32, expert := true, sel := .port }

/-- R369. ROSTER_GEN: R353 Default: 0. -/
def OD.ROSTER_GEN : Entry := { idx := 0x6020, sub := 0x01, last := 0x01, typ := .u32 }

/-- R369. ROSTER_COUNT: Members Default: 0. -/
def OD.ROSTER_COUNT : Entry := { idx := 0x6020, sub := 0x02, last := 0x02, typ := .u8 }

/-- R369. ROSTER_SEL: Address 1 to 255 Default: 1. -/
def OD.ROSTER_SEL : Entry := { idx := 0x6020, sub := 0x03, last := 0x03, typ := .u16, acc := .rw, app := .imm, dflt := 1, lo := 1, hi := 255, selector := true }

/-- R369. ROSTER_ENTRY: 32 bytes: [7:0] serial; [8] grade; [9] stepping; [10] depth; [12:11] parent; [13] parent port; [14] state 0 free, 1 MEMBER, 2 LEFT, 3 LOST; [18:15] joins; [24:19] Drone [47:0] of the last change; [31:25] reserved Default: 0. -/
def OD.ROSTER_ENTRY : Entry := { idx := 0x6020, sub := 0x04, last := 0x04, typ := (.octets 32 true), sel := .roster }

/-- R369. LAUNCH_COUNT: R361 Default: 0. -/
def OD.LAUNCH_COUNT : Entry := { idx := 0x6030, sub := 0x01, last := 0x01, typ := .u64, acc := .rw, app := .imm, lo := 0, hi := 18446744073709551615 }

/-- R369. LAUNCH_TARGETS: 32 bytes, bit per address Default: 0. -/
def OD.LAUNCH_TARGETS : Entry := { idx := 0x6030, sub := 0x02, last := 0x02, typ := (.octets 32 true), acc := .rw, app := .imm }

/-- R369. LAUNCH_KIND: R361 Default: 0. -/
def OD.LAUNCH_KIND : Entry := { idx := 0x6030, sub := 0x03, last := 0x03, typ := .u8, acc := .rw, app := .imm, lo := 0, hi := 255 }

/-- R369. LAUNCH_ARGS: Up to 983 bytes Default: 0. -/
def OD.LAUNCH_ARGS : Entry := { idx := 0x6030, sub := 0x04, last := 0x04, typ := (.octets 983 false), acc := .rw, app := .imm }

/-- R369. LAUNCH_CMD: Writing 1 sends the launch Default: none given. -/
def OD.LAUNCH_CMD : Entry := { idx := 0x6030, sub := 0x05, last := 0x05, typ := .bool, acc := .wo, app := .imm, lo := 0, hi := 1 }

/-- R369. LAUNCH_ACKED: 32 bytes, code 0 received Default: 0. -/
def OD.LAUNCH_ACKED : Entry := { idx := 0x6030, sub := 0x06, last := 0x06, typ := (.octets 32 true) }

/-- R369. LAUNCH_REFUSED: 32 bytes, codes 1 to 3 received Default: 0. -/
def OD.LAUNCH_REFUSED : Entry := { idx := 0x6030, sub := 0x07, last := 0x07, typ := (.octets 32 true) }

/-- R369. TCOUNT: R354 Default: 0. -/
def OD.TCOUNT : Entry := { idx := 0x6040, sub := 0x01, last := 0x01, typ := .u64 }

/-- R369. TB_SEL: Time base 0 to 3 Default: 0. -/
def OD.TB_SEL : Entry := { idx := 0x6040, sub := 0x02, last := 0x02, typ := .u8, acc := .rw, app := .imm, lo := 0, hi := 3, selector := true }

/-- R369. TB_MODE: R365 Default: 0. -/
def OD.TB_MODE : Entry := { idx := 0x6040, sub := 0x03, last := 0x03, typ := .u8, acc := .rw, app := .imm, sel := .tb, lo := 0, hi := 2 }

/-- R369. TB_TIME: Value; writing steps Default: 0. -/
def OD.TB_TIME : Entry := { idx := 0x6040, sub := 0x04, last := 0x04, typ := .time96, acc := .rw, app := .imm, sel := .tb, lo := 0, hi := 79228162514264337593543950335 }

/-- R369. TB_STEP: 12 bytes, signed, 2^-16 ns Default: none given. -/
def OD.TB_STEP : Entry := { idx := 0x6040, sub := 0x05, last := 0x05, typ := (.octets 12 true), acc := .wo, app := .imm, sel := .tb, lo := 0, hi := 79228162514264337593543950335 }

/-- R369. TB_RATE: 2^-40 (R363); read only in SERVO and INCREMENT Default: 0. -/
def OD.TB_RATE : Entry := { idx := 0x6040, sub := 0x06, last := 0x06, typ := .i32, acc := .rw, app := .imm, sel := .tb, lo := -2147483648, hi := 2147483647 }

/-- R369. TB_INCR: R367 Default: 0x0100_0000. -/
def OD.TB_INCR : Entry := { idx := 0x6040, sub := 0x07, last := 0x07, typ := .u32, acc := .rw, app := .imm, dflt := 16777216, sel := .tb, lo := 0, hi := 4294967295 }

/-- R369. TB_INC_ADJ: R367 Default: none given. -/
def OD.TB_INC_ADJ : Entry := { idx := 0x6040, sub := 0x08, last := 0x08, typ := .i32, acc := .wo, app := .imm, sel := .tb, lo := -2147483648, hi := 2147483647 }

/-- R369. SYNC_LOG2: Manager only, 4 to 14 Default: 10. -/
def OD.SYNC_LOG2 : Entry := { idx := 0x6040, sub := 0x09, last := 0x09, typ := .u8, acc := .rw, expert := true, app := .imm, dflt := 10, lo := 4, hi := 14 }

/-- R369. KP_SH: 0 to 15 Default: 1. -/
def OD.KP_SH : Entry := { idx := 0x6040, sub := 0x0A, last := 0x0A, typ := .u8, acc := .rw, expert := true, app := .imm, dflt := 1, lo := 0, hi := 15 }

/-- R369. KI_SH: 0 to 31 Default: 4. -/
def OD.KI_SH : Entry := { idx := 0x6040, sub := 0x0B, last := 0x0B, typ := .u8, acc := .rw, expert := true, app := .imm, dflt := 4, lo := 0, hi := 31 }

/-- R369. STEP_NS: Step threshold in ns Default: 1,000. -/
def OD.STEP_NS : Entry := { idx := 0x6040, sub := 0x0C, last := 0x0C, typ := .u32, acc := .rw, expert := true, app := .imm, dflt := 1000, lo := 0, hi := 4294967295 }

/-- R369. RATE_LIMIT: 500 ppm, in 2^-40; at most 2^31 − 1 Default: 549,755,814. -/
def OD.RATE_LIMIT : Entry := { idx := 0x6040, sub := 0x0D, last := 0x0D, typ := .u32, acc := .rw, expert := true, app := .imm, dflt := 549755814, lo := 0, hi := 2147483647 }

/-- R369. SERVO_OFFSET: Last θ, 2^-16 ns Default: 0. -/
def OD.SERVO_OFFSET : Entry := { idx := 0x6040, sub := 0x0E, last := 0x0E, typ := .i64 }

/-- R369. SERVO_STATE: 0 off, 1 locked, 2 holdover, 3 stepping Default: 0. -/
def OD.SERVO_STATE : Entry := { idx := 0x6040, sub := 0x0F, last := 0x0F, typ := .u8 }

/-- R369. WIN_TIME: TB0 at the first tick of the current audit window Default: 0. -/
def OD.WIN_TIME : Entry := { idx := 0x6040, sub := 0x10, last := 0x10, typ := .time96 }

/-- R369. DRONE: Drone count Default: 0. -/
def OD.DRONE : Entry := { idx := 0x6050, sub := 0x01, last := 0x01, typ := .u64 }

/-- R369. CYCLE64: Reference cycles Default: 0. -/
def OD.CYCLE64 : Entry := { idx := 0x6050, sub := 0x02, last := 0x02, typ := .u64, expert := true }

/-- R369. DRONE_ERR: Alignment error, 2^-8 cycle Default: 0. -/
def OD.DRONE_ERR : Entry := { idx := 0x6050, sub := 0x03, last := 0x03, typ := .i32 }

/-- R369. DRONE_TOL: Cycles Default: 2. -/
def OD.DRONE_TOL : Entry := { idx := 0x6050, sub := 0x04, last := 0x04, typ := .u16, acc := .rw, app := .imm, dflt := 2, lo := 0, hi := 65535 }

/-- R369. ALIGN_STATUS: [0] aligned; [1] skew raised; [2] TICKDIV differs from manager; [31:3] reserved Default: 0. -/
def OD.ALIGN_STATUS : Entry := { idx := 0x6050, sub := 0x05, last := 0x05, typ := (.bits 4) }

/-- R369. FW_IMG_OFS: Manager firmware store write offset Default: 0. -/
def OD.FW_IMG_OFS : Entry := { idx := 0x6060, sub := 0x01, last := 0x01, typ := .u32, acc := .rw, expert := true, app := .imm, lo := 0, hi := 4294967295 }

/-- R369. FW_IMG_DATA: Up to 1,024 bytes at FW_IMG_OFS, which then advances Default: none given. -/
def OD.FW_IMG_DATA : Entry := { idx := 0x6060, sub := 0x02, last := 0x02, typ := (.octets 1000 false), acc := .wo, expert := true, app := .imm }

/-- R369. FW_IMG_SIZE: Image bytes; 0 = no image offered Default: 0. -/
def OD.FW_IMG_SIZE : Entry := { idx := 0x6060, sub := 0x03, last := 0x03, typ := .u32, acc := .rw, expert := true, app := .imm, lo := 0, hi := 4294967295 }

/-- R463. CORE_MHZ: Core clock (R434) Default: 400. -/
def OD.CORE_MHZ : Entry := { idx := 0x7000, sub := 0x01, last := 0x01, typ := .u16, acc := .rw, app := .damp, dflt := 400, lo := 300, hi := 600 }

/-- R463. CORE_MHZ_RUN: Core clock in force Default: 400. -/
def OD.CORE_MHZ_RUN : Entry := { idx := 0x7000, sub := 0x02, last := 0x02, typ := .u16, dflt := 400 }

/-- R463. CLKMON_SEL: R438 Default: 0. -/
def OD.CLKMON_SEL : Entry := { idx := 0x7000, sub := 0x03, last := 0x03, typ := .u8, acc := .rw, expert := true, app := .imm, lo := 0, hi := 255 }

/-- R463. CLKMON_DIV: 1 to 4,096 Default: 1. -/
def OD.CLKMON_DIV : Entry := { idx := 0x7000, sub := 0x04, last := 0x04, typ := .u16, acc := .rw, expert := true, app := .imm, dflt := 1, lo := 1, hi := 4096 }

/-- R463. PLL_LOCK: [3:0] core PLL D0–D3; [4] hub core PLL; [5] hub PLL; [6] HBM; [7] time; [8] Girder; [9] PCIe; [31:10] reserved Default: 0. -/
def OD.PLL_LOCK : Entry := { idx := 0x7000, sub := 0x05, last := 0x05, typ := (.bits 4) }

/-- R463. DEAD_CLOCK_CNT: Forced switches (R436); saturating Default: 0. -/
def OD.DEAD_CLOCK_CNT : Entry := { idx := 0x7000, sub := 0x06, last := 0x06, typ := .u32 }

/-- R463. GATE_REFUSED_CNT: R440; saturating Default: 0. -/
def OD.GATE_REFUSED_CNT : Entry := { idx := 0x7000, sub := 0x07, last := 0x07, typ := .u32, expert := true }

/-- R463. PCAP: Power cap in W (R456) Default: 90. -/
def OD.PCAP : Entry := { idx := 0x7010, sub := 0x01, last := 0x01, typ := .u16, acc := .rw, app := .tick, dflt := 90, lo := 0, hi := 65535 }

/-- R463. CAP_WIN: Intervals, 16 to 4,096 Default: 256. -/
def OD.CAP_WIN : Entry := { idx := 0x7010, sub := 0x02, last := 0x02, typ := .u16, acc := .rw, expert := true, app := .tick, dflt := 256, lo := 16, hi := 4096 }

/-- R463. PWR_EST: P_est of the last interval, mW Default: 0. -/
def OD.PWR_EST : Entry := { idx := 0x7010, sub := 0x03, last := 0x03, typ := .u32 }

/-- R463. PWR_AVG: P_avg, mW Default: 0. -/
def OD.PWR_AVG : Entry := { idx := 0x7010, sub := 0x04, last := 0x04, typ := .u32 }

/-- R463. ENERGY_UJ: R444 Default: 0. -/
def OD.ENERGY_UJ : Entry := { idx := 0x7010, sub := 0x05, last := 0x05, typ := .u64 }

/-- R463. THROTTLE_LVL: Level in force, 0 to 17 (R457) Default: 0. -/
def OD.THROTTLE_LVL : Entry := { idx := 0x7010, sub := 0x06, last := 0x06, typ := .u8 }

/-- R463. CAP_UNMET_CNT: R458; saturating Default: 0. -/
def OD.CAP_UNMET_CNT : Entry := { idx := 0x7010, sub := 0x07, last := 0x07, typ := .u32 }

/-- R463. FLAT_LOAD: [2d+1:2d] mode of die d (R455); code 3 refused Default: 0. -/
def OD.FLAT_LOAD : Entry := { idx := 0x7010, sub := 0x08, last := 0x08, typ := (.bits 1), acc := .rw, app := .damp, lo := 0, hi := 255, mask := 0xFF }

/-- R463. DOMAIN_ON: 10 bytes: bit i = domain i on (R442) Default: none given. -/
def OD.DOMAIN_ON : Entry := { idx := 0x7010, sub := 0x09, last := 0x09, typ := (.octets 10 true), expert := true }

/-- R463. LOAD_HINT: [3:0] die mask; [15:4] reserved; [63:16] Drone count [47:0] of the heavy phase (R449) Default: none given. -/
def OD.LOAD_HINT : Entry := { idx := 0x7010, sub := 0x0A, last := 0x0A, typ := (.bits 8), acc := .wo, expert := true, app := .imm, lo := 0, hi := 18446744073709551615, mask := 0xFFFFFFFFFFFF000F }

/-- R463. HINT_MV: Boost in mV, 0 to 50 Default: 20. -/
def OD.HINT_MV : Entry := { idx := 0x7010, sub := 0x0B, last := 0x0B, typ := .u8, acc := .rw, expert := true, app := .imm, dflt := 20, lo := 0, hi := 50 }

/-- R463. HINT_LEAD: Cycles, 2,048 to 65,536 Default: 8,192. -/
def OD.HINT_LEAD : Entry := { idx := 0x7010, sub := 0x0C, last := 0x0C, typ := .u32, acc := .rw, expert := true, app := .imm, dflt := 8192, lo := 2048, hi := 65536 }

/-- R463. FREQ_DEFER: R453; saturating Default: 0. -/
def OD.FREQ_DEFER : Entry := { idx := 0x7010, sub := 0x0D, last := 0x0D, typ := .u32, expert := true }

/-- R463. FREQ_ABANDON: R453; saturating Default: 0. -/
def OD.FREQ_ABANDON : Entry := { idx := 0x7010, sub := 0x0E, last := 0x0E, typ := .u32 }

/-- R463. VDD_SET: Setpoint of die (sub − 1), mV Default: none given. -/
def OD.VDD_SET : Entry := { idx := 0x7020, sub := 0x01, last := 0x04, typ := .u16, dflt := 750, sel := .array }

/-- R463. VDD_READ: Rail voltage read over AVSBus, mV Default: none given. -/
def OD.VDD_READ : Entry := { idx := 0x7020, sub := 0x05, last := 0x08, typ := .u16, sel := .array }

/-- R463. IDD_READ: Rail current read over AVSBus, 0.1 A Default: none given. -/
def OD.IDD_READ : Entry := { idx := 0x7020, sub := 0x09, last := 0x0C, typ := .u16, sel := .array }

/-- R463. STRETCH_EPISODES: Stretch episodes of die (sub − 0x0D) Default: 0. -/
def OD.STRETCH_EPISODES : Entry := { idx := 0x7020, sub := 0x0D, last := 0x10, typ := .u64, expert := true, sel := .array }

/-- R463. STRETCH_CYC: Reference cycles stretched, die (sub − 0x11) Default: 0. -/
def OD.STRETCH_CYC : Entry := { idx := 0x7020, sub := 0x11, last := 0x14, typ := .u64, expert := true, sel := .array }

/-- R463. DROOP_THR: mV below setpoint, 20 to 80 in steps of 5 Default: 40. -/
def OD.DROOP_THR : Entry := { idx := 0x7020, sub := 0x15, last := 0x15, typ := .u8, acc := .rw, expert := true, app := .imm, dflt := 40, lo := 20, hi := 80 }

/-- R463. MARGIN_PS: Margin target in ps, 10 to 100 Default: 30. -/
def OD.MARGIN_PS : Entry := { idx := 0x7020, sub := 0x16, last := 0x16, typ := .u8, acc := .rw, expert := true, app := .imm, dflt := 30, lo := 10, hi := 100 }

/-- R463. AVS_SETTLE: µs, 1 to 1,000 Default: 10. -/
def OD.AVS_SETTLE : Entry := { idx := 0x7020, sub := 0x17, last := 0x17, typ := .u16, acc := .rw, expert := true, app := .imm, dflt := 10, lo := 1, hi := 1000 }

/-- R463. THERM_THR: °C, 95 to 110 (R460) Default: 105. -/
def OD.THERM_THR : Entry := { idx := 0x7030, sub := 0x01, last := 0x01, typ := .u8, acc := .rw, app := .tick, dflt := 105, lo := 95, hi := 110 }

/-- R463. TJ_DIE: Hottest sensor of die (sub − 2), 0.25 °C Default: none given. -/
def OD.TJ_DIE : Entry := { idx := 0x7030, sub := 0x02, last := 0x05, typ := .i32, sel := .array }

/-- R463. TJ_HUB: Hottest hub sensor, 0.25 °C Default: none given. -/
def OD.TJ_HUB : Entry := { idx := 0x7030, sub := 0x06, last := 0x06, typ := .i32 }

/-- R463. TJ_MAX_SEEN: Highest reading since power-up, 0.25 °C Default: none given. -/
def OD.TJ_MAX_SEEN : Entry := { idx := 0x7030, sub := 0x07, last := 0x07, typ := .i32, dflt := 2147483648 }

/-- R463. THERM_STATE: 0 normal, 1 throttling, 2 tripped Default: 0. -/
def OD.THERM_STATE : Entry := { idx := 0x7030, sub := 0x08, last := 0x08, typ := .u8 }

/-- R463. PWR_CNT_CLEAR: Writing 1 clears 7000.06, 7000.07, 7010.07, 7010.0D, 7010.0E and 7020.0D to 7020.14 Default: none given. -/
def OD.PWR_CNT_CLEAR : Entry := { idx := 0x7030, sub := 0x09, last := 0x09, typ := .bool, acc := .wo, app := .imm, lo := 0, hi := 1 }

/-- R488. ERR_PKG_PRIMARY: 32 bytes: package primary record (R469); zero when clear Default: 0. -/
def OD.ERR_PKG_PRIMARY : Entry := { idx := 0x8000, sub := 0x01, last := 0x01, typ := (.octets 32 true) }

/-- R488. ERR_PKG_SECONDARY: Package secondary counter; saturating Default: 0. -/
def OD.ERR_PKG_SECONDARY : Entry := { idx := 0x8000, sub := 0x02, last := 0x02, typ := .u32 }

/-- R488. ERR_PENDING: 33 bytes: bit c = physical cluster c (column + 8 × row + 64 × die) holds an uncleared primary in its unit or one of its cores; bits 256–259 dies; bit 260 package Default: 0. -/
def OD.ERR_PENDING : Entry := { idx := 0x8000, sub := 0x03, last := 0x03, typ := (.octets 33 true) }

/-- R488. ERR_CLEAR: Unit identifier, 0xFFFF = all (R472) Default: none given. -/
def OD.ERR_CLEAR : Entry := { idx := 0x8000, sub := 0x04, last := 0x04, typ := .u16, acc := .wo, app := .imm, lo := 0, hi := 65535 }

/-- R488. ERR_AUTOCLEAR: 0 = off, or 16 to 31 Default: 24. -/
def OD.ERR_AUTOCLEAR : Entry := { idx := 0x8000, sub := 0x05, last := 0x05, typ := .u8, acc := .rw, expert := true, app := .imm, dflt := 24, lo := 0, hi := 255 }

/-- R488. SAFE_STATE: [0] SAFE; [15:1] reserved; [31:16] code of the FATAL error that entered SAFE Default: 0. -/
def OD.SAFE_STATE : Entry := { idx := 0x8000, sub := 0x06, last := 0x06, typ := (.bits 4) }

/-- R488. ERRLOG_SEQ: LOGSEQ of the next entry Default: 0. -/
def OD.ERRLOG_SEQ : Entry := { idx := 0x8001, sub := 0x01, last := 0x01, typ := .u32 }

/-- R488. ERRLOG_OVR: R473; saturating Default: 0. -/
def OD.ERRLOG_OVR : Entry := { idx := 0x8001, sub := 0x02, last := 0x02, typ := .u32 }

/-- R488. ERRLOG_IDX: LOGSEQ of the first entry read Default: 0. -/
def OD.ERRLOG_IDX : Entry := { idx := 0x8001, sub := 0x03, last := 0x03, typ := .u32, acc := .rw, app := .imm, lo := 0, hi := 4294967295, selector := true }

/-- R488. ERRLOG_READ: Up to 31 entries of 32 bytes from ERRLOG_IDX Default: none given. -/
def OD.ERRLOG_READ : Entry := { idx := 0x8001, sub := 0x04, last := 0x04, typ := (.octets 992 false) }

/-- R488. PLUCK_SRC_EN: R483; [7:5] reserved Default: 0x04. -/
def OD.PLUCK_SRC_EN : Entry := { idx := 0x8010, sub := 0x01, last := 0x01, typ := (.bits 1), acc := .rw, app := .tick, dflt := 4, lo := 0, hi := 255, mask := 0x1F }

/-- R488. PLUCK_STREAM: Stream 0 to 63 Default: 0. -/
def OD.PLUCK_STREAM : Entry := { idx := 0x8010, sub := 0x02, last := 0x02, typ := .u8, acc := .rw, app := .tick, lo := 0, hi := 63 }

/-- R488. PLUCK_MASK: Accept bits Default: 0. -/
def OD.PLUCK_MASK : Entry := { idx := 0x8010, sub := 0x03, last := 0x03, typ := .u8, acc := .rw, app := .tick, lo := 0, hi := 255 }

/-- R488. PLUCK_AT: Drone count Default: 0. -/
def OD.PLUCK_AT : Entry := { idx := 0x8010, sub := 0x04, last := 0x04, typ := .u64, acc := .rw, app := .tick, lo := 0, hi := 18446744073709551615 }

/-- R488. PLUCK_ERR_SEV: 0 to 3 Default: 2. -/
def OD.PLUCK_ERR_SEV : Entry := { idx := 0x8010, sub := 0x05, last := 0x05, typ := .u8, acc := .rw, app := .tick, dflt := 2, lo := 0, hi := 3 }

/-- R488. PLUCK_IN_EDGE: 0 rising, 1 falling Default: 0. -/
def OD.PLUCK_IN_EDGE : Entry := { idx := 0x8010, sub := 0x06, last := 0x06, typ := .u8, acc := .rw, expert := true, app := .tick, lo := 0, hi := 1 }

/-- R488. PLUCK_CMD: Writing 1 plucks at the commit tick Default: none given. -/
def OD.PLUCK_CMD : Entry := { idx := 0x8010, sub := 0x07, last := 0x07, typ := .bool, acc := .wo, app := .tick, lo := 0, hi := 1 }

/-- R488. PLUCK_LOST: R485; saturating Default: 0. -/
def OD.PLUCK_LOST : Entry := { idx := 0x8010, sub := 0x08, last := 0x08, typ := .u32 }

/-- R488. SNAP_COUNT: R485 Default: 0. -/
def OD.SNAP_COUNT : Entry := { idx := 0x8020, sub := 0x01, last := 0x01, typ := .u32 }

/-- R488. SNAP_BANKS: [1:0] bank holds a snapshot; [3:2] bank copy complete; [31:4] reserved Default: 0. -/
def OD.SNAP_BANKS : Entry := { idx := 0x8020, sub := 0x02, last := 0x02, typ := (.bits 4) }

/-- R488. SNAP_BANK: Bank 0 or 1 read by 8020.05 Default: 0. -/
def OD.SNAP_BANK : Entry := { idx := 0x8020, sub := 0x03, last := 0x03, typ := .u8, acc := .rw, app := .imm, lo := 0, hi := 1, selector := true }

/-- R488. SNAP_OFS: Byte offset in the snapshot Default: 0. -/
def OD.SNAP_OFS : Entry := { idx := 0x8020, sub := 0x04, last := 0x04, typ := .u32, acc := .rw, app := .imm, lo := 0, hi := 4294967295, selector := true }

/-- R488. SNAP_DATA: Up to 1,000 bytes from SNAP_OFS Default: none given. -/
def OD.SNAP_DATA : Entry := { idx := 0x8020, sub := 0x05, last := 0x05, typ := (.octets 1000 false) }

/-- R488. SNAP_RELEASE: Bank to free Default: none given. -/
def OD.SNAP_RELEASE : Entry := { idx := 0x8020, sub := 0x06, last := 0x06, typ := .u8, acc := .wo, app := .imm, lo := 0, hi := 1 }

/-- R430. PRESENCE: [0] presence holds; [1] PRESENT_N low; [2] window open; [3] seal intact now; [4] seal break latched; [31:5] reserved Default: none given. -/
def OD.PRESENCE : Entry := { idx := 0x9000, sub := 0x01, last := 0x01, typ := (.bits 4) }

/-- R430. PRES_WINDOW: Seconds left in the window Default: 0. -/
def OD.PRES_WINDOW : Entry := { idx := 0x9000, sub := 0x02, last := 0x02, typ := .u16 }

/-- R430. PRES_CLOSE: Writing 1 closes the window Default: none given. -/
def OD.PRES_CLOSE : Entry := { idx := 0x9000, sub := 0x03, last := 0x03, typ := .bool, acc := .wo, app := .imm, lo := 0, hi := 1 }

/-- R430. SEAL_BREAKS: Breaks since power-up, counted as R422 states; saturating Default: 0. -/
def OD.SEAL_BREAKS : Entry := { idx := 0x9000, sub := 0x04, last := 0x04, typ := .u32 }

/-- R430. LIC_STATE: 0 none, 1 installed, 2 last install refused, 3 checking Default: 0. -/
def OD.LIC_STATE : Entry := { idx := 0x9010, sub := 0x01, last := 0x01, typ := .u8 }

/-- R430. LIC_OFS: Staging offset, 0 to 1,731 Default: 0. -/
def OD.LIC_OFS : Entry := { idx := 0x9010, sub := 0x02, last := 0x02, typ := .u16, acc := .rw, app := .imm, lo := 0, hi := 1731 }

/-- R430. LIC_DATA: 1 to 1,000 bytes at LIC_OFS, which then advances Default: none given. -/
def OD.LIC_DATA : Entry := { idx := 0x9010, sub := 0x03, last := 0x03, typ := (.octets 1000 false), acc := .wo, app := .imm }

/-- R430. LIC_CMD: 1 install, 2 remove, 3 discard staged bytes Default: none given. -/
def OD.LIC_CMD : Entry := { idx := 0x9010, sub := 0x04, last := 0x04, typ := .u8, acc := .wo, app := .imm, lo := 1, hi := 3 }

/-- R430. LIC_REFUSE: Code of R417 Default: 0. -/
def OD.LIC_REFUSE : Entry := { idx := 0x9010, sub := 0x05, last := 0x05, typ := .u8 }

/-- R430. LIC_FEATURES: FEATURES of the installed licence (R416) Default: 0. -/
def OD.LIC_FEATURES : Entry := { idx := 0x9010, sub := 0x06, last := 0x06, typ := (.bits 4) }

/-- R430. LIC_ENVELOPE: [15:0] CLK_MAX; [31:16] PCAP_MAX; [39:32] LANES_MAX; [63:40] reserved Default: base. -/
def OD.LIC_ENVELOPE : Entry := { idx := 0x9010, sub := 0x07, last := 0x07, typ := (.bits 8), dflt := 137444852112 }

/-- R430. LIC_ID: — Default: 0. -/
def OD.LIC_ID : Entry := { idx := 0x9010, sub := 0x08, last := 0x08, typ := .u32 }

/-- R430. ENV_IN_FORCE: Envelope of the running configuration, as 9010.07 (R418, R419) Default: base. -/
def OD.ENV_IN_FORCE : Entry := { idx := 0x9010, sub := 0x09, last := 0x09, typ := (.bits 8), dflt := 137444852112 }

/-- R430. KEY_REVOKE: [3:0] as the fuse field Default: fuse. -/
def OD.KEY_REVOKE : Entry := { idx := 0x9020, sub := 0x01, last := 0x01, typ := .u8 }

/-- R430. FW_SVN_FLOOR: Number of FW_SVN bits set Default: fuse. -/
def OD.FW_SVN_FLOOR : Entry := { idx := 0x9020, sub := 0x02, last := 0x02, typ := .u8 }

/-- R430. KEYHASH_SEL: Slot 0 to 3 Default: 0. -/
def OD.KEYHASH_SEL : Entry := { idx := 0x9020, sub := 0x03, last := 0x03, typ := .u8, acc := .rw, expert := true, app := .imm, lo := 0, hi := 3, selector := true }

/-- R430. KEYHASH: 32 bytes of the selected slot Default: fuse. -/
def OD.KEYHASH : Entry := { idx := 0x9020, sub := 0x04, last := 0x04, typ := (.octets 32 true), expert := true, sel := .keyhash }

/-- R430. OWNER: 32 bytes Default: fuse. -/
def OD.OWNER : Entry := { idx := 0x9020, sub := 0x05, last := 0x05, typ := (.octets 32 true) }

/-- R430. FUSE_FIELD: R428 Default: 0. -/
def OD.FUSE_FIELD : Entry := { idx := 0x9030, sub := 0x01, last := 0x01, typ := .u8, acc := .rw, expert := true, app := .imm, lo := 0, hi := 255 }

/-- R430. FUSE_VALUE: 32 bytes Default: 0. -/
def OD.FUSE_VALUE : Entry := { idx := 0x9030, sub := 0x02, last := 0x02, typ := (.octets 32 true), acc := .rw, expert := true, app := .imm }

/-- R430. FUSE_CMD: Writing 1 programs; reads 0 Default: 0. -/
def OD.FUSE_CMD : Entry := { idx := 0x9030, sub := 0x03, last := 0x03, typ := .u8, acc := .rwp, expert := true, app := .imm, lo := 0, hi := 1 }

/-- R430. FUSE_STATUS: 0 idle, 1 busy, 2 done, 3 failed, 4 refused Default: 0. -/
def OD.FUSE_STATUS : Entry := { idx := 0x9030, sub := 0x04, last := 0x04, typ := .u8, expert := true }

/-- R430. DEBUG_UNLOCK: 1 unlock; writing 0 needs no presence (R429) Default: 0. -/
def OD.DEBUG_UNLOCK : Entry := { idx := 0x9040, sub := 0x01, last := 0x01, typ := .bool, acc := .rwp, expert := true, app := .imm, lo := 0, hi := 1 }

/-- R430. DEBUG_STATE: [0] unlocked; [1] DEBUG_LOCK_PERM set; [2] session active; [31:3] reserved Default: 0. -/
def OD.DEBUG_STATE : Entry := { idx := 0x9040, sub := 0x02, last := 0x02, typ := (.bits 4) }

/-- R337. STRICT: R316 Default: 0. -/
def OD.STRICT : Entry := { idx := 0xA000, sub := 0x01, last := 0x01, typ := .bool, acc := .rw, app := .damp, lo := 0, hi := 1 }

/-- R337. SEAL_EN: R325; writing 1 needs no presence Default: 1. -/
def OD.SEAL_EN : Entry := { idx := 0xA000, sub := 0x02, last := 0x02, typ := .bool, acc := .rwp, expert := true, app := .tick, dflt := 1, lo := 0, hi := 1 }

/-- R337. CHAIN_PREV: 32 bytes (R324) Default: 0. -/
def OD.CHAIN_PREV : Entry := { idx := 0xA000, sub := 0x03, last := 0x03, typ := (.octets 32 true), acc := .rw, app := .load }

/-- R337. SEAL_LAST: [31:0] last seal value; [35:32] WIN; [37:36] WRAP; [38] PART Default: 0. -/
def OD.SEAL_LAST : Entry := { idx := 0xA000, sub := 0x04, last := 0x04, typ := (.octets 39 true) }

/-- R337. WIN_CUR: Current window (R319) Default: 0. -/
def OD.WIN_CUR : Entry := { idx := 0xA000, sub := 0x05, last := 0x05, typ := .u32 }

/-- R337. WRAP_CUR: Current wrap count Default: 0. -/
def OD.WRAP_CUR : Entry := { idx := 0xA000, sub := 0x06, last := 0x06, typ := .u16 }

/-- R337. SEAL_SEL: [31:0] WIN; [47:32] WRAP; [55:48] PART; [63:56] reserved Default: 0. -/
def OD.SEAL_SEL : Entry := { idx := 0xA010, sub := 0x01, last := 0x01, typ := (.bits 8), acc := .rw, app := .imm, lo := 0, hi := 18446744073709551615, mask := 0xFFFFFFFFFFFFFF, selector := true }

/-- R337. SEAL_BODY: 664 bytes: the first 632 bytes of R322, then the seal value Default: none given. -/
def OD.SEAL_BODY : Entry := { idx := 0xA010, sub := 0x02, last := 0x02, typ := (.octets 664 true) }

/-- R337. SEAL_EVT_IDX: Event entry read by A010.04 Default: 0. -/
def OD.SEAL_EVT_IDX : Entry := { idx := 0xA010, sub := 0x03, last := 0x03, typ := .u32, acc := .rw, app := .imm, lo := 0, hi := 4294967295, selector := true }

/-- R337. SEAL_EVT: 64 bytes (R323) Default: none given. -/
def OD.SEAL_EVT : Entry := { idx := 0xA010, sub := 0x04, last := 0x04, typ := (.octets 64 true) }

/-- R337. SEAL_LOG_OVR: Seals overwritten unread; saturating Default: 0. -/
def OD.SEAL_LOG_OVR : Entry := { idx := 0xA010, sub := 0x05, last := 0x05, typ := .u32 }

/-- R337. REC_CMD: 1 arm, 2 stop Default: none given. -/
def OD.REC_CMD : Entry := { idx := 0xA020, sub := 0x01, last := 0x01, typ := .u8, acc := .wo, app := .imm, lo := 1, hi := 2 }

/-- R337. REC_POLICY: 0 stop, 1 wrap Default: 0. -/
def OD.REC_POLICY : Entry := { idx := 0xA020, sub := 0x02, last := 0x02, typ := .u8, acc := .rw, app := .damp, lo := 0, hi := 1 }

/-- R337. REC_STATE: [2:0] 0 idle, 1 armed, 2 recording, 3 ended; [3] no anchor held; [7:4] END reason; [31:8] reserved Default: 0. -/
def OD.REC_STATE : Entry := { idx := 0xA020, sub := 0x03, last := 0x03, typ := (.bits 4) }

/-- R337. REC_BYTES: Bytes held Default: 0. -/
def OD.REC_BYTES : Entry := { idx := 0xA020, sub := 0x04, last := 0x04, typ := .u64 }

/-- R337. REC_FIRST: First tick held Default: 0. -/
def OD.REC_FIRST : Entry := { idx := 0xA020, sub := 0x05, last := 0x05, typ := .u64 }

/-- R337. REC_LAST: Last complete tick Default: 0. -/
def OD.REC_LAST : Entry := { idx := 0xA020, sub := 0x06, last := 0x06, typ := .u64 }

/-- R337. REC_ANCHOR: Region offset of the oldest anchor held Default: 0. -/
def OD.REC_ANCHOR : Entry := { idx := 0xA020, sub := 0x07, last := 0x07, typ := .u64 }

/-- R337. REC_WRAPS: Wraps of the region; saturating Default: 0. -/
def OD.REC_WRAPS : Entry := { idx := 0xA020, sub := 0x08, last := 0x08, typ := .u32, expert := true }

/-- R337. REPLAY_CMD: 1 start, 2 stop Default: none given. -/
def OD.REPLAY_CMD : Entry := { idx := 0xA030, sub := 0x01, last := 0x01, typ := .u8, acc := .wo, app := .imm, lo := 1, hi := 2 }

/-- R337. REPLAY_ANCHOR: Region offset of the ANCHOR entry Default: 0. -/
def OD.REPLAY_ANCHOR : Entry := { idx := 0xA030, sub := 0x02, last := 0x02, typ := .u64, acc := .rw, app := .imm, lo := 0, hi := 18446744073709551615 }

/-- R337. REPLAY_SLOT: 0 = A, 1 = B Default: 0. -/
def OD.REPLAY_SLOT : Entry := { idx := 0xA030, sub := 0x03, last := 0x03, typ := .u8, acc := .rw, app := .imm, lo := 0, hi := 1 }

/-- R337. REPLAY_END: Last replay tick; 0 = to END Default: 0. -/
def OD.REPLAY_END : Entry := { idx := 0xA030, sub := 0x04, last := 0x04, typ := .u64, acc := .rw, app := .imm, lo := 0, hi := 18446744073709551615 }

/-- R337. REPLAY_STATUS: 0 idle, 1 running, 2 done, 3–8 refused (R333), 9 stopped Default: 0. -/
def OD.REPLAY_STATUS : Entry := { idx := 0xA030, sub := 0x05, last := 0x05, typ := .u8 }

/-- R337. REPLAY_TICK: Replay count of the last admitted tick Default: 0. -/
def OD.REPLAY_TICK : Entry := { idx := 0xA030, sub := 0x06, last := 0x06, typ := .u64 }

/-- R337. REPLAY_MISMATCH: [31:0] WIN; [47:32] WRAP; [55:48] PART; [56] valid; [63:57] reserved Default: 0. -/
def OD.REPLAY_MISMATCH : Entry := { idx := 0xA030, sub := 0x07, last := 0x07, typ := (.bits 8) }

/-- R337. REPLAY_UE: R335; saturating Default: 0. -/
def OD.REPLAY_UE : Entry := { idx := 0xA030, sub := 0x08, last := 0x08, typ := .u32 }

/-! The whole dictionary, by index. -/

def OD.g1000 : List Entry :=
  [OD.VENDOR, OD.PART, OD.GRADE, OD.SERIAL, OD.STEPPING, OD.LAT_CLASS]

def OD.g1001 : List Entry :=
  [OD.EXPERT_EN, OD.TXN_PENDING, OD.TXN_COMMITTED, OD.TXN_REFUSED, OD.TXN_FAILED_CNT, OD.LAST_TXN_FAIL,
   OD.MB_OVERRUNS, OD.PCIE_LINK, OD.PCIE_AER_CE, OD.PCIE_AER_UE, OD.BAR2_DENY, OD.BAR2_POISON,
   OD.EVT_LOST_TOTAL, OD.HOST_CNT_CLEAR]

def OD.g1002 : List Entry :=
  [OD.VEC_MAP]

def OD.g1010 : List Entry :=
  [OD.BRINGUP, OD.FW_KEY_SLOT, OD.FW_SVN_RUN, OD.FUSED_BAD_CORES, OD.FIELD_DEFECTS, OD.SPARES_FREE,
   OD.DEGRADED_COUNT, OD.ROW_REPAIRS, OD.LANES_FUSED_BAD, OD.LANES_FIELD_BAD, OD.BOOT_MS]

def OD.g2010 : List Entry :=
  [OD.TICKDIV, OD.TICKDIV_MIN, OD.TICK_RATE, OD.TICKIN_EN, OD.TICKIN_EDGE, OD.TICKIN_OFFSET,
   OD.TICKIN_TOL, OD.TICKIN_PHASE, OD.TICKIN_STATUS]

def OD.g2011 : List Entry :=
  [OD.LAT_A, OD.LAT_P, OD.LAT_PCRIT, OD.LAT_SLACK, OD.LAT_E_TRIG, OD.LAT_CLASS_IMG,
   OD.LATE_TOTAL, OD.SUBST_TOTAL, OD.LATE_DROP_TOTAL, OD.MAX_LAG_D0, OD.MAX_LAG_D1, OD.MAX_LAG_D2,
   OD.MAX_LAG_D3, OD.MON_CLEAR]

def OD.g2012 : List Entry :=
  [OD.LATE_COUNT]

def OD.g2013 : List Entry :=
  [OD.MIN_MARGIN]

def OD.g2020 : List Entry :=
  [OD.CORE_SEL, OD.CORE_STATE, OD.CORE_CE, OD.CORE_STEER_MM, OD.CORE_STALE, OD.CORE_ACC_SAT,
   OD.CORE_VOID_OUT, OD.CORE_LINK_CE]

def OD.g2021 : List Entry :=
  [OD.STEER_MISMATCH_TOTAL, OD.STALE_TOKEN_TOTAL, OD.TOKEN_FORMAT_TOTAL, OD.CORE_CE_TOTAL, OD.CORE_UE_TOTAL, OD.LINK_UE_TOTAL,
   OD.ACC_SAT_TOTAL, OD.CORE_CNT_CLEAR]

def OD.g2030 : List Entry :=
  [OD.SAT_WIN, OD.LAYER_SEL, OD.LAYER_THRESH, OD.LAYER_SAT_WIN, OD.LAYER_SAT_TOTAL, OD.DRIFT_TOTAL,
   OD.DRIFT_LAST, OD.LAYER_COUNT, OD.SAT_CLEAR, OD.SCALE_SKEW_TOTAL]

def OD.g2040 : List Entry :=
  [OD.DIS_ROWS, OD.PORTABLE, OD.PLACE_MASK, OD.DEGRADED_MASK, OD.ROLE_MASK, OD.PCID_OF_SEL,
   OD.CLUSTER_SEL, OD.CLUSTER_STATE, OD.DECK_CE, OD.DECK_UE, OD.FENCED_DROP]

def OD.g2041 : List Entry :=
  [OD.VIA_CE, OD.VIA_UE, OD.VIA_FAST_LANES, OD.TRUSS_UE_TOTAL, OD.FABRIC_CNT_CLEAR]

def OD.g2050 : List Entry :=
  [OD.SLOT_CMD, OD.SLOT_CMD_SLOT, OD.OPEN_SEQ, OD.COMMIT_SIZE, OD.EXPECT_PROG, OD.EXPECT_WEIGHT,
   OD.LAST_SEQ, OD.QD_CLASS, OD.SLOT_WRITE_DROP]

def OD.g2051 : List Entry :=
  [OD.A_STATE, OD.A_SEQ, OD.A_SIZE, OD.A_PROG_DIGEST, OD.A_WEIGHT_DIGEST, OD.A_REFUSE_CODE,
   OD.A_REFUSE_DETAIL, OD.A_DECL, OD.A_LOAD_CYC]

def OD.g2052 : List Entry :=
  [OD.B_STATE, OD.B_SEQ, OD.B_SIZE, OD.B_PROG_DIGEST, OD.B_WEIGHT_DIGEST, OD.B_REFUSE_CODE,
   OD.B_REFUSE_DETAIL, OD.B_DECL, OD.B_LOAD_CYC]

def OD.g2053 : List Entry :=
  [OD.ACT_SLOT, OD.ACT_MODE, OD.ACT_AT, OD.ACT_RESUME_AT, OD.ACT_CMD, OD.ACT_STATUS,
   OD.ACTIVE_SLOT, OD.EPOCH, OD.DAMP_STATE, OD.PAUSE_AT, OD.RESUME_LAST, OD.DAMP_LIMIT,
   OD.RAMP_STEP, OD.DEEP_DAMP_DISCARD, OD.HARD_COUNT]

def OD.g2054 : List Entry :=
  [OD.DAMP_DROP]

def OD.g3000 : List Entry :=
  [OD.LANES_ENABLED, OD.LQ_SEL, OD.LANE_SEL, OD.STREAM_SEL, OD.LANE_CNT_CLEAR]

def OD.g3010 : List Entry :=
  [OD.RX_CODING, OD.RX_RATE, OD.TX_CODING, OD.TX_RATE, OD.TX_LOCK, OD.RX_FEC,
   OD.TX_FEC, OD.PRECODE, OD.LQ_STATUS]

def OD.g3020 : List Entry :=
  [OD.LANE_EN, OD.RX_STATE, OD.TX_STATE, OD.TX_EQ, OD.RX_EQ_MODE, OD.RX_CTLE,
   OD.RX_DFE, OD.TX_KIND, OD.TX_DEC_MAP, OD.LAT_E_TX, OD.LAT_E_STEP, OD.CODE_ERR,
   OD.LANE_CRC_ERR, OD.FEC_CORR, OD.FEC_UNCORR, OD.LOCK_LOSS, OD.FILL_DEL, OD.FILL_INS,
   OD.LANE_SUBST, OD.TX_DISCARD, OD.DEEP_TX_DROP]

def OD.g3022 : List Entry :=
  [OD.PRBS_TX, OD.PRBS_RX, OD.PRBS_LOCK, OD.PRBS_ERR, OD.PRBS_BITS, OD.INJ_MODE,
   OD.INJ_PERIOD, OD.INJ_FIRE]

def OD.g3030 : List Entry :=
  [OD.ST_FIRST_LANE, OD.ST_NLANES, OD.ST_NCH, OD.ST_WIDTH, OD.ST_SIGNED, OD.ST_HDR_BYTES,
   OD.ST_CRC, OD.ALIGN_MODE, OD.SEQ_OFS, OD.LEARN_MARGIN, OD.LB_BYTES, OD.FRAMES_OK,
   OD.FRAMES_VOID, OD.VOID_LANE, OD.VOID_CHECK, OD.FRAME_LATE, OD.FRAME_EARLY, OD.FRAME_DUP]

def OD.g3060 : List Entry :=
  [OD.IQ_SEL, OD.IQ_OFS, OD.IQ_MULT, OD.IQ_SHIFT, OD.IQ_MODE, OD.IQ_LO,
   OD.IQ_HI]

def OD.g3061 : List Entry :=
  [OD.IQ_SAT]

def OD.g4000 : List Entry :=
  [OD.TRG_STREAM_SEL, OD.TRG_CH_SEL, OD.TRG_ITEM_SEL, OD.TRG_CNT_CLEAR]

def OD.g4010 : List Entry :=
  [OD.TF_KIND, OD.TF_POL, OD.TF_THR_A, OD.TF_THR_B, OD.TF_HYST, OD.TF_QUAL,
   OD.TF_T1, OD.TF_T2, OD.TF_FIRES]

def OD.g4011 : List Entry :=
  [OD.HF_POS, OD.HF_MODE, OD.HF_MASK, OD.HF_VAL, OD.HF_HI, OD.HF_LAST]

def OD.g4012 : List Entry :=
  [OD.TL_ACC_SRC, OD.TL_THR, OD.TL_THR_MODE, OD.FS_ACCEPT, OD.FS_SCORE, OD.CAPT_TRIG_MASK]

def OD.g4013 : List Entry :=
  [OD.TERM_P, OD.TERM_N, OD.TERM_OUT]

def OD.g4014 : List Entry :=
  [OD.TRIG_CNT, OD.TRIG_IGNORED, OD.SEG_DONE, OD.CAPT_OVF, OD.MASK_FAILS, OD.SEG_DISCARD]

def OD.g4020 : List Entry :=
  [OD.AVG_K, OD.CAPT_SRC, OD.SEG_COUNT, OD.CAPT_PRE, OD.CAPT_POST, OD.CAPT_POST_EFF,
   OD.CAPT_MODE, OD.CAPT_AUTOARM, OD.OVF_REARM, OD.CAPT_CMD, OD.CAPT_FREE_TO, OD.CAPT_STATE,
   OD.SEG_NEXT, OD.RING_BASE, OD.SEG_STRIDE, OD.RO_LANE, OD.RO_GATE, OD.RO_GATE_DS,
   OD.RO_DEFAULT, OD.MASK_TAB, OD.MASK_CH, OD.MASK_DECIM, OD.MASK_ACT]

def OD.g4030 : List Entry :=
  [OD.MASK_TAB_SEL, OD.MASK_NPTS, OD.MASK_IDX, OD.MASK_LO, OD.MASK_HI, OD.RO_CHUNK]

def OD.g4040 : List Entry :=
  [OD.PIN_SEL, OD.PIN_STREAMS, OD.PIN_CFG]

def OD.g5000 : List Entry :=
  [OD.HBM_SIZE, OD.CAPT_GIB, OD.REPLAY_GIB, OD.SCRATCH_GIB, OD.MAP_BASES, OD.HBM_CE,
   OD.HBM_UE, OD.HBM_TEMP, OD.HBM_REISSUE]

def OD.g5010 : List Entry :=
  [OD.DSLOT_LOG, OD.DSLOT_CYC, OD.DSLOT_COUNT, OD.DSLOT_SKIP, OD.DEEP_OVERRUN_CNT, OD.REF_SPACING,
   OD.REF_LEN, OD.CAND_BUDGET, OD.DELIVER_OFS, OD.QUAD_FREQ]

def OD.g5020 : List Entry :=
  [OD.DSTREAM_SEL, OD.HIST_LEN, OD.VALID_FROM, OD.HIST_WRITTEN, OD.HANDOFF_OVR, OD.CAND_LOST,
   OD.CAND_DROP, OD.CAND_SPILL, OD.SPILL_VOID, OD.RECALL_CNT, OD.HIST_STALE, OD.DEEP_LAT_MAX]

def OD.g5030 : List Entry :=
  [OD.HIST_CLEAR, OD.DEEP_CNT_CLEAR]

def OD.g5100 : List Entry :=
  [OD.ADAPT_ENABLE, OD.ADAPT_GROUPS, OD.ADAPT_SEL, OD.CAL_EN, OD.CAL_FIELD, OD.CAL_KEY]

def OD.g5101 : List Entry :=
  [OD.GRP_STATE, OD.GRP_PERIOD, OD.GRP_SWAPS, OD.ROLLBACK_COUNT, OD.LAST_ROLLBACK, OD.GRP_SEED,
   OD.ENV_STEP, OD.ENV_DRIFT, OD.ENV_MODE, OD.SAT_ROLL_THRESH, OD.LABELS_USED, OD.LABEL_LATE,
   OD.LABEL_SKIP, OD.LABEL_EXCESS, OD.ENV_CLIPS, OD.ADAPT_LATE, OD.ADAPT_DISCARD, OD.LAST_CRC,
   OD.ROLLBACK_CMD, OD.ADAPT_CNT_CLEAR]

def OD.g6000 : List Entry :=
  [OD.ROLE, OD.ROLE_OVERRIDE, OD.GIRDER_STATE, OD.NODE_ADDR, OD.DOMAIN_ID, OD.JOIN_EN,
   OD.AUTO_JOIN, OD.JOIN_CMD, OD.LEAVE_CMD, OD.REF_SRC, OD.REF_FALLBACK, OD.DEPTH,
   OD.PARENT_ADDR, OD.ADDR_HOLD, OD.ROLE_STATUS]

def OD.g6010 : List Entry :=
  [OD.PORT_SEL, OD.PORT_STATE]

def OD.g6011 : List Entry :=
  [OD.PORT_CRC_ERR, OD.RESENDS, OD.LINK_DOWNS, OD.LINK_DELAY, OD.TS_ASYM, OD.DELAY_REJECT,
   OD.BAD_FRAME]

def OD.g6020 : List Entry :=
  [OD.ROSTER_GEN, OD.ROSTER_COUNT, OD.ROSTER_SEL, OD.ROSTER_ENTRY]

def OD.g6030 : List Entry :=
  [OD.LAUNCH_COUNT, OD.LAUNCH_TARGETS, OD.LAUNCH_KIND, OD.LAUNCH_ARGS, OD.LAUNCH_CMD, OD.LAUNCH_ACKED,
   OD.LAUNCH_REFUSED]

def OD.g6040 : List Entry :=
  [OD.TCOUNT, OD.TB_SEL, OD.TB_MODE, OD.TB_TIME, OD.TB_STEP, OD.TB_RATE,
   OD.TB_INCR, OD.TB_INC_ADJ, OD.SYNC_LOG2, OD.KP_SH, OD.KI_SH, OD.STEP_NS,
   OD.RATE_LIMIT, OD.SERVO_OFFSET, OD.SERVO_STATE, OD.WIN_TIME]

def OD.g6050 : List Entry :=
  [OD.DRONE, OD.CYCLE64, OD.DRONE_ERR, OD.DRONE_TOL, OD.ALIGN_STATUS]

def OD.g6060 : List Entry :=
  [OD.FW_IMG_OFS, OD.FW_IMG_DATA, OD.FW_IMG_SIZE]

def OD.g7000 : List Entry :=
  [OD.CORE_MHZ, OD.CORE_MHZ_RUN, OD.CLKMON_SEL, OD.CLKMON_DIV, OD.PLL_LOCK, OD.DEAD_CLOCK_CNT,
   OD.GATE_REFUSED_CNT]

def OD.g7010 : List Entry :=
  [OD.PCAP, OD.CAP_WIN, OD.PWR_EST, OD.PWR_AVG, OD.ENERGY_UJ, OD.THROTTLE_LVL,
   OD.CAP_UNMET_CNT, OD.FLAT_LOAD, OD.DOMAIN_ON, OD.LOAD_HINT, OD.HINT_MV, OD.HINT_LEAD,
   OD.FREQ_DEFER, OD.FREQ_ABANDON]

def OD.g7020 : List Entry :=
  [OD.VDD_SET, OD.VDD_READ, OD.IDD_READ, OD.STRETCH_EPISODES, OD.STRETCH_CYC, OD.DROOP_THR,
   OD.MARGIN_PS, OD.AVS_SETTLE]

def OD.g7030 : List Entry :=
  [OD.THERM_THR, OD.TJ_DIE, OD.TJ_HUB, OD.TJ_MAX_SEEN, OD.THERM_STATE, OD.PWR_CNT_CLEAR]

def OD.g8000 : List Entry :=
  [OD.ERR_PKG_PRIMARY, OD.ERR_PKG_SECONDARY, OD.ERR_PENDING, OD.ERR_CLEAR, OD.ERR_AUTOCLEAR, OD.SAFE_STATE]

def OD.g8001 : List Entry :=
  [OD.ERRLOG_SEQ, OD.ERRLOG_OVR, OD.ERRLOG_IDX, OD.ERRLOG_READ]

def OD.g8010 : List Entry :=
  [OD.PLUCK_SRC_EN, OD.PLUCK_STREAM, OD.PLUCK_MASK, OD.PLUCK_AT, OD.PLUCK_ERR_SEV, OD.PLUCK_IN_EDGE,
   OD.PLUCK_CMD, OD.PLUCK_LOST]

def OD.g8020 : List Entry :=
  [OD.SNAP_COUNT, OD.SNAP_BANKS, OD.SNAP_BANK, OD.SNAP_OFS, OD.SNAP_DATA, OD.SNAP_RELEASE]

def OD.g9000 : List Entry :=
  [OD.PRESENCE, OD.PRES_WINDOW, OD.PRES_CLOSE, OD.SEAL_BREAKS]

def OD.g9010 : List Entry :=
  [OD.LIC_STATE, OD.LIC_OFS, OD.LIC_DATA, OD.LIC_CMD, OD.LIC_REFUSE, OD.LIC_FEATURES,
   OD.LIC_ENVELOPE, OD.LIC_ID, OD.ENV_IN_FORCE]

def OD.g9020 : List Entry :=
  [OD.KEY_REVOKE, OD.FW_SVN_FLOOR, OD.KEYHASH_SEL, OD.KEYHASH, OD.OWNER]

def OD.g9030 : List Entry :=
  [OD.FUSE_FIELD, OD.FUSE_VALUE, OD.FUSE_CMD, OD.FUSE_STATUS]

def OD.g9040 : List Entry :=
  [OD.DEBUG_UNLOCK, OD.DEBUG_STATE]

def OD.gA000 : List Entry :=
  [OD.STRICT, OD.SEAL_EN, OD.CHAIN_PREV, OD.SEAL_LAST, OD.WIN_CUR, OD.WRAP_CUR]

def OD.gA010 : List Entry :=
  [OD.SEAL_SEL, OD.SEAL_BODY, OD.SEAL_EVT_IDX, OD.SEAL_EVT, OD.SEAL_LOG_OVR]

def OD.gA020 : List Entry :=
  [OD.REC_CMD, OD.REC_POLICY, OD.REC_STATE, OD.REC_BYTES, OD.REC_FIRST, OD.REC_LAST,
   OD.REC_ANCHOR, OD.REC_WRAPS]

def OD.gA030 : List Entry :=
  [OD.REPLAY_CMD, OD.REPLAY_ANCHOR, OD.REPLAY_SLOT, OD.REPLAY_END, OD.REPLAY_STATUS, OD.REPLAY_TICK,
   OD.REPLAY_MISMATCH, OD.REPLAY_UE]

/-- R371, R375. Every entry of the dictionary, in order of index and sub-index. -/
def OD.table : List Entry :=
  OD.g1000 ++ OD.g1001 ++ OD.g1002 ++ OD.g1010 ++ OD.g2010 ++ OD.g2011 ++ OD.g2012 ++ OD.g2013 ++
  OD.g2020 ++ OD.g2021 ++ OD.g2030 ++ OD.g2040 ++ OD.g2041 ++ OD.g2050 ++ OD.g2051 ++ OD.g2052 ++
  OD.g2053 ++ OD.g2054 ++ OD.g3000 ++ OD.g3010 ++ OD.g3020 ++ OD.g3022 ++ OD.g3030 ++ OD.g3060 ++
  OD.g3061 ++ OD.g4000 ++ OD.g4010 ++ OD.g4011 ++ OD.g4012 ++ OD.g4013 ++ OD.g4014 ++ OD.g4020 ++
  OD.g4030 ++ OD.g4040 ++ OD.g5000 ++ OD.g5010 ++ OD.g5020 ++ OD.g5030 ++ OD.g5100 ++ OD.g5101 ++
  OD.g6000 ++ OD.g6010 ++ OD.g6011 ++ OD.g6020 ++ OD.g6030 ++ OD.g6040 ++ OD.g6050 ++ OD.g6060 ++
  OD.g7000 ++ OD.g7010 ++ OD.g7020 ++ OD.g7030 ++ OD.g8000 ++ OD.g8001 ++ OD.g8010 ++ OD.g8020 ++
  OD.g9000 ++ OD.g9010 ++ OD.g9020 ++ OD.g9030 ++ OD.g9040 ++ OD.gA000 ++ OD.gA010 ++ OD.gA020 ++
  OD.gA030

end Sys2Proof.Machine
end

