-- ==== Sys2Proof/Machine/Flags.lean ====
section
/-! DEFINITION. Marks V, K and S of registers and words (R74), with the CAUSE that a void carries (R61). -/

namespace Sys2Proof.Machine

/-- Marks of both (R74). -/
def Marks.or (a b : Marks) : Marks := { v := a.v || b.v, k := a.k || b.k, s := a.s || b.s }

/-- Marks with saturation added (R97). -/
def Marks.sat (a : Marks) (x : Bool) : Marks := { a with s := a.s || x }

/-- The CAUSE of the first void of two (R61). -/
def firstCause (v : Bool) (c d : Byte) : Byte := if v then c else d

/-- Saturation at a signed width (R97). -/
def satTo (w : Nat) (x : Int) : Int :=
  max (-(2 ^ (w - 1) : Nat)) (min x ((2 ^ (w - 1) : Nat) - 1))

/-- CAUSE values of R61. -/
def causeIngest : Byte := 1
def causeSteer : Byte := 2
def causeMem : Byte := 3
def causeStale : Byte := 4
def causeSkew : Byte := 5
def causeRepair : Byte := 6
def causeDroop : Byte := 7
def causeFormat : Byte := 8

end Sys2Proof.Machine
end

