-- ==== Sys2Proof/Machine/Operands.lean ====
section
/-! DEFINITION. The fields of a microword (R82), the addresses it forms (R85), and the registers and memories of a core it
names (R55, R74 to R77). -/

namespace Sys2Proof.Machine

/-! ### Microword fields (R82) -/

def uEng (w : Word64) : Nat := bits w.toNat 62 2
def uClr (w : Word64) : Bool := bit w.toNat 61
def uOpr (w : Word64) : Nat := bits w.toNat 56 5
def uAcc (w : Word64) : Nat := bits w.toNat 52 4
def uWag (w : Word64) : Nat := bits w.toNat 50 2
def uLds (w : Word64) : Nat := bits w.toNat 48 2
def uLda (w : Word64) : Nat := bits w.toNat 46 2
def uLdr (w : Word64) : Nat := bits w.toNat 41 5
def uPst (w : Word64) : Nat := bits w.toNat 38 3
def uPacc (w : Word64) : Nat := bits w.toNat 34 4
def uPdst (w : Word64) : Nat := bits w.toNat 29 5
def uEmt (w : Word64) : Nat := bits w.toNat 26 3
def uSreg (w : Word64) : Nat := bits w.toNat 21 5
def uRte (w : Word64) : Nat := bits w.toNat 18 3
def uSag (w : Word64) : Nat := bits w.toNat 16 2
def uKeep (w : Word64) : Bool := bit w.toNat 11
def uFofs (w : Word64) : Nat := bits w.toNat 7 3
def uQsel (w : Word64) : Nat := bits w.toNat 4 3
def uOix (w : Word64) : Nat := bits w.toNat 2 2
def uAix (w : Word64) : Nat := bits w.toNat 0 2

/-! ### Values on their way (R73, R77, R83) -/

/-- What a read `n` fabric cycles from now would see. -/
def Late.seeIn {α : Type} (l : Late α) (k n : Nat) (new : α) : α :=
  match l.find? fun e => decide (e.1 = k ∧ n < e.2.1) with
  | some e => e.2.2
  | none => new

/-- What a read of a key sees: the value still standing, or the newest one. -/
def Late.see {α : Type} (l : Late α) (k : Nat) (new : α) : α := l.seeIn k 0 new

/-- A value that lands before one already on its way for the same key: it stands from cycle `n` until that one lands. -/
def Late.insert {α : Type} (k n : Nat) (new : α) : Late α → Option (Late α)
  | [] => none
  | e :: l =>
    if e.1 = k ∧ n < e.2.1 then some ((k, n, e.2.2) :: (k, e.2.1, new) :: l) else (Late.insert k n new l).map (e :: ·)

/-- A write that becomes readable in `n` fabric cycles: the values still read, and the newest value. -/
def Late.put {α : Type} (l : Late α) (k n : Nat) (old new : α) : Late α × α :=
  match Late.insert k n new l with
  | some l => (l, old)
  | none => (l ++ [(k, n, old)], new)

/-- `e` fabric cycles pass. -/
def Late.pass {α : Type} (l : Late α) (e : Nat) : Late α :=
  l.filterMap fun x => if x.2.1 ≤ e then none else some (x.1, x.2.1 - e, x.2.2)

/-! ### Registers -/

def Core.opr' (c : Core) (r : Nat) : Opr := SMap.get {} c.opr (r % 32)
def Core.setOpr (c : Core) (r : Nat) (x : Opr) : Core := { c with opr := SMap.set {} c.opr (r % 32) x }
def Core.acc' (c : Core) (r : Nat) : AccReg := SMap.get {} c.acc (r % 16)
def Core.setAcc (c : Core) (r : Nat) (x : AccReg) : Core := { c with acc := SMap.set {} c.acc (r % 16) x }
def Core.mg' (c : Core) (r : Nat) : Mg := SMap.get {} c.mg (r % 4)
def Core.setMg (c : Core) (r : Nat) (x : Mg) : Core := { c with mg := SMap.set {} c.mg (r % 4) x }
def Core.act' (c : Core) (a : Nat) : Opr := SMap.get {} c.act a

/-- What a read issued now sees (R73, R77, R83). -/
def Core.seeOpr (c : Core) (r : Nat) : Opr := c.oprOld.see (r % 32) (c.opr' r)
def Core.seeAcc (c : Core) (r : Nat) : AccReg := c.accOld.see (r % 16) (c.acc' r)
def Core.seeMg (c : Core) (r : Nat) : Mg := c.mgOld.see (r % 4) (c.mg' r)
def Core.seeAct (c : Core) (a : Nat) : Opr := c.actOld.see a (c.act' a)

/-- A write issued now that is readable in `n` fabric cycles. -/
def Core.putOpr (c : Core) (r n : Nat) (x : Opr) : Core :=
  let p := c.oprOld.put (r % 32) n (c.opr' r) x
  { c.setOpr r p.2 with oprOld := p.1 }
def Core.putAcc (c : Core) (r n : Nat) (x : AccReg) : Core :=
  let p := c.accOld.put (r % 16) n (c.acc' r) x
  { c.setAcc r p.2 with accOld := p.1 }
def Core.putMg (c : Core) (r n : Nat) (x : Mg) : Core :=
  let p := c.mgOld.put (r % 4) n (c.mg' r) x
  { c.setMg r p.2 with mgOld := p.1 }
def Core.putAct (c : Core) (a n : Nat) (x : Opr) : Core :=
  let p := c.actOld.put a n (c.act' a) x
  { c with act := SMap.set {} c.act a p.2, actOld := p.1 }

/-- Lane `i` of a list of lanes; missing lanes are zero. -/
def laneOf (l : List Int) (i : Nat) : Int := l.getD i 0

/-- Eight lanes given by a function of the lane number. -/
def eight {α : Type} (f : Nat → α) : List α := [f 0, f 1, f 2, f 3, f 4, f 5, f 6, f 7]

/-- Element `j` of an INT8 vector (R59). -/
def elem8 (v : Word64) (j : Nat) : Int := toSigned 8 (bits v.toNat (8 * j) 8)

/-- Element `j` of an INT4 vector (R59). -/
def elem4 (v : Word64) (j : Nat) : Int := toSigned 4 (bits v.toNat (4 * j) 4)

/-- Eight INT8 codes packed into a word (R59). -/
def pack8 (l : List Int) : Word64 :=
  BitVec.ofNat 64 ((eight fun i => ofSigned 8 (laneOf l i) * 2 ^ (8 * i)).foldl (· + ·) 0)

/-! ### Indices and addresses -/

/-- The loop counter an OIX or AIX code names; 0 names none (R82). -/
def Core.loopIx (c : Core) (code : Nat) : Nat :=
  if code = 1 then c.lc0 else if code = 2 then c.lc1 else if code = 3 then c.lc2 else 0

/-- Operand register of the step (R82). -/
def Core.stepOpr (c : Core) (w : Word64) : Nat := (uOpr w + c.loopIx (uOix w)) % 32

/-- Accumulator of the step (R82). -/
def Core.stepAcc (c : Core) (w : Word64) : Nat := (uAcc w + c.loopIx (uAix w)) % 16

/-- The address an address generator forms, modulo the size of its space (R85). -/
def Core.agAddr (c : Core) (g size : Nat) : Nat :=
  let a := c.ctrl.ags.getD g {}
  (((a.base : Int) + a.s0 * c.lc0 + a.s1 * c.lc1 + a.s2 * c.lc2) % (size : Int)).toNat

/-- The frame an offset into the frame table names (R81). -/
def Core.frameAt (c : Core) (ofs : Nat) : FrameEnt := c.ftab.getD ofs {}

/-- The frame table with one entry changed. -/
def Core.setFrame (c : Core) (ofs : Nat) (f : FrameEnt) : Core := { c with ftab := c.ftab.set ofs f }

/-- The weight tile a microword reads: within an adaptable pair, in the bank that serves the current frame (R76, R85). -/
def Core.tileAt (c : Core) (w : Word64) : Nat :=
  let a := c.agAddr (uWag w) 512
  if c.ctrl.adaptable then a % 256 + 256 * b2n (c.bankB != (c.frameAt 0).newBank) else a

/-- The 64 bytes of a tile. -/
def Core.tile (c : Core) (t : Nat) : List Byte := SMap.range 0 c.weights (64 * t) 64

/-- INT8 weight (i, j) of a tile (R71). -/
def tile8 (t : List Byte) (i j : Nat) : Int := toSigned 8 (t.getD (8 * i + j) 0).toNat

/-- INT4 weight (i, j) of a tile (R71). -/
def tile4 (t : List Byte) (i j : Nat) : Int := toSigned 4 (bits (t.getD (8 * i + j / 2) 0).toNat (4 * (j % 2)) 4)

/-- The sum of a function over 0 to n - 1. -/
def sumTo (n : Nat) (f : Nat → Int) : Int := (List.range n).foldl (fun a j => a + f j) 0

/-- The sum of products of lane `i` of a MAC8 step (R71). -/
def mac8Sum (t : List Byte) (v : Word64) (i : Nat) : Int := sumTo 8 fun j => tile8 t i j * elem8 v j

/-- The sum of products of lane `i` of a MAC4 step (R71). -/
def mac4Sum (t : List Byte) (v : Word64) (i : Nat) : Int := sumTo 16 fun j => tile4 t i j * elem4 v j

/-- Lanes as a register holds them: zero under the V mark (R74, R109). -/
def zeroIf (v : Bool) (l : List Int) : List Int := if v then eight fun _ => 0 else l

/-- Lanes that saturation has changed. -/
def clamped (exact lanes : List Int) : Nat :=
  (eight fun i => if laneOf exact i = laneOf lanes i then 0 else 1).foldl (· + ·) 0

/-- An accumulator written as an ordinary one: the step's sums added, or in place of the contents, lane by lane with
saturation; and the number of lanes clamped (R71, R74, R115). -/
def accStep (a : AccReg) (clear : Bool) (o : Opr) (sums : List Int) (ue : Bool) : AccReg × Nat :=
  let base := eight fun i => if clear then 0 else laneOf a.lanes i
  let exact := eight fun i => laneOf base i + laneOf sums i
  let lanes := exact.map (satTo 32)
  let n := clamped exact lanes
  let old := if clear then ({} : Marks) else a.marks
  let cause := firstCause old.v a.cause (firstCause o.marks.v o.cause causeMem)
  let m := (old.or o.marks).sat (decide (0 < n))
  let m := { m with v := m.v || ue }
  ({ lanes := zeroIf m.v lanes, marks := m, cause := if m.v then cause else 0, grp := if clear then none else a.grp }, n)

end Sys2Proof.Machine
end

