-- ==== Sys2Proof/Machine/Arith.lean ====
section
/-! DEFINITION. The rounding points of the manual: the rounding function and the requantiser (R105 to R110), the lookup
unit (R87), the block encoder (R102), the input quantiser (R103). -/

namespace Sys2Proof.Machine

/-! ### Rounding (R107, R108) -/

/-- `p / 2^e` rounded: mode false half to even, mode true half away from zero; no bits shifted out when e ≤ 0. -/
def rnd (p e : Int) (mode : Bool) : Int :=
  if e ≤ 0 then p * 2 ^ (-e).toNat
  else
    let t := p / 2 ^ e.toNat
    let r := p - t * 2 ^ e.toNat
    let h : Int := 2 ^ (e.toNat - 1)
    if h < r then t + 1
    else if r = h then
      if mode = false ∧ t % 2 = 1 then t + 1
      else if mode = true ∧ 0 ≤ p then t + 1
      else t
    else t

/-- A value held within bounds. -/
def clampTo (lo hi x : Int) : Int := if hi < x then hi else if x < lo then lo else x

/-- One lane through the requantiser, and whether it was clamped (R107, R109). -/
def requant (a m e zp lo hi : Int) (mode : Bool) : Int × Bool :=
  let q := rnd (a * m) e mode
  let c := clampTo (lo - zp) (hi - zp) q
  (c + zp, decide (c ≠ q))

/-! ### Requantiser entries (R105) -/

def rqMult (r : BitVec 128) : Int := toSigned 32 (bits r.toNat 0 32)
def rqShift (r : BitVec 128) : Nat := bits r.toNat 32 6
def rqMode (r : BitVec 128) : Bool := bit r.toNat 38
def rqFmt (r : BitVec 128) : Nat := bits r.toNat 39 3
def rqLayer (r : BitVec 128) : Nat := bits r.toNat 42 10
def rqZp (r : BitVec 128) : Int := toSigned 16 (bits r.toNat 64 16)
def rqLo (r : BitVec 128) : Int := toSigned 16 (bits r.toNat 80 16)
def rqHi (r : BitVec 128) : Int := toSigned 16 (bits r.toNat 96 16)
def rqXref (r : BitVec 128) : Nat := bits r.toNat 112 9

/-- The entry of lane `i` of a parameter group (R86). -/
def Core.rqEntry (c : Core) (qsel i : Nat) : BitVec 128 := SMap.get 0 c.req (8 * qsel + i)

/-- The shift a lane uses: s, or s − (XE − XREF) where the accumulator holds a block group (R107, R124). -/
def effShift (r : BitVec 128) (g : Option Group) (i : Nat) : Int :=
  match g with
  | none => (rqShift r : Int)
  | some g => (rqShift r : Int) - (laneOf g.xe i - (rqXref r : Int))

/-! ### Lookup (R87) -/

/-- Start B_k of segment `k`. -/
def segStart (b0 : Int) (w : List Nat) : Nat → Int
  | 0 => b0
  | k + 1 => segStart b0 w k + 16 * 2 ^ (w.getD k 0)

/-- The segment that holds an input, counting down from `k`. -/
def segOf (b0 : Int) (w : List Nat) (x : Int) : Nat → Nat
  | 0 => 0
  | k + 1 => if segStart b0 w (k + 1) ≤ x then k + 1 else segOf b0 w x k

/-- A lookup point, as a signed 16-bit number. -/
def Core.point (c : Core) (i : Nat) : Int := SMap.get 0 c.lut i

/-- SEGMENT mode, before the clamp to the output format. -/
def Core.lookupSeg (c : Core) (x : Int) : Int :=
  let b0 := c.ctrl.lutB0
  let w := c.ctrl.lutW
  if x < b0 then c.point 0
  else if segStart b0 w 16 ≤ x then c.point 255
  else
    let k := segOf b0 w x 15
    let d := x - segStart b0 w k
    let wk := w.getD k 0
    let j := (d / 2 ^ wk).toNat
    let f := d - (j : Int) * 2 ^ wk
    let n := if 16 * k + j < 255 then c.point (16 * k + j + 1) else c.point 255
    c.point (16 * k + j) + rnd ((n - c.point (16 * k + j)) * f) wk false

/-- One lane through the lookup unit, and whether it was clamped. -/
def Core.lookupLane (c : Core) (x : Int) (i16 : Bool) : Int × Bool :=
  if c.ctrl.lutSegment then
    let y := c.lookupSeg x
    let z := if i16 then clampTo (-32768) 32767 y else clampTo (-128) 127 y
    (z, decide (z ≠ y))
  else (toSigned 8 (ofSigned 16 (c.point (x + 128).toNat)), false)

/-! ### Block formats and the block encoder (R98, R102) -/

/-- Element fraction F, least and largest element of the format an OFMT code names: 4 MXINT8, 5 Q4B16, 6 Q8U. -/
def fmtFrac (o : Nat) : Int := if o = 4 then 6 else if o = 5 then 2 else 7
def fmtMin (o : Nat) : Int := if o = 4 then -128 else if o = 5 then -8 else 0
def fmtMax (o : Nat) : Int := if o = 4 then 127 else if o = 5 then 7 else 255

/-- Position of the leading one of a positive number. -/
def leadBit (n : Nat) : Nat := Nat.log2 n

/-- A block encoded from integers with a common binary exponent: scale, elements and which of them carry S (R102). -/
def encodeBlock (o : Nat) (w : List Int) (f : Int) (mode : List Bool) : Nat × List Int × List Bool :=
  let neg := w.map fun x => decide (o = 6 ∧ x < 0)
  let w := w.map fun x => if o = 6 ∧ x < 0 then 0 else x
  if w.all (fun x => decide (x = 0)) then (0, w.map fun _ => 0, neg)
  else
    let top := w.foldl (fun m x => max m x.natAbs) 0
    let raw := (leadBit top : Int) + f + 127
    let eclamp := decide (254 < raw ∨ raw < 0)
    let ev := clampTo 0 254 raw
    let ts := w.zipWith (fun x m => rnd x (ev - 127 - f - fmtFrac o) m) mode
    let es := ts.map (clampTo (fmtMin o) (fmtMax o))
    let sat := ts.zipWith (fun t e => decide (t ≠ e) && !(decide (t = fmtMax o + 1) && !eclamp)) es
    (ev.toNat, es, sat.zipWith (· || ·) neg)

/-! ### Input quantiser (R103) -/

/-- One channel value, and whether it was clamped. -/
def quantise (x ofs mult : Int) (shift : Nat) (mode : Bool) (lo hi : Int) : Int × Bool :=
  let q := rnd ((x - ofs) * mult) shift mode
  let y := clampTo lo hi q
  (y, decide (y ≠ q))

end Sys2Proof.Machine
end

