-- ==== Sys2Proof/Machine/Steering.lean ====
section
/-! DEFINITION. The steering unit and the input side of a core: fields of a flit (R56 to R62), the heads of the input FIFO
(R69, R89, R91), acceptance of frames (R79 to R81, R89 to R92), input loads (R74, R93), and the tokens a core sends (R75). -/

namespace Sys2Proof

/-! ### Fields of a flit (R57, R60) -/

def Flit.epoch (f : Flit) : Nat := bits f.tag.toNat 13 3
def Flit.btag (f : Flit) : Nat := bits f.tag.toNat 9 4
def Flit.stag (f : Flit) : Nat := bits f.tag.toNat 1 8
def Flit.m (f : Flit) : Bool := bit f.tag.toNat 0
def Flit.kind (f : Flit) : Nat := bits f.payload.toNat 61 3
def Flit.ftag (f : Flit) : Nat := bits f.payload.toNat 0 16
def Flit.sel (f : Flit) : Nat := bits f.payload.toNat 16 4
def Flit.stream (f : Flit) : Nat := bits f.payload.toNat 16 6
def Flit.cause (f : Flit) : Byte := BitVec.ofNat 8 (bits f.payload.toNat 16 8)

/-- A tag (R57). -/
def mkTag (epoch btag stag : Nat) (m : Bool) : Word16 :=
  BitVec.ofNat 16 (epoch % 8 * 2 ^ 13 + btag % 16 * 2 ^ 9 + stag % 256 * 2 + b2n m)

/-- A control token of a KIND for a frame, with its further payload field at bit 16 (R60). -/
def ctlFlit (epoch kind ftag extra : Nat) : Flit :=
  { payload := BitVec.ofNat 64 (kind * 2 ^ 61 + extra * 2 ^ 16 + ftag % 2 ^ 16), tag := mkTag epoch 0 ftag false }

/-- A token with a well-formed control payload: a KIND in use, and STAG equal to FTAG[7:0] (R60). -/
def Flit.wellFormed (f : Flit) : Bool :=
  decide (1 ≤ f.kind ∧ f.kind ≤ 5) && decide (f.stag = f.ftag % 256)

end Sys2Proof

namespace Sys2Proof.Machine

/-- STEER_MISMATCH, reported when the core settles (R94). -/
def Core.mismatch (c : Core) : Core := { c with rep.mm := c.rep.mm + 1 }

/-- Steering tag of a frame-table entry. -/
def FrameEnt.stag (f : FrameEnt) : Nat := f.ftag.toNat % 256

/-! ### Distances (R91) -/

/-- Distance of a steering tag from the expected one, modulo 2^8 (R91). -/
def Core.dist (c : Core) (stag : Nat) : Nat := (stag + 256 - c.expect.toNat % 256) % 256

/-- Distance from the current frame, whose tokens a running body takes (R93). -/
def Core.distIn (c : Core) (inBody : Bool) (stag : Nat) : Nat :=
  if inBody then (stag + 256 - (c.frameAt 0).stag) % 256 else c.dist stag

/-- The frame table holds a frame with a steering tag. -/
def Core.holds (c : Core) (stag : Nat) : Bool := c.ftab.any fun f => decide (f.stag = stag)

/-- An early token is counted once per frame (R91). -/
def Core.countEarly (c : Core) (stag : Nat) : Core :=
  if c.mmTags.contains stag then c else { c with mmTags := stag :: c.mmTags }.mismatch

/-! ### Arrival (R60, R69, R70, R93) -/

/-- The input FIFO has room: 8 tokens, at most 6 of them data (R69). -/
def Core.room (c : Core) (ctrl : Bool) : Bool :=
  decide (c.fifoD.length + c.fifoC.length < 8) && (ctrl || decide (c.fifoD.length < 6))

/-- In MERGE mode a token's label names its source; the other modes do not tell sources apart (R89; log entry 20). -/
def Core.sameSource (c : Core) (a b : Nat) : Bool := decide (c.ctrl.mode ≠ .merge) || decide (a = b)

/-- An EOF that ends the data of a source's frame has come: seen for the current frame, taken for the expected one, or
waiting in the control queue (R93). -/
def Core.ended (c : Core) (stag label : Nat) : Bool :=
  (c.eofSeen && decide (c.ftab ≠ [] ∧ (c.frameAt 0).stag = stag) && c.sameSource (c.frameAt 0).src label) ||
    (decide (c.dist stag = 0) && c.taken.any fun t => decide (t.2.1 = 2) && c.sameSource t.1 label) ||
    c.fifoC.any fun t => decide (t.flit.kind = 2 ∧ t.flit.stag = stag) && c.sameSource t.label label

/-- A frame that a stale or malformed token voids; the CAUSE of an earlier void stands (R60, R61, R70). -/
def FrameEnt.hurtBy (f : FrameEnt) (stale : Bool) : FrameEnt :=
  { f with void := true, stale := f.stale || stale, cause := firstCause f.void f.cause (if stale then causeStale else causeFormat) }

/-- A stale or malformed token is discarded: the frame it belonged to becomes void in the frame table, or at its acceptance
when it is still to come (R60, R70). -/
def Core.hurtBy (c : Core) (stag : Nat) (stale : Bool) : Core :=
  match c.ftab.findIdx? fun f => decide (f.stag = stag) with
  | some i => c.setFrame i ((c.frameAt i).hurtBy stale)
  | none =>
    if c.dist stag < 128 ∧ ¬ c.hurt.contains (stag, stale) then { c with hurt := (stag, stale) :: c.hurt } else c

/-- A token joins its queue. -/
def Core.enqueue (c : Core) (ctrl : Bool) (t : Tok) : Core :=
  if ctrl then { c with fifoC := c.fifoC ++ [t] } else { c with fifoD := c.fifoD ++ [t] }

/-! ### The heads of the queues (R89, R91, R93) -/

/-- Whether a control token at the head goes: none stays (`none`); it is kept, or it leaves with a change of the core. -/
def Core.headStep (c : Core) (inBody : Bool) (t : Tok) : Option Core :=
  let k := t.flit.kind
  let d := c.distIn inBody t.flit.stag
  let m := c.ctrl.mode
  if d = 0 then
    if inBody then
      (if k = 2 then
        some (if c.sameSource (c.frameAt 0).src t.label then { c with eofSeen := true } else c)
       else if k = 1 ∨ (m = .merge ∧ 4 ≤ k) then some c
       else some (c.countEarly t.flit.stag))
    else if k = 2 then some { c with taken := c.taken ++ [(t.label, 2, 0)] }
    else if m = .merge ∧ k = 3 ∧ c.mergeSel = none then some { c with mergeSel := some t.flit.sel }
    else if m = .merge ∧ 4 ≤ k then some { c with taken := c.taken ++ [(t.label, k, t.flit.cause)] }
    else none
  else if 128 ≤ d then
    (if k = 2 then some c
     else if k = 1 then (if c.holds t.flit.stag then some c else none)
     else some (c.countEarly t.flit.stag))
  else none

/-- Control tokens that the steering unit takes or discards at once leave the head (R91; log entry 20). -/
def Core.tidyC (inBody : Bool) : Nat → Core → Core
  | 0, c => c
  | n + 1, c =>
    match c.fifoC with
    | [] => c
    | t :: ts =>
      match c.headStep inBody t with
      | some c' => Core.tidyC inBody n { c' with fifoC := ts }
      | none => c

/-- The source whose data the frame at the head takes: that of the current frame, or the one SELECT has named. -/
def Core.wantedSource (c : Core) (inBody : Bool) : Option Nat :=
  if c.ctrl.mode = .merge then (if inBody then (if (c.frameAt 0).src < 16 then some (c.frameAt 0).src else none) else c.mergeSel) else none

/-- Data flits that the steering unit discards leave the head: those of earlier frames, counted once per frame, and in MERGE
mode those of the frame from another source, each counted (R89, R91). -/
def Core.tidyD (inBody : Bool) : Nat → Core → Core
  | 0, c => c
  | n + 1, c =>
    match c.fifoD with
    | [] => c
    | t :: ts =>
      let d := c.distIn inBody t.flit.stag
      if 128 ≤ d then Core.tidyD inBody n ({ c with fifoD := ts }.countEarly t.flit.stag)
      else if d = 0 ∧ (c.wantedSource inBody).any (fun s => decide (s ≠ t.label)) then Core.tidyD inBody n { c with fifoD := ts }.mismatch
      else c

/-- Both heads as the steering unit leaves them. -/
def Core.tidy (c : Core) (inBody : Bool) : Core := Core.tidyD inBody 8 (Core.tidyC inBody 8 c)

/-- A BOF at the head sets the expected frame tag and the stream, and is consumed; one of a later frame waits (R60, R62,
R91; log entry 20). -/
def Core.takeBof (c : Core) : Core × Bool :=
  match c.fifoC with
  | [] => (c, false)
  | t :: ts =>
    if t.flit.kind = 1 ∧ (¬ c.expectSet ∨ c.dist t.flit.stag = 0 ∨ 128 ≤ c.dist t.flit.stag) then
      ({ c with fifoC := ts, expect := BitVec.ofNat 16 t.flit.ftag, expectSet := true, stream := t.flit.stream }, true)
    else (c, false)

/-- The control token of the expected frame at the head, other than BOF and EOF. -/
def Core.headC (c : Core) : Option Tok :=
  match c.fifoC with
  | t :: _ => if c.dist t.flit.stag = 0 ∧ 3 ≤ t.flit.kind then some t else none
  | [] => none

/-- The data flit of the expected frame at the head. -/
def Core.headD (c : Core) : Option Tok :=
  match c.fifoD with
  | t :: _ => if c.dist t.flit.stag = 0 then some t else none
  | [] => none

/-! ### Acceptance (R79 to R81, R89, R90) -/

/-- Body entry of a frame by its tag (R89), and the one at which a voided or timed-out frame starts (R92; in SELECT and MERGE
mode FRAME_ENTRY0: log entry 20). -/
def Core.usualEntry (c : Core) : Nat :=
  if c.ctrl.mode = .pass then c.ctrl.entries.getD (c.expect.toNat % max 1 c.ctrl.phaseN) 0 else c.ctrl.entries.getD 0 0

/-- Entry of a skipped frame (R89). -/
def Core.skipAt (c : Core) : Nat := c.ctrl.skipEntry.getD c.usualEntry

/-- The bank of a frame under an armed swap (R242). -/
def Core.newBankFor (c : Core) (ftag : Word16) : Bool :=
  match c.arm with
  | some sw => decide ((ftag.toNat + 2 ^ 16 - sw.toNat) % 2 ^ 16 < 2 ^ 15)
  | none => false

/-- A frame as the steering rules leave it: void where a stale or malformed token of it was discarded (R60, R70, R92). -/
def Core.judged (c : Core) (f : FrameEnt) : FrameEnt :=
  let h := c.hurt.filter fun x => decide (x.1 = c.expect.toNat % 256)
  if h = [] then { f with dead := f.void }
  else
    let stale := h.any Prod.snd
    { f with void := true, skip := false, dead := true, stale := stale, cause := if stale then causeStale else causeFormat }

/-- A frame enters the frame table and its body starts (R79, R81, R84); the expectation moves on (R62, R92). -/
def Core.startBody (c : Core) (f : FrameEnt) : Core :=
  let tag := c.expect.toNat % 256
  let f := { c.judged f with ftag := c.expect, newBank := c.newBankFor c.expect }
  let eof := c.taken.any fun t => decide (t.2.1 = 2) && c.sameSource f.src t.1
  { c with ftab := f :: c.ftab.take 7, running := true, pc := f.entry, lc0 := 0, lc1 := 0, lc2 := 0, age := 0, rest := 0,
           expect := c.expect + 1, expectSet := true, eofSeen := eof, mergeSel := none, taken := [],
           mmTags := c.mmTags.filter fun x => decide (x ≠ tag), hurt := c.hurt.filter fun x => decide (x.1 ≠ tag) }

/-- A void frame with a CAUSE. -/
def voidFrame (cause : Byte) (entry : Nat) : FrameEnt := { void := true, cause := cause, entry := entry }

/-- What the steering unit decides: wait; or the frame, and whether the head control token is used up and a mismatch is
raised. -/
inductive Steer where
  | wait
  | take (f : FrameEnt) (useCtl mm : Bool)
  deriving DecidableEq, Repr

/-- PASS mode (R89). -/
def Core.steerPass (c : Core) (bof : Bool) : Steer :=
  let good : Steer := if bof ∨ c.headD.isSome then .take { entry := c.usualEntry } false false else .wait
  match c.headC with
  | some t =>
    if t.flit.kind = 4 then .take { skip := true, entry := c.skipAt } true false
    else if t.flit.kind = 5 then .take (voidFrame t.flit.cause c.usualEntry) true false
    else good
  | none => good

/-- SELECT mode (R89). A frame whose SEL is 4 to 14 is accepted void (log entry 20). -/
def Core.steerSelect (c : Core) : Steer :=
  match c.headC with
  | some t =>
    if t.flit.kind = 4 then .take { skip := true, entry := c.skipAt } true false
    else if t.flit.kind = 5 then .take (voidFrame t.flit.cause c.usualEntry) true false
    else if c.headD.isNone then .wait
    else if t.flit.sel ≤ 3 then .take { entry := c.ctrl.entries.getD t.flit.sel 0 } true false
    else if t.flit.sel = 15 then .take { skip := true, entry := c.skipAt } true false
    else .take (voidFrame causeSteer c.usualEntry) true true
  | none => .wait

/-- MERGE mode (R89): SELECT has named the source; the frame's first data flit from it, or a SKIP or VOID from it, completes
the frame (log entry 20). -/
def Core.steerMerge (c : Core) : Steer :=
  match c.mergeSel with
  | none => .wait
  | some sel =>
    if sel = 15 then .take { skip := true, entry := c.skipAt } false false
    else
      match c.taken.find? fun t => decide (t.1 = sel ∧ 4 ≤ t.2.1) with
      | some t => if t.2.1 = 4 then .take { skip := true, entry := c.skipAt } false false
        else .take (voidFrame t.2.2 c.usualEntry) false false
      | none => if c.headD.isSome then .take { entry := c.ctrl.entries.getD 0 0, src := sel } false false else .wait

/-- What the steering unit decides at the heads. -/
def Core.steer (c : Core) (bof : Bool) : Steer :=
  match c.ctrl.mode with
  | .pass => c.steerPass bof
  | .select => c.steerSelect
  | .merge => c.steerMerge

/-- The heads after the steering unit has looked at them, and whether it took a BOF. -/
def Core.look (c : Core) : Core × Bool :=
  let b := (c.tidy false).takeBof
  (if b.2 then b.1.tidy false else b.1, b.2)

/-- The expected frame is accepted when the tokens it needs are at the heads (R89, R90). -/
def Core.accept (c : Core) : Core :=
  let b := c.look
  match b.1.steer b.2 with
  | .wait => b.1
  | .take f useCtl mm =>
    let c := if useCtl then { b.1 with fifoC := b.1.fifoC.drop 1 } else b.1
    let c := if mm then c.mismatch else c
    c.startBody f

/-- Tokens of the expected frame at the control head leave it. -/
def Core.dropExpected : Nat → Core → Core
  | 0, c => c
  | n + 1, c =>
    match c.fifoC with
    | t :: ts => if c.dist t.flit.stag = 0 then Core.dropExpected n { c with fifoC := ts } else c
    | [] => c

/-- A frame that has timed out: its control tokens are discarded and it is entered VOID with CAUSE 0x02, or 0x04 where a stale
token was discarded for it; its body starts as for an accepted frame (R92). -/
def Core.timeout (c : Core) : Core :=
  let c := Core.dropExpected 8 (c.tidy false)
  c.mismatch.startBody (voidFrame causeSteer c.usualEntry)

/-! ### Input loads (R74, R83, R93) -/

/-- A load finds no flit: the frame becomes void with CAUSE 0x02, and STEER_MISMATCH is raised (R93). -/
def Core.missing (c : Core) : Core :=
  let f := c.frameAt 0
  (c.setFrame 0 { f with void := true, cause := firstCause f.void f.cause causeSteer }).mismatch

/-- What an input load delivers, with the core after the head has moved. A frame accepted void or skipped gives zero with V or
K (R74). A flit with M set marks the frame saturated (log entry 21). -/
def Core.inputLoad (c : Core) : Core × Opr :=
  let f := c.frameAt 0
  if f.dead then (c, { marks := { v := true }, cause := f.cause })
  else if f.skip then (c, { marks := { k := true } })
  else
    let c := c.tidy true
    match c.fifoD with
    | t :: ts =>
      if t.flit.stag = f.stag then
        let c := { c with fifoD := ts }
        let c := if t.flit.m then c.setFrame 0 { c.frameAt 0 with sat := true } else c
        (c, { val := t.flit.payload, marks := { s := t.flit.m }, bt := BitVec.ofNat 4 t.flit.btag })
      else (c.missing, { marks := { v := true }, cause := causeSteer })
    | [] => (c.missing, { marks := { v := true }, cause := causeSteer })

/-! ### Emission (R68, R75, R83) -/

/-- The core, the epoch and the cycle in which a word issues. -/
structure Issue where
  core : Nat
  epoch : Nat
  cycle : Nat
  deriving DecidableEq, Repr

/-- A token leaves the emit stage `k` cycles from now; it is in the router's local queue three cycles later (R68). -/
def Core.send (c : Core) (k : Nat) (ctrl : Bool) (rte : Nat) (f : Flit) : Core :=
  { c with out := c.out ++ [(3 + k, ctrl, { flit := f, label := rte })] }

/-- A VOID token leaves (R61, R75, R95). -/
def Core.sendVoid (c : Core) (i : Issue) (rte : Nat) (f : FrameEnt) (cause : Byte) : Core :=
  { c.send 0 true rte (ctlFlit i.epoch 5 f.ftag.toNat cause.toNat) with rep.voidOut := c.rep.voidOut + 1 }

/-- A SKIP token leaves. -/
def Core.sendSkip (c : Core) (i : Issue) (rte : Nat) (f : FrameEnt) : Core := c.send 0 true rte (ctlFlit i.epoch 4 f.ftag.toNat 0)

/-- The CAUSE of an emitted void: the frame's, or the register's where the frame is not void (R83). -/
def FrameEnt.voidCause (f : FrameEnt) (regCause : Byte) : Byte := if f.void then f.cause else regCause

/-- Data flits leave, one per cycle. -/
def Core.sendData (c : Core) (rte : Nat) (tag : Word16) : Nat → List Word64 → Core
  | _, [] => c
  | k, w :: ws => Core.sendData (c.send k false rte { payload := w, tag := tag }) rte tag (k + 1) ws

/-- An emit of data flits for a frame from a register with marks (R75). -/
def Core.emit (c : Core) (i : Issue) (rte : Nat) (keep : Bool) (f : FrameEnt) (marks : Marks) (cause : Byte) (bt : Nat)
    (payloads : List Word64) : Core :=
  if f.void ∨ marks.v then c.sendVoid i rte f (f.voidCause cause)
  else if marks.k ∨ (f.skip ∧ ¬ keep) then c.sendSkip i rte f
  else c.sendData rte (mkTag i.epoch bt f.ftag.toNat (marks.s || f.sat)) 0 payloads

end Sys2Proof.Machine
end

