-- ==== Sys2Proof/Machine/Pipeline.lean ====
section
/-! DEFINITION. The pipeline of a core: the engine steps MAC8, MAC4 and MACX (R71 to R73, R115, R118 to R127), loads and
stores (R74, R77, R83, R88, R93), the post ops and the block encode (R83, R86 to R88, R105 to R110, R128, R129), the emits
(R75, R82, R83), and the issue of a microword with all of them (R79, R83, R84). A write stands beside the value it will
replace until the cycle in which it can be read (log entry 14). -/

namespace Sys2Proof.Machine

/-! ### Loads and stores (R74, R77, R83, R88, R93) -/

/-- LDS 1: the next data flit of the current frame, into OPR[LDR] at the end of the cycle. -/
def Core.loadFlit (c : Core) (w : Word64) : Core :=
  let r := c.inputLoad
  r.1.putOpr (uLdr w) 1 r.2

/-- LDS 2: the activation word at AG[LDA], two cycles later; an uncorrectable word is zero with V, CAUSE 0x03 (R77, R78). -/
def Core.loadWord (c : Core) (w : Word64) (ue : Bool) : Core :=
  let x : Opr := if ue then { marks := { v := true }, cause := causeMem } else c.seeAct (c.agAddr (uLda w) 1024)
  c.putOpr (uLdr w) 2 x

/-- Lanes 2k and 2k + 1 of an accumulator from a partial-sum flit (R59, R88): the k-th load since the accumulator was last
filled; the first of four replaces the contents. -/
def fillAcc (a : AccReg) (x : Opr) : AccReg :=
  let k := a.filled % 4
  let base := if k = 0 then ({} : AccReg) else a
  let lanes := eight fun i =>
    if i / 2 = k then toSigned 32 (bits x.val.toNat (32 * (i % 2)) 32) else laneOf base.lanes i
  let m := base.marks.or x.marks
  { lanes := zeroIf m.v lanes, marks := m, cause := firstCause base.marks.v base.cause x.cause,
    grp := none, filled := (k + 1) % 4 }

/-- LDS 3: the next partial-sum flit, into two lanes of ACC[LDR[3:0]]. -/
def Core.loadSum (c : Core) (w : Word64) : Core :=
  let r := c.inputLoad
  r.1.putAcc (uLdr w % 16) 1 (fillAcc (r.1.acc' (uLdr w % 16)) r.2)

/-- EMT 4: OPR[SREG] with its marks and block tag to the activation word at AG[SAG], readable in the next cycle (R77, R119). -/
def Core.store (c : Core) (w : Word64) : Core := c.putAct (c.agAddr (uSag w) 1024) 1 (c.seeOpr (uSreg w))

/-! ### Integer steps (R71 to R74) -/

/-- The operand of a step: the incoming flit where the same word loads it with LDS 1, else what a read sees (R83). -/
def Core.operand (c : Core) (w : Word64) : Opr :=
  if uLds w = 1 ∧ uLdr w = c.stepOpr w then c.opr' (c.stepOpr w) else c.seeOpr (c.stepOpr w)

/-- A result of the engine: readable ten cycles after its issue; a later step adds to it at once (R72, R73). -/
def Core.putStep (c : Core) (w : Word64) (a : AccReg) (sat : Nat) : Core :=
  let c := c.putAcc (c.stepAcc w) 10 a
  { c with rep.accSat := c.rep.accSat + sat }

/-- An integer step with given lane sums. -/
def Core.macStep (c : Core) (w : Word64) (ue : Bool) (sum : List Byte → Word64 → Nat → Int) : Core :=
  let o := c.operand w
  let t := c.tile (c.tileAt w)
  let r := accStep (c.acc' (c.stepAcc w)) (uClr w && decide (c.lc0 = 0)) o (eight fun i => sum t o.val i) ue
  c.putStep w r.1 r.2

/-! ### Block steps (R118 to R127) -/

/-- Byte `b` of a scale flit. -/
def scaleByte (v : Word64) (b : Nat) : Nat := bits v.toNat (8 * b) 8

/-- Scale byte of row `i` and block `b` of a scale tile (R101). -/
def scaleTile (t : List Byte) (i b : Nat) : Nat := (t.getD (8 * i + b) 0).toNat

/-- The largest exponent of lane `i` over the eight blocks of a group (R120). -/
def groupExp (t : List Byte) (v : Word64) (i : Nat) : Int :=
  (List.range 8).foldl (fun m b => max m ((scaleByte v b + scaleTile t i b : Nat) : Int)) 0

/-- SCALE_SKEW, reported when the core settles (R127). -/
def Core.skewIf (c : Core) (skew : Bool) : Core := { c with rep.skew := c.rep.skew + b2n skew }

/-- SCALE_STEP: the group exponents, the group tag and an empty accumulator (R120); a block tag other than 0 or 8 fails the
check of R126. -/
def Core.scaleStep (c : Core) (w : Word64) (ue : Bool) : Core :=
  let o := c.operand w
  let tn := c.tileAt w
  let skew := decide (o.bt ≠ 0 ∧ o.bt ≠ 8)
  let g : Group := { xe := eight (groupExp (c.tile tn) o.val), g := o.bt, ea := o.val, tile := tn }
  let m : Marks := { v := o.marks.v || ue || skew }
  let cause := if o.marks.v then o.cause else if skew then causeSkew else if ue then causeMem else 0
  (c.skewIf skew).putStep w { lanes := eight fun _ => 0, marks := m, cause := cause, grp := some g } 0

/-- Data steps of one block (R118). -/
def Core.blockSteps (c : Core) : Nat := if c.ctrl.xmode1 then 1 else 4

/-- The aligned term of lane `i` of a block (R121). -/
def alignedTerm (g : Group) (t : List Byte) (b i : Nat) (d : Int) : Int :=
  rnd d (laneOf g.xe i - (scaleByte g.ea b : Int) - (scaleTile t i b : Int)) false

/-- A block in use whose scales hold 0xFF (R99, R126). -/
def badScale (g : Group) (t : List Byte) (b : Nat) : Bool :=
  decide (scaleByte g.ea b = 0xFF) || (List.range 8).any fun i => decide (scaleTile t i b = 0xFF)

/-- A data step on an open group: products summed over the block, and at its last step the aligned term added, or forced
to zero where a check of R126 failed (R121, R127). A 0xFF scale fails the check at the block's first step. Gives the
accumulator, its clamped lanes and whether this step's check failed. -/
def Core.blockStep (c : Core) (w : Word64) (ue : Bool) (a : AccReg) (g : Group) : AccReg × Nat × Bool :=
  let o := c.operand w
  let t := c.tile (c.tileAt w)
  let b := g.step / c.blockSteps
  let first := decide (g.step % c.blockSteps = 0)
  let last := decide (g.step % c.blockSteps = c.blockSteps - 1)
  let skew := decide (o.bt ≠ g.g + BitVec.ofNat 4 b) || (first && badScale g (c.tile g.tile) b)
  let add := if c.ctrl.xmode1 then eight (mac4Sum t o.val) else eight (mac8Sum t o.val)
  let sum := eight fun i => (if first then 0 else laneOf g.sum i) + laneOf add i
  let bad := skew || (!first && g.bad)
  let exact := eight fun i =>
    laneOf a.lanes i + (if last ∧ ¬ bad then alignedTerm g (c.tile g.tile) b i (laneOf sum i) else 0)
  let lanes := exact.map (satTo 32)
  let n := clamped exact lanes
  let m := (a.marks.or o.marks).sat (decide (0 < n))
  let cause := firstCause a.marks.v a.cause (firstCause o.marks.v o.cause (if skew then causeSkew else causeMem))
  let m := { m with v := m.v || skew || ue }
  ({ lanes := zeroIf m.v lanes, marks := m, cause := if m.v then cause else 0,
     grp := some { g with step := g.step + 1, sum := sum, bad := bad } }, n, skew)

/-- DATA_STEP (R121, R126, R127). Without an open group on the accumulator, which the loader rules out (R123), it has no
effect. -/
def Core.dataStep (c : Core) (w : Word64) (ue : Bool) : Core :=
  match (c.acc' (c.stepAcc w)).grp with
  | none => c
  | some g =>
    let r := c.blockStep w ue (c.acc' (c.stepAcc w)) g
    (c.skewIf r.2.2).putStep w r.1 r.2.1

/-! ### Saturation counts (R109, R111) -/

/-- Clamps of a post op wait at the core until they reach the hub: one per lane and layer, none from a void source. -/
def Core.countSat (c : Core) (qsel : Nat) (void : Bool) (sats : List Bool) : Core :=
  if void then c
  else
    let one (c : Core) (p : Nat × Bool) : Core :=
      if p.2 then { c with satPend := SMap.upd 0 c.satPend (rqLayer (c.rqEntry qsel (p.1 % 8))) (· + 1) } else c
    ((List.range sats.length).zip sats).foldl one c

/-! ### Writing eight codes (R110) -/

/-- Eight INT4 codes in 32 bits. -/
def pack4 (l : List Int) : Nat := (eight fun i => ofSigned 4 (laneOf l i) * 2 ^ (4 * i)).foldl (· + ·) 0

/-- Four 16-bit codes in a word. -/
def pack16 (l : List Int) : Word64 :=
  BitVec.ofNat 64 (([0, 1, 2, 3].map fun i => ofSigned 16 (laneOf l i) * 2 ^ (16 * i)).foldl (· + ·) 0)

/-- Eight codes go to the destination in the packing of an OFMT, readable `lat` cycles from now; the block tag becomes 0
(R83, R110). With I16 both registers take the marks, S for a clamp in any lane among them (log entry 135). -/
def Core.writeCodes (c : Core) (ofmt dst lat : Nat) (codes : List Int) (m : Marks) (cause : Byte) : Core :=
  let old := c.opr' dst
  let new (v : Word64) : Opr := { val := v, marks := m, bt := 0, cause := cause }
  if ofmt = 1 then c.putOpr dst lat (new (BitVec.ofNat 64 (bits old.val.toNat 32 32 * 2 ^ 32 + pack4 codes)))
  else if ofmt = 2 then
    c.putOpr dst lat { val := BitVec.ofNat 64 (bits old.val.toNat 0 32 + pack4 codes * 2 ^ 32), marks := old.marks.or m,
                       bt := 0, cause := firstCause old.marks.v old.cause cause }
  else if ofmt = 3 then
    (c.putOpr dst lat (new (pack16 codes))).putOpr ((dst + 1) % 32) lat (new (pack16 (codes.drop 4)))
  else c.putOpr dst lat (new (pack8 codes))

/-! ### Requantise, lookup, merge -/

/-- Eight lanes through the requantiser and, when asked, the lookup unit (R107, R110), with the clamps; the lanes of a void
source are zero (R109). -/
def Core.requantLanes (c : Core) (qsel : Nat) (lanes : List Int) (g : Option Group) (lookup : Bool) : List (Int × Bool) :=
  eight fun i =>
    let r := c.rqEntry qsel i
    let q := requant (laneOf lanes i) (rqMult r) (effShift r g i) (rqZp r) (rqLo r) (rqHi r) (rqMode r)
    if lookup then
      let y := c.lookupLane q.1 (decide (rqFmt r = 3))
      (y.1, q.2 || y.2)
    else q

/-- A requantise of lanes with marks into OPR[dst] (R107 to R110), 3 cycles from issue, or 5 with a lookup (R83). -/
def Core.requantiseInto (c : Core) (qsel dst : Nat) (lanes : List Int) (g : Option Group) (m : Marks) (cause : Byte)
    (lookup : Bool) : Core :=
  let r := c.requantLanes qsel (zeroIf m.v lanes) g lookup
  let sats := r.map Prod.snd
  let c := c.countSat qsel m.v sats
  c.writeCodes (rqFmt (c.rqEntry qsel 0)) dst (if lookup then 5 else 3) (r.map Prod.fst) (m.sat (sats.any id)) cause

/-- An accumulator requantised by a microword: post ops 1 and 2. -/
def Core.requantiseAcc (c : Core) (w : Word64) (lookup : Bool) : Core :=
  let a := c.seeAcc (uPacc w)
  c.requantiseInto (uQsel w) (uPdst w) a.lanes a.grp a.marks a.cause lookup

/-- A merge register requantised by a microword and cleared: post ops 5 and 6 (R88). -/
def Core.requantiseMg (c : Core) (w : Word64) (lookup : Bool) : Core :=
  let m := c.seeMg (uPacc w)
  (c.requantiseInto (uQsel w) (uPdst w) m.lanes none m.marks m.cause lookup).putMg (uPacc w) 1 {}

/-- OPR[PDST] through the lookup unit in place, readable after 2 cycles: post op 3 (R83, R87). Eight INT8 codes in DIRECT
mode, four 16-bit values in SEGMENT mode, whose output format is the core's lookup format (log entry 22). -/
def Core.lookupInPlace (c : Core) (w : Word64) : Core :=
  let o := c.seeOpr (uPdst w)
  if c.ctrl.lutSegment then
    let r := [0, 1, 2, 3].map fun i => c.lookupLane (toSigned 16 (bits o.val.toNat (16 * i) 16)) c.ctrl.lutI16
    let sats := r.map Prod.snd
    let c := c.countSat (uQsel w) o.marks.v sats
    c.putOpr (uPdst w) 2 { o with val := pack16 (r.map Prod.fst), marks := o.marks.sat (sats.any id) }
  else c.putOpr (uPdst w) 2 { o with val := pack8 (eight fun i => (c.lookupLane (elem8 o.val i) false).1) }

/-- An accumulator added into MG[PDST[1:0]] with saturation at 48 bits, readable after 2 cycles: post op 4 (R83, R88). -/
def Core.mergeAdd (c : Core) (w : Word64) : Core :=
  let a := c.seeAcc (uPacc w)
  let m := c.mg' (uPdst w)
  let exact := eight fun i => laneOf m.lanes i + laneOf a.lanes i
  let lanes := exact.map (satTo 48)
  let marks := (m.marks.or a.marks).sat (decide (lanes ≠ exact))
  c.putMg (uPdst w) 2 { lanes := zeroIf marks.v lanes, marks := marks, cause := firstCause m.marks.v m.cause a.cause }

/-! ### Block encode (R128, R129) -/

/-- Accumulators a block encode reads, one per cycle from issue on: four, or two for Q4B16. -/
def Core.encodeAccs (c : Core) (w : Word64) (ofmt : Nat) : List AccReg :=
  (List.range (if ofmt = 5 then 2 else 4)).map fun k => c.accOld.seeIn ((uPacc w + k) % 16) k (c.acc' (uPacc w + k))

/-- The integer and exponent of every lane of the block. -/
def Core.encodeLanes (c : Core) (qsel : Nat) (accs : List AccReg) : List (Int × Int) :=
  (accs.map fun a => eight fun i =>
    (laneOf a.lanes i * rqMult (c.rqEntry qsel i), -(effShift (c.rqEntry qsel i) a.grp i))).flatten

/-- Registers 8k to 8k + 7 of a block's elements as operand words. -/
def elemWords (ofmt : Nat) (es : List Int) : List Word64 :=
  if ofmt = 5 then [BitVec.ofNat 64 (pack4 es + pack4 (es.drop 8) * 2 ^ 32)]
  else [0, 1, 2, 3].map fun k => pack8 (es.drop (8 * k))

/-- Clamps of the lanes that element register `k` holds. -/
def satOf (ofmt : Nat) (sats : List Bool) (k : Nat) : Bool :=
  if ofmt = 5 then sats.any id else ((sats.drop (8 * k)).take 8).any id

/-- A block encode: elements to OPR[PDST] on, one register per cycle at issue + 4 on, the scale into OPR31 at issue + 4,
tags by the frame's block number. -/
def Core.blockEncode (c : Core) (w : Word64) (ofmt : Nat) : Core :=
  let accs := c.encodeAccs w ofmt
  let ls := c.encodeLanes (uQsel w) accs
  let f := (ls.map Prod.snd).foldl min ((ls.headD (0, 0)).2)
  let ws := ls.map fun l => l.1 * 2 ^ (l.2 - f).toNat
  let modes := (List.range ls.length).map fun l => rqMode (c.rqEntry (uQsel w) (l % 8))
  let (scale, es, sats) := encodeBlock ofmt ws f modes
  let m := accs.foldl (fun m a => m.or a.marks) ({} : Marks)
  let cause := ((accs.find? fun a => a.marks.v).getD {}).cause
  let voids := (accs.map fun a => List.replicate 8 a.marks.v).flatten
  let c := c.countSat (uQsel w) false (sats.zipWith (fun x v => x && !v) voids)
  let fr := c.frameAt (uFofs w)
  let n := fr.blk
  let c := ((List.range 4).zip (elemWords ofmt es)).foldl (fun c kv =>
    c.putOpr (uPdst w + kv.1) (4 + kv.1)
      { val := kv.2, marks := m.sat (satOf ofmt sats kv.1), bt := BitVec.ofNat 4 n, cause := cause }) c
  let o := c.opr' 31
  let sc : Opr := { val := BitVec.ofNat 64 (o.val.toNat / 2 ^ 8 + scale * 2 ^ 56), marks := o.marks.or m,
                    bt := BitVec.ofNat 4 (n + 16 - 7), cause := firstCause o.marks.v o.cause cause }
  (c.putOpr 31 4 sc).setFrame (uFofs w) { fr with blk := n + 1 }

/-- OFMT of the parameter group a microword names. -/
def Core.ofmt (c : Core) (w : Word64) : Nat := rqFmt (c.rqEntry (uQsel w) 0)

/-- Post op 1: a requantise, or a block encode where the entries name OFMT 4 to 6 (R107, R110, R128). -/
def Core.post1 (c : Core) (w : Word64) : Core := if 4 ≤ c.ofmt w then c.blockEncode w (c.ofmt w) else c.requantiseAcc w false

/-! ### Emits (R75, R82, R83) -/

/-- EMT 1 (R75, R119). -/
def Core.emitData (c : Core) (i : Issue) (w : Word64) : Core :=
  let o := c.seeOpr (uSreg w)
  c.emit i (uRte w) (uKeep w) (c.frameAt (uFofs w)) o.marks o.cause o.bt.toNat [o.val]

/-- A partial-sum pair (R59). -/
def partialPair (l : List Int) (k : Nat) : Word64 :=
  BitVec.ofNat 64 (ofSigned 32 (laneOf l (2 * k)) + ofSigned 32 (laneOf l (2 * k + 1)) * 2 ^ 32)

/-- EMT 2: lanes 0 and 1 first, one token per cycle (R59, R75, R82). -/
def Core.emitSums (c : Core) (i : Issue) (w : Word64) : Core :=
  let a := c.seeAcc (uSreg w)
  c.emit i (uRte w) (uKeep w) (c.frameAt (uFofs w)) a.marks a.cause 0 ([0, 1, 2, 3].map (partialPair a.lanes))

/-- A control template's local route: bits [58:56] of the template (log entry 23). -/
def templateRte (t : Word64) : Nat := bits t.toNat 56 3

/-- EMT 3. VOID goes in place of the template for a void frame, SKIP for a skipped one unless the template is VOID (R60, R75). -/
def Core.emitTemplate (c : Core) (i : Issue) (w : Word64) : Core :=
  let f := c.frameAt (uFofs w)
  let t := SMap.get 0 c.templates (uRte w)
  let kind := bits t.toNat 61 3
  if f.void then c.sendVoid i (templateRte t) f f.cause
  else if f.skip ∧ kind ≠ 5 then c.sendSkip i (templateRte t) f
  else if kind = 5 then c.sendVoid i (templateRte t) f (BitVec.ofNat 8 (bits t.toNat 16 8))
  else c.send 0 true (templateRte t) (ctlFlit i.epoch kind f.ftag.toNat (bits t.toNat 16 8))

/-- The bits of a decision record as a core emits it (R83, R294): accept bits and score from OPR[SREG], the frame tag and
the flags from the frame table and the marks; a skip gives a void record with CAUSE 0x08. -/
def Core.recordBits (c : Core) (w : Word64) : Word64 :=
  let o := c.seeOpr (uSreg w)
  let f := c.frameAt (uFofs w)
  let skip := f.skip || o.marks.k
  let void := f.void || o.marks.v || skip
  let cause : Byte := if f.void ∨ o.marks.v then f.voidCause o.cause else if skip then causeFormat else 0
  BitVec.ofNat 64 (bits o.val.toNat 0 24 + f.ftag.toNat * 2 ^ 24 + b2n void * 2 ^ 41 + b2n (o.marks.s || f.sat) * 2 ^ 43 +
    b2n f.stale * 2 ^ 44 + c.stream % 64 * 2 ^ 46 + cause.toNat * 2 ^ 52)

/-- EMT 5 (R83). -/
def Core.emitRecord (c : Core) (i : Issue) (w : Word64) : Core :=
  { c with recs := c.recs ++ [{ core := i.core, bits := c.recordBits w, epoch := i.epoch, cycle := i.cycle }] }

/-! ### The issue of a word (R79, R83, R84) -/

/-- The load of a word. -/
def Core.issueLoad (c : Core) (w : Word64) : Core :=
  if uLds w = 1 then c.loadFlit w else if uLds w = 2 then c.loadWord w false else if uLds w = 3 then c.loadSum w else c

/-- The engine step of a word. -/
def Core.issueStep (c : Core) (w : Word64) : Core :=
  if uEng w = 1 then c.macStep w false mac8Sum
  else if uEng w = 2 then c.macStep w false mac4Sum
  else if uEng w = 3 then (if uClr w ∧ c.lc0 = 0 then c.scaleStep w false else c.dataStep w false)
  else c

/-- The post op of a word. -/
def Core.issuePost (c : Core) (w : Word64) : Core :=
  if uPst w = 1 then c.post1 w
  else if uPst w = 2 then c.requantiseAcc w true
  else if uPst w = 3 then c.lookupInPlace w
  else if uPst w = 4 then c.mergeAdd w
  else if uPst w = 5 then c.requantiseMg w false
  else if uPst w = 6 then c.requantiseMg w true
  else c

/-- The emit of a word. -/
def Core.issueEmit (c : Core) (i : Issue) (w : Word64) : Core :=
  if uEmt w = 1 then c.emitData i w
  else if uEmt w = 2 then c.emitSums i w
  else if uEmt w = 3 then c.emitTemplate i w
  else if uEmt w = 4 then c.store w
  else if uEmt w = 5 then c.emitRecord i w
  else c

/-- A whole microword issues (R79, R83). -/
def Core.issueWord (c : Core) (i : Issue) (w : Word64) : Core := (((c.issueLoad w).issueStep w).issuePost w).issueEmit i w

/-- The next address and counters of a sequencer after the word at `pc` has issued (R84). -/
def Core.seqStep (c : Core) : Core :=
  let w := (SMap.get 0 c.micro c.pc).toNat
  let l0 := c.ctrl.loops.getD 0 {}
  let l1 := c.ctrl.loops.getD 1 {}
  let l2 := c.ctrl.loops.getD 2 {}
  let c := { c with running := !bit w 12 }
  let next := (c.pc + 1) % 256
  if bit w 13 ∧ c.lc0 ≠ l0.limit then { c with lc0 := c.lc0 + 1, pc := l0.start }
  else
    let c := if bit w 13 then { c with lc0 := 0 } else c
    if bit w 14 ∧ c.lc1 ≠ l1.limit then { c with lc1 := c.lc1 + 1, pc := l1.start }
    else
      let c := if bit w 14 then { c with lc1 := 0 } else c
      if bit w 15 ∧ c.lc2 ≠ l2.limit then { c with lc2 := c.lc2 + 1, pc := l2.start }
      else
        let c := if bit w 15 then { c with lc2 := 0 } else c
        { c with pc := next }

/-- `n` fabric cycles pass over the values and tokens on their way (R68, R73, R77, R83). -/
def Core.pass (c : Core) (n : Nat) : Core :=
  { c with oprOld := c.oprOld.pass n, accOld := c.accOld.pass n, mgOld := c.mgOld.pass n, actOld := c.actOld.pass n,
           out := c.out.map fun t => (t.1 - n, t.2), age := c.age + n, rest := if c.running then 0 else c.rest + n }

/-- One fabric cycle of a running body: a word issues, and the sequencer moves on. -/
def Core.cycle (c : Core) (i : Issue) : Core :=
  let c := ((c.issueWord i (SMap.get 0 c.micro c.pc)).seqStep).pass 1
  { c with rest := 0 }

/-- `n` fabric cycles of a core, the first of them reference cycle `t` (R79, R84). -/
def Core.run (p epoch : Nat) : Nat → Nat → Core → Core
  | 0, _, c => c
  | n + 1, t, c => if c.running then Core.run p epoch n (t + 1) (c.cycle { core := p, epoch := epoch, cycle := t }) else c.pass (n + 1)

end Sys2Proof.Machine
end

