-- ==== Sys2Proof/Machine/Sequencer.lean ====
section
/-! DEFINITION. The cores of the fabric while time passes: which cores run, the fabric edges they see (R29, R202, R203, R450),
and the tokens and records that leave them (R68, R83). Nothing but the fabric changes here; what a core has counted is
reported when it settles (Tokens.lean). -/

namespace Sys2Proof.Machine

/-! ### Physical numbers (R19, R151, R405) -/

/-- Physical cluster number: column + 8 × row + 64 × die (R405). -/
def physCluster (d row col : Nat) : Nat := col + 8 * row + 64 * d

/-- Fields of a PCID (R151). -/
def pcidPos (p : Nat) : Nat := p % 32
def pcidCluster (p : Nat) : Nat := physCluster (p / 2048 % 4) (p / 256 % 8) (p / 32 % 8)
def pcidDie (p : Nat) : Nat := p / 2048 % 4
/-- The PCID of a position, or of the spare (16), of a physical cluster. -/
def mkPcid (c pos : Nat) : Nat := pos + 32 * (c % 8) + 256 * (c / 8 % 8) + 2048 * (c / 64)

/-- The cluster-quad power domain 16d + q of a physical cluster (R19, R442): 2 × 2 clusters, row by row. -/
def quadOf (c : Nat) : Nat := 16 * (c / 64) + 4 * (c / 8 % 8 / 2) + c % 8 / 2

/-! ### Fabric edges -/

/-- Fabric edges of a die over the reference cycles [a, b): every second one is suppressed while it stretches (R29, R450). -/
def DieSt.edges (d : DieSt) (a b : Nat) : Nat :=
  match d.stretch with
  | none => b - a
  | some t => (b - a) - ((b - t + 1) / 2 - (a - t + 1) / 2)

/-- Edges suppressed so far in the episode of a die: every second one of the core clock (R450). -/
def DieSt.suppressed (d : DieSt) (cycle : Nat) : Nat := d.stretch.elim 0 fun t => (cycle - t + 1) / 2

/-- Lag of a die at a cycle (R29). -/
def DieSt.lagAt (d : DieSt) (cycle : Nat) : Nat := d.lag + d.suppressed cycle

/-- Fabric edges of a cluster quad that has `e` edges of the core clock from cycle `a` on: none in a skipped deep slot
(R203), `n` of every eight at step `n` (R202; their phase is log entry 26). -/
def QuadSt.edges (q : QuadSt) (a e : Nat) : Nat :=
  if q.skipped then 0 else (a % 8 + e) * q.step / 8 - a % 8 * q.step / 8

/-! ### Cores in the fabric -/

/-- The position a core serves: a home core its own, the spare the position it stands in (R134). -/
def Fabric.positionOf (f : Fabric) (p : Nat) : Option Nat :=
  let k := (SMap.get {} f.clusters (pcidCluster p)).standIn
  if pcidPos p < 16 then (if k = pcidPos p + 1 then none else some (pcidPos p))
  else if k = 0 then none
  else some (k - 1)

/-- A core takes part in the fabric: loaded, not fenced, and serving a position (R95, R134, R477). -/
def Fabric.alive (f : Fabric) (p : Nat) : Bool :=
  (SMap.get {} f.cores p).loaded && !SMap.get false f.fencedCores p && (f.positionOf p).isSome

/-- PCID of the position a core serves, which names its router (R134). -/
def Fabric.routerOf (f : Fabric) (p : Nat) : Nat := mkPcid (pcidCluster p) ((f.positionOf p).getD 0)

/-! ### Tokens and records leaving a core -/

/-- Emitted tokens whose three cycles are over, put into the queues of the router's local port while these hold fewer than
four flits (R63, R68; log entry 14). Gives the data queue, the control queue and the tokens that stay. -/
def placeOut : List (Nat × Bool × Tok) → List Tok → List Tok → List (Nat × Bool × Tok) →
    List Tok × List Tok × List (Nat × Bool × Tok)
  | [], qd, qc, kept => (qd, qc, kept)
  | t :: ts, qd, qc, kept =>
    let q := if t.2.1 then qc else qd
    if t.1 = 0 ∧ q.length < 4 ∧ ¬ kept.any (fun k => decide (k.2.1 = t.2.1)) then
      (if t.2.1 then placeOut ts qd (qc ++ [t.2.2]) kept else placeOut ts (qd ++ [t.2.2]) qc kept)
    else placeOut ts qd qc (kept ++ [t])

/-- What a core has ready leaves it: tokens into its router's local queues, records towards the decision ports. -/
def Fabric.release (f : Fabric) (p : Nat) : Fabric :=
  let c := SMap.get {} f.cores p
  let k := (f.routerOf p * 5 + 4) * 2
  let x := placeOut c.out (SMap.get [] f.routerQ k) (SMap.get [] f.routerQ (k + 1)) []
  { f with routerQ := SMap.set [] (SMap.set [] f.routerQ k x.1) (k + 1) x.2.1,
           recordsOut := f.recordsOut ++ c.recs,
           cores := SMap.set {} f.cores p { c with out := x.2.2, recs := [] } }

/-! ### Injection (R15, R16, R51) -/

/-- Key of a router queue: (PCID × 5 + port) × 2 + channel. -/
def rKey (p port : Nat) (ctrl : Bool) : Nat := (p * 5 + port) * 2 + b2n ctrl

/-- Tokens enter the edge routers' queues while these hold fewer than four flits (R63); the others stay. -/
def Fabric.enter (f : Fabric) : List (Nat × Bool × Tok) → Fabric × List (Nat × Bool × Tok)
  | [] => (f, [])
  | t :: ts =>
    let q := SMap.get [] f.routerQ (2 * t.1 + b2n t.2.1)
    if q.length < 4 then
      Fabric.enter { f with routerQ := SMap.set [] f.routerQ (2 * t.1 + b2n t.2.1) (q ++ [t.2.2]) } ts
    else
      let r := Fabric.enter f ts
      (r.1, t :: r.2)

/-- The injection buffer of a die at a cycle: entries whose cycle has come, the lag of the die included, put their tokens into
the fabric, oldest first; an entry with none left is gone. -/
def Fabric.injectAt (lag now : Nat) : Fabric → List Inject → Fabric × List Inject
  | f, [] => (f, [])
  | f, x :: xs =>
    if now < x.cycle + lag then (f, x :: xs)
    else
      let e := f.enter x.left
      let r := Fabric.injectAt lag now e.1 xs
      (r.1, if e.2 = [] then r.2 else { x with left := e.2 } :: r.2)

/-- The injection buffers of every die. -/
def Fabric.injectDue (f : Fabric) (dies : SMap DieSt) (now : Nat) : Fabric :=
  f.inject.foldl (fun f x =>
    let r := Fabric.injectAt ((SMap.get {} dies x.1).lagAt now) now f x.2
    { r.1 with inject := SMap.set [] r.1.inject x.1 r.2 }) f

/-- The cores of the fabric over the reference cycles [a, b): running bodies issue on, and values, tokens and records move
(R79, R84), and tokens enter from the injection buffers. -/
def Fabric.advance (f : Fabric) (dies : SMap DieSt) (quads : SMap QuadSt) (epoch a b : Nat) : Fabric :=
  let run (p : Nat) (c : Core) : Core :=
    if f.alive p then
      let e := (SMap.get {} dies (p / 2048 % 4)).edges a b
      let n := (SMap.get {} quads (quadOf (pcidCluster p))).edges a e
      Core.run p epoch n (b - n) c
    else c
  let busy := f.cores.filter fun x => decide (x.2.out ≠ [] ∨ x.2.running)
  ((busy.map Prod.fst).foldl Fabric.release { f with cores := SMap.mapVals {} run f.cores }).injectDue dies b

end Sys2Proof.Machine
end

