-- ==== Sys2Proof/Machine/Ops.lean ====
section
/-! DEFINITION. The named operations the meanings share: time, free draws, units by number, the HBM and its map, fuses and
geometry, the event ring and its signals. -/

namespace Sys2Proof.Machine

/-- The answer of a step that cannot fail. -/
abbrev Answer := Host.Outcome State Fault Refusal

/-! ### Time (R8, R24, R30, R354) -/

/-- Units of `Clock.fine` in one nanosecond: a common multiple of the core clocks R434 allows, in 25 MHz steps. -/
def fineScale : Nat := 5354228880

/-- Length of one cycle at a core clock in MHz, in units of `Clock.fine` (R8). -/
def cycleFine (mhz : Nat) : Nat := 1000 * fineScale / mhz

/-- The current reference cycle. -/
def State.now (s : State) : Nat := s.clock.cycle

/-- The core clock in force (R434). -/
def State.mhz (s : State) : Nat := s.rd OD.CORE_MHZ_RUN

/-- TCOUNT, whole nanoseconds since PLL lock (R354). -/
def State.tcount (s : State) : Nat := s.clock.fine / fineScale % 2 ^ 64

/-- Time passes to cycle `c`, never backwards; nothing passes before the clocks run (R354). Bodies run on (R79). -/
def State.advanceTo (s : State) (c : Nat) : State :=
  if s.clock.running ∧ s.clock.cycle < c then
    { s with clock.cycle := c, clock.fine := s.clock.fine + (c - s.clock.cycle) * cycleFine s.mhz,
             fabric := s.fabric.advance s.power.dies s.deep.quads (s.rd OD.EPOCH) s.clock.cycle c }
  else s

/-- TICKDIV in force (R30). -/
def State.tickdiv (s : State) : Nat := s.rd OD.TICKDIV

/-- The Drone count (R30). -/
def State.drone (s : State) : Nat := s.clock.drone

/-- The tick number used in results: the replay count while a replay runs, the Drone count otherwise (R334). -/
def State.tickNo (s : State) : Nat := if s.tape.replaying then s.tape.count else s.clock.drone

/-- The tick number of the boundary about to come (log entry 2). -/
def State.nextTick (s : State) : Nat := (s.tickNo + 1) % 2 ^ 64

/-- The Drone count of the boundary about to come. -/
def State.nextDrone (s : State) : Nat := (s.drone + 1) % 2 ^ 64

/-- A value the spec leaves open, and the state with the draw counted (log entry 6). -/
def State.draw (s : State) : Nat × State :=
  (Config.freeNat s.freeCtr, { s with freeCtr := s.freeCtr + 1 })

/-! ### Units by number -/

def State.core (s : State) (p : Nat) : Core := SMap.get {} s.fabric.cores p
def State.setCore (s : State) (p : Nat) (c : Core) : State :=
  { s with fabric.cores := SMap.set {} s.fabric.cores p c }
def State.updCore (s : State) (p : Nat) (f : Core → Core) : State := s.setCore p (f (s.core p))

def State.cluster (s : State) (c : Nat) : Cluster := SMap.get {} s.fabric.clusters c
def State.setCluster (s : State) (n : Nat) (c : Cluster) : State :=
  { s with fabric.clusters := SMap.set {} s.fabric.clusters n c }
def State.updCluster (s : State) (n : Nat) (f : Cluster → Cluster) : State := s.setCluster n (f (s.cluster n))

def State.ing (s : State) (n : Nat) : Ingest := SMap.get {} s.ingest n
def State.updIng (s : State) (n : Nat) (f : Ingest → Ingest) : State :=
  { s with ingest := SMap.upd {} s.ingest n f }

def State.dec (s : State) (n : Nat) : Decide := SMap.get {} s.decisions n
def State.updDec (s : State) (n : Nat) (f : Decide → Decide) : State :=
  { s with decisions := SMap.upd {} s.decisions n f }

def State.lane (s : State) (n : Nat) : Lane := SMap.get {} s.lanes n
def State.updLane (s : State) (n : Nat) (f : Lane → Lane) : State :=
  { s with lanes := SMap.upd {} s.lanes n f }

def State.cap (s : State) (n : Nat) : Capt := SMap.get {} s.capt n
def State.updCap (s : State) (n : Nat) (f : Capt → Capt) : State :=
  { s with capt := SMap.upd {} s.capt n f }

def State.grp (s : State) (g : Nat) : Grp := SMap.get {} s.groups g
def State.updGrp (s : State) (g : Nat) (f : Grp → Grp) : State :=
  { s with groups := SMap.upd {} s.groups g f }

def State.die (s : State) (d : Nat) : DieSt := SMap.get {} s.power.dies d
def State.updDie (s : State) (d : Nat) (f : DieSt → DieSt) : State :=
  { s with power.dies := SMap.upd {} s.power.dies d f }

/-- Lag of a die at a cycle (R29). -/
def State.lagOf (s : State) (d cycle : Nat) : Nat := (s.die d).lagAt cycle

def State.port (s : State) (p : Nat) : GPort := SMap.get {} s.girder.ports p
def State.updPort (s : State) (p : Nat) (f : GPort → GPort) : State :=
  { s with girder.ports := SMap.upd {} s.girder.ports p f }

/-! ### The HBM (R194, R197, R198) -/

/-- What an unlisted address reads as: zero, or a free byte in a range whose contents are undefined (log entry 5). -/
def Hbm.unlisted (h : Hbm) (a : Nat) : Byte :=
  match h.undef.find? (fun r => decide (r.1 ≤ a ∧ a < r.2.1)) with
  | some r => Config.freeByte r.2.2 a
  | none => 0

/-- An address lies in a range whose contents are undefined. -/
def Hbm.isUndef (h : Hbm) (a : Nat) : Bool :=
  h.undef.any (fun r => decide (r.1 ≤ a ∧ a < r.2.1))

/-- One byte of HBM. -/
def Hbm.read (h : Hbm) (a : Nat) : Byte := SMap.get (h.unlisted a) h.cells a

/-- One byte written. -/
def Hbm.write (h : Hbm) (a : Nat) (b : Byte) : Hbm :=
  if h.isUndef a then { h with cells := SMap.put h.cells a b }
  else { h with cells := SMap.set 0 h.cells a b }

/-- Bytes written from an address on. -/
def Hbm.writes (h : Hbm) (a : Nat) : List Byte → Hbm
  | [] => h
  | b :: bs => Hbm.writes (h.write a b) (a + 1) bs

/-- Bytes read from an address on. -/
def Hbm.reads (h : Hbm) (a : Nat) : Nat → List Byte
  | 0 => []
  | n + 1 => h.read a :: Hbm.reads h (a + 1) n

/-- The contents of [lo, hi) become undefined: listed bytes there are dropped (R198, R461). -/
def Hbm.undefine (h : Hbm) (lo hi draw : Nat) : Hbm :=
  { cells := SMap.dropRange h.cells lo hi, undef := (lo, hi, draw) :: h.undef }

/-- Canonical form: addresses strictly rising, and no entry equal to what an unlisted address reads as, where that is
known. -/
def Hbm.wfCells (h : Hbm) : Nat → List Host.Cell → Bool
  | _, [] => true
  | lo, (a, b) :: m => decide (lo ≤ a) && (h.isUndef a || decide (b ≠ 0)) && Hbm.wfCells h (a + 1) m

/-- The HBM's canonical form. -/
def Hbm.wf (h : Hbm) : Bool := h.wfCells 0 h.cells

def State.hbmWrites (s : State) (a : Nat) (bs : List Byte) : State := { s with hbm := s.hbm.writes a bs }

/-- Bytes in a GiB. -/
def giB : Nat := 2 ^ 30

/-- HBM_SIZE: 96 GiB (R26), 0 while HBM is out of service (R415). -/
def State.hbmSize (s : State) : Nat := if s.boot.hbmFailed then 0 else 96 * giB

/-- Base of a slot's region (R197). -/
def slotBase (slot : Nat) : Nat := (1 + slot) * giB
/-- Base of the history region (R197). -/
def histBase : Nat := 3 * giB
/-- Base of the capture region (R197). -/
def captBase : Nat := 12 * giB
/-- Sizes of the three sizable regions (R198). -/
def State.captSize (s : State) : Nat := s.rd OD.CAPT_GIB * giB
def State.replaySize (s : State) : Nat := s.rd OD.REPLAY_GIB * giB
def State.scratchSize (s : State) : Nat := s.rd OD.SCRATCH_GIB * giB
/-- They follow each other from 12 GiB (R198). -/
def State.replayBase (s : State) : Nat := captBase + s.captSize
def State.scratchBase (s : State) : Nat := s.replayBase + s.replaySize
def State.freeBase (s : State) : Nat := s.scratchBase + s.scratchSize

/-! ### Fuses and geometry (R2, R149 to R151, R405) -/

/-- A field of the fuse array as sensed, with the OTP bits programmed since (R405, R425). -/
def State.fuse (s : State) (lo len : Nat) : Nat := bits (s.boot.fuses.toNat ||| s.boot.otp.toNat) lo len

/-- Fused grade: 1 A4096, 2 A3584. -/
def State.grade (s : State) : Nat := s.fuse 104 2
/-- Logical cluster rows of a die (R149). -/
def State.dieRows (s : State) : Nat := if s.grade = 2 then 7 else 8
/-- The disabled row of a die, if it has one (R150). -/
def State.disRow (s : State) (d : Nat) : Option Nat :=
  if s.grade = 2 then some (s.fuse (144 + 4 * d) 3) else none

/-- Physical row of a logical cluster row (R151). -/
def State.physRow (s : State) (d lr : Nat) : Nat :=
  match s.disRow d with
  | some r => if r ≤ lr then lr + 1 else lr
  | none => lr

/-- The physical cluster of logical cluster (X, Y), if the grade has it (R151, R153). -/
def State.clusterAt (s : State) (X Y : Nat) : Option Nat :=
  if X < 16 ∧ Y < 2 * s.dieRows then
    let d := X / 8 + 2 * (Y / s.dieRows)
    some (physCluster d (s.physRow d (Y % s.dieRows)) (X % 8))
  else none

/-- The logical cluster number 16Y + X of a physical cluster, if it carries a logical coordinate (R10, R153). -/
def State.logicalCluster (s : State) (c : Nat) : Option Nat :=
  let d := c / 64
  let row := c / 8 % 8
  let lr := match s.disRow d with
    | some r => if row = r then none else some (if r < row then row - 1 else row)
    | none => some row
  lr.map fun l => 16 * (l + s.dieRows * (d / 2)) + (c % 8 + 8 * (d % 2))

/-- The core that serves a position of a physical cluster (R134, R151). -/
def State.serving (s : State) (c pos : Nat) : Nat :=
  if (s.cluster c).standIn = pos + 1 then mkPcid c 16 else mkPcid c pos

/-- The PCID serving a logical core (R151). -/
def State.pcidOf (s : State) (x y : Nat) : Option Nat :=
  (s.clusterAt (x / 4) (y / 4)).map fun c => s.serving c (4 * (y % 4) + x % 4)

/-- The position a core serves (R134). -/
def State.positionOf (s : State) (p : Nat) : Option Nat := s.fabric.positionOf p

/-- The logical coordinate (x, y) of a position of a physical cluster. -/
def State.logicalOf (s : State) (c pos : Nat) : Option (Nat × Nat) :=
  (s.logicalCluster c).map fun l => (4 * (l % 16) + pos % 4, 4 * (l / 16) + pos / 4)

/-- Home die of a stream: the die of its lanes (R12). -/
def State.homeDie (s : State) (st : Nat) : Nat := s.rd OD.ST_FIRST_LANE st / 16

/-- A stream is fed when its bond has lanes (R279). -/
def State.fed (s : State) (st : Nat) : Bool := s.rd OD.ST_NLANES st ≠ 0

/-- The 64 streams. -/
def streams : List Nat := List.range 64

/-- The streams of a 64-bit mask. -/
def maskStreams (m : Nat) : List Nat := streams.filter (bit m)

/-! ### The event ring (R394 to R396) -/

/-- One word of the MSI-X table. -/
def State.msixWord (s : State) (w : Nat) : Nat := SMap.get (if w % 4 = 3 then 1 else 0) s.host.msix w

/-- A vector's signal leaves, or pends while the vector is masked (R397). -/
def State.sendSignal (s : State) (v : Nat) : State :=
  if bit (s.msixWord (4 * v + 3)) 0 then { s with host.pba := s.host.pba ||| 2 ^ v }
  else { s with host.signals := SMap.upd 0 s.host.signals v (· + 1) }

/-- A vector is signalled; EVT_MOD spaces its signals (R395, R396). -/
def State.signal (s : State) (v : Nat) : State :=
  if s.host.modUs = 0 then s.sendSignal v
  else if s.host.spacing.contains v then
    { s with host.heldBack := if s.host.heldBack.contains v then s.host.heldBack else v :: s.host.heldBack }
  else
    let s := s.sendSignal v
    { s with host.spacing := v :: s.host.spacing }

/-- Event class of a code (R396, R468). -/
def eventClass (code : Nat) : Nat := code / 256

/-- The vector of an event class (R396). -/
def State.classVector (s : State) (cls : Nat) : Nat := s.rd OD.VEC_MAP cls

/-- The ring slots not yet consumed, oldest first. -/
def State.unconsumed (s : State) : List Nat :=
  (List.range ((s.host.head + 256 - s.host.tail) % 256)).map fun i => (s.host.tail + i) % 256

/-- The entry an event coalesces with (R395). -/
def State.coalesced (s : State) (code loc : Nat) : Option Nat :=
  s.unconsumed.find? fun i =>
    match SMap.get none s.host.ring i with
    | some e => decide (e.code = code ∧ e.loc = loc)
    | none => false

/-- An event is entered in the ring, coalesced or lost, and its class signalled (R394 to R396). -/
def State.announce (s : State) (code loc detail : Nat) (recorded : Bool) : State :=
  match s.coalesced code loc with
  | some i =>
    let s := { s with host.ring := SMap.upd none s.host.ring i (Option.map fun e =>
      { e with count := min (e.count + 1) (2 ^ 32 - 1), flags := e.flags ||| 2 ||| b2n recorded }) }
    s.signal (s.classVector (eventClass code))
  | none =>
    if (s.host.head + 1) % 256 = s.host.tail then
      let s := { s with host.lost := min (s.host.lost + 1) (2 ^ 32 - 1), host.lostMark := true }
      s.inc OD.EVT_LOST_TOTAL 0
    else
      let e : Evt := { code := code, flags := b2n recorded + 4 * b2n s.host.lostMark, drone := s.drone % 2 ^ 48,
                       tcount := s.tcount, loc := loc, count := 1, detail := detail }
      let s := { s with host.ring := SMap.set none s.host.ring s.host.head (some e),
                        host.head := (s.host.head + 1) % 256, host.lostMark := false }
      s.signal (s.classVector (eventClass code))

/-! ### Small helpers on lists -/

/-- The first `n` elements of a list, padded with a default. -/
def padTo {α : Type} (d : α) : Nat → List α → List α
  | 0, _ => []
  | n + 1, [] => d :: padTo d n []
  | n + 1, x :: xs => x :: padTo d n xs

/-- Elements of a list put in order by a key, keeping the order of equal keys. -/
def insertBy {α : Type} (key : α → Nat) (x : α) : List α → List α
  | [] => [x]
  | y :: ys => if key x < key y then x :: y :: ys else y :: insertBy key x ys

def sortBy {α : Type} (key : α → Nat) (l : List α) : List α :=
  l.foldl (fun acc x => insertBy key x acc) []

/-- Bytes of a string padded with zeros to a multiple of `k` (R329, R381). -/
def padMult (k : Nat) (bs : List Byte) : List Byte :=
  bs ++ List.replicate ((k - bs.length % k) % k) 0

end Sys2Proof.Machine
end

