-- ==== Sys2Proof/Machine/Align.lean ====
section
/-! DEFINITION. The bytes of Girder messages that several meanings send (R345, R356), and the alignment of the Drone count
and CYCLE64 to the manager's (R357, R359). -/

namespace Sys2Proof

/-- Payload of a JOIN_REQ (R345). -/
def JoinInfo.bytes (i : JoinInfo) : List Byte :=
  leBytes 8 i.serial ++ leBytes 1 i.grade ++ leBytes 1 i.stepping ++ leBytes 1 i.latClass ++
    leBytes 1 (b2n i.fwVerified + 2 * b2n i.pcieUp) ++ leBytes 2 i.held

/-- A linear count as TIME96 (R363). -/
def time96 (l : Int) : Nat :=
  let n := l.toNat
  n / 65536 / 1000000000 % 2 ^ 48 * 2 ^ 48 + n / 65536 % 1000000000 * 65536 + n % 65536

/-- Payload of a SYNC (R356). -/
def SyncMsg.bytes (m : SyncMsg) (corr : Int) : List Byte :=
  leBytes 8 (ofSigned 64 corr) ++ leBytes 12 (time96 m.origin) ++ leBytes 8 m.cyc ++ leBytes 2 m.cycFrac ++ leBytes 8 m.drone ++
    leBytes 4 m.tphase ++ leBytes 4 m.tickdiv ++ leBytes 4 (ofSigned 32 m.mgrRate) ++ leBytes 1 m.syncLog2 ++
    leBytes 1 (b2n m.incMode)

end Sys2Proof

namespace Sys2Proof.Machine

/-- Own CYCLE64 at a TCOUNT instant, in 2^-16 cycle (R354). -/
def State.cycleAt (s : State) (t16 : Int) : Int :=
  (s.clock.cycle : Int) * 65536 + (t16 * fineScale - (s.clock.fine : Int) * 65536) / (cycleFine s.mhz : Nat)

/-- The manager's cycle at an ingress, in 2^-16 cycle (R357). -/
def State.managerCycle (s : State) (m : SyncMsg) (k : Int) : Int :=
  (m.cyc : Int) * 65536 + m.cycFrac + k * s.mhz / 1000

/-! ### CYCLE64 stepped (R29, R357) -/

/-- A cycle on the count after its step. -/
def shiftBy (d : Int) (c : Nat) : Nat := ((c : Int) + d).toNat

/-- The same instants on the stepped count: a die's episode and its last end. -/
def DieSt.shift (d : Int) (x : DieSt) : DieSt :=
  { x with stretch := x.stretch.map (shiftBy d), lastEnd := x.lastEnd.map (shiftBy d) }

/-- A decision unit's. -/
def Decide.shift (d : Int) (x : Decide) : Decide :=
  { x with flights := x.flights.map fun f => { f with bnd := shiftBy d f.bnd },
           buffer := x.buffer.map (fun b => (b.1, shiftBy d b.2)),
           released := x.released.map (fun r => (r.1, shiftBy d r.2.1, shiftBy d r.2.2)),
           failsafe := x.failsafe.map (fun f => (shiftBy d f.1, f.2)) }

/-- A pin's. -/
def PinPart.shift (d : Int) (x : PinPart) : PinPart :=
  { x with levels := x.levels.map (fun l => (shiftBy d l.1, l.2)),
           pulses := x.pulses.map (fun l => (shiftBy d l.1, shiftBy d l.2)) }

/-- A repair window's. -/
def Repair.shift (d : Int) (r : Repair) : Repair :=
  { r with detected := shiftBy d r.detected, loaded := r.loaded.map (shiftBy d) }

/-- An error unit's. -/
def ErrUnit.shift (d : Int) (u : ErrUnit) : ErrUnit :=
  { u with primary := u.primary.map fun r => { r with cycle := shiftBy d r.cycle } }

/-- A data lane's. -/
def Lane.shift (d : Int) (x : Lane) : Lane :=
  { x with leftOff := shiftBy d x.leftOff, lastBurst := shiftBy d x.lastBurst,
           burst := x.burst.map fun b => { b with deadline := shiftBy d b.deadline } }

/-- The fault handling's. -/
def Faults.shift (d : Int) (f : Faults) : Faults :=
  { f with safeAt := shiftBy d f.safeAt, repairs := f.repairs.map (Repair.shift d),
           pluck := f.pluck.map (fun p => (shiftBy d p.1, p.2)), lastLatch := f.lastLatch.map (shiftBy d),
           units := SMap.mapVals {} (fun _ u => u.shift d) f.units }

/-- CYCLE64 steps by `d`: every instant that the device remembers keeps its distance from the present. -/
def State.stepCycle (s : State) (d : Int) : State :=
  { s with clock.cycle := shiftBy d s.clock.cycle,
           power.dies := SMap.mapVals {} (fun _ x => x.shift d) s.power.dies,
           power.boost := s.power.boost.map (fun b => (b.1, shiftBy d b.2)),
           decisions := SMap.mapVals {} (fun _ x => x.shift d) s.decisions,
           pins := SMap.mapVals {} (fun _ x => x.shift d) s.pins,
           faults := s.faults.shift d,
           act.since := shiftBy d s.act.since, act.ramp0 := shiftBy d s.act.ramp0, act.sweepAt := s.act.sweepAt.map (shiftBy d),
           deep.start := shiftBy d s.deep.start, deep.lastWindow := shiftBy d s.deep.lastWindow,
           deep.held := s.deep.held.map (fun h => (shiftBy d h.1, h.2)),
           lanes := SMap.mapVals {} (fun _ x => x.shift d) s.lanes,
           clock.tickinSeen := s.clock.tickinSeen.map (shiftBy d), clock.tickinWait := s.clock.tickinWait.map (shiftBy d),
           girder.holdover := s.girder.holdover.map (shiftBy d) }

/-- DRONE_ALIGN: CYCLE64, the Drone count and the next boundary become the manager's (R357). -/
def State.droneAlign (s : State) (m : SyncMsg) (ti k : Int) : State :=
  let delta := rnd (s.managerCycle m k - s.cycleAt ti) 16 false
  let cyc := ((s.clock.cycle : Int) + delta).toNat
  let ph := m.tphase + (cyc - m.cyc)
  let n := if m.tickdiv = 0 then 0 else ph / m.tickdiv
  let s := { s.stepCycle delta with clock.cycle := cyc, clock.drone := (m.drone + n) % 2 ^ 64, clock.bnd := m.cyc - m.tphase + m.tickdiv * n,
                                    clock.short := 0 }
  s.wr OD.ALIGN_STATUS 0 1

/-- A member realigns where its alignment was off, or the core clock has changed, at the epoch switch of a Damp (R359,
R434). -/
def State.realign (s : State) (clockChanged : Bool) : State :=
  match s.girder.lastSync with
  | some (m, ti, k) =>
    if s.rd OD.ROLE = 1 ∧ s.rd OD.GIRDER_STATE = 5 ∧ (clockChanged ∨ bit (s.rd OD.ALIGN_STATUS) 1) then s.droneAlign m ti k else s
  | none => s

end Sys2Proof.Machine
end

