-- ==== Sys2Proof/Machine/Fillers.lean ====
section
/-! DEFINITION. The transmit side of a data lane while time passes: its unit rate (R250, R261, R270) and the filler units it
inserts (R256). -/

namespace Sys2Proof.Machine

/-! ### Unit rate -/

/-- A row of R270: coding, four times m, lowest core clock, bits of a unit. -/
structure LockRow where
  coding : Nat
  m4 : Nat
  low : Nat
  unit : Nat
  deriving DecidableEq, Repr

def lockRow (lock : Nat) : LockRow :=
  if lock = 1 then ⟨1, 1, 500, 10⟩ else if lock = 2 then ⟨1, 2, 300, 10⟩ else if lock = 3 then ⟨1, 4, 300, 10⟩
  else if lock = 4 then ⟨1, 8, 300, 10⟩ else if lock = 5 then ⟨2, 1, 300, 66⟩ else ⟨3, 4, 400, 66⟩

/-- TX_RATE as read under a lock, in kb/s (R270). -/
def lockRate (lock mhz : Nat) : Nat := (lockRow lock).unit * (lockRow lock).m4 * mhz * 1000 / 4

/-- The lane's transmit side codes 64B/66B. -/
def State.txBlocks (s : State) (l : Nat) : Bool := decide (2 ≤ s.rd OD.TX_CODING (l / 4))

/-- Line rate of a lane's transmit side, in kb/s. -/
def State.txRate (s : State) (l : Nat) : Nat :=
  if s.rd OD.TX_LOCK (l / 4) = 0 then s.rd OD.TX_RATE (l / 4) else lockRate (s.rd OD.TX_LOCK (l / 4)) s.mhz

/-- Units that a lane has time for in a length of time: of 10 or 66 bits, and 514 of every 544 bits with FEC (R250, R261). -/
def State.unitsIn (s : State) (l fine : Nat) : Nat :=
  let share := if s.rd OD.TX_FEC (l / 4) = 1 then 514 else 544
  fine * s.txRate l * share / (fineScale * 1000000 * (if s.txBlocks l then 66 else 10) * 544)

/-- Units a lane has had time for since its count began. -/
def State.txUnits (s : State) (l : Nat) : Nat := s.unitsIn l (s.clock.fine - (s.lane l).fillFrom)

/-! ### Fillers (R256; log entry 63) -/

/-- Units of a filler: an idle block, or a skip set of two code groups. -/
def State.fillUnit (s : State) (l : Nat) : Nat := if s.txBlocks l then 1 else 2

/-- Every unit for which a lane in DATA had nothing else to send was a filler. -/
def State.fillTo (s : State) (l : Nat) : State :=
  let x := s.lane l
  let u := s.txUnits l
  if s.rd OD.TX_STATE l = 7 ∧ x.fillSent < u then
    let run := if u < x.fillSent + s.fillUnit l then x.fillRun else 0
    (s.updLane l fun x => { x with fillSent := u, fillRun := run }).inc OD.FILL_INS l (u - x.fillSent)
  else s

/-- A burst of `k` units goes behind what the lane has still to send, with a filler at least once in every 4,096 units. -/
def State.sendUnits (s : State) (l k : Nat) : State :=
  let s := s.fillTo l
  let f := s.fillUnit l
  let n := (s.lane l).fillRun + k
  let ins := f * (n / (4096 - f))
  let s := s.updLane l fun x => { x with fillSent := x.fillSent + k + ins, fillRun := n % (4096 - f) }
  if ins = 0 then s else s.inc OD.FILL_INS l ins

/-- Units of a burst of `n` bytes: a marker before them in 8b/10b; eight bytes to a block, the marker block with seven, in
64B/66B (R268). -/
def State.sendBurst (s : State) (l : Nat) (w : List Byte) : State :=
  s.sendUnits l (if s.txBlocks l then (w.length + 1) / 8 else w.length + 1)

/-- The count of a lane starts again from now, at a rate that may have changed: what has still to be sent stays. -/
def State.fillRebase (s : State) (l : Nat) : State :=
  let s := s.fillTo l
  let u := s.txUnits l
  s.updLane l fun x => { x with fillFrom := s.clock.fine, fillSent := x.fillSent - u }

/-- Every lane. -/
def State.fillAll (s : State) : State := (List.range 64).foldl State.fillTo s

/-- A transmit lane enters a state (R276). -/
def State.txTo (s : State) (l st : Nat) : State :=
  let s := (s.fillTo l).wr OD.TX_STATE l st
  s.updLane l fun x => { x with fillFrom := s.clock.fine, fillSent := 0, fillRun := 0 }

end Sys2Proof.Machine
end

