-- ==== Sys2Proof/Machine/Content.lean ====
section
/-! DEFINITION. The content of an image as the loader reads it: sections with a layout in the spec decoded from their bytes
(R82, R87, R105, R137), what an image loads into a core and a cluster (R164, R179), and the rules that the loader checks on
content (R174): CODE (R64, R82 to R90, R99, R104, R106, R123, R130, R161, R199, R200, R207, R212, R222, R226, R228), SCHEDULE
(R39, R139, R144), LATENCY (R44, R148) and REDUCTION (R116, R117). -/

namespace Sys2Proof

/-- A table built from a list of keys and values. -/
def SMap.ofList {α : Type} [DecidableEq α] (d : α) (l : List (Nat × α)) : SMap α :=
  l.foldl (fun m p => SMap.set d m p.1 p.2) []

/-- The little-endian numbers of `n` bytes each that a byte string holds (R7, R160). -/
def leWords (n : Nat) : Nat → List Byte → List Nat
  | 0, _ => []
  | k + 1, bs => leNat (bs.take n) :: leWords n k (bs.drop n)

/-- The listed values of a list that differ from zero, with their places. -/
def nonZero {α : Type} [DecidableEq α] (z : α) (l : List α) : List (Nat × α) :=
  ((List.range l.length).zip l).filter fun p => decide (p.2 ≠ z)

/-! ### Sections read from bytes (R164) -/

/-- MICROCODE: 256 words of 64 bits (R82). -/
def microOf (bs : List Byte) : List Word64 := (leWords 8 256 bs).map (BitVec.ofNat 64)

/-- REQUANT: 64 entries of 128 bits (R105). -/
def reqOf (bs : List Byte) : List (Nat × BitVec 128) := nonZero 0 ((leWords 16 64 bs).map (BitVec.ofNat 128))

/-- LOOKUP: 256 points of 16 bits (R87). -/
def lutOf (bs : List Byte) : List (Nat × Int) := nonZero 0 ((leWords 2 256 bs).map (toSigned 16))

/-- WEIGHTS: the 32 KiB of a weight SRAM, or one image of an adaptable pair, which goes to both banks (R76, R227). -/
def weightsOf (bs : List Byte) : List (Nat × Byte) :=
  nonZero 0 (if bs.length = 16384 then bs ++ bs else bs)

/-- DECK: 64 entries of 64 bits (R137). -/
def deckOf (bs : List Byte) : List (Nat × Nat) := nonZero 0 (leWords 8 64 bs)

/-- Baseline master of a weight (R227). -/
def AdaptCfg.base (c : AdaptCfg) (idx : Nat) : Int := SMap.get 0 c.baseline idx

end Sys2Proof

namespace Sys2Proof.Machine

/-! ### What an image loads (R164, R179) -/

/-- A core at zero state; what it remembers of its memory and link errors and the clamps it has not yet reported stay (R78, R94,
R111). -/
def Core.blank (c : Core) : Core := { weightFail := c.weightFail, routeFault := c.routeFault, satPend := c.satPend, rep := c.rep }

/-- What an image loads into a core. -/
def Core.load (c : Core) (i : CoreImage) : Core :=
  { c.blank with
    loaded := true, program := i.program, micro := SMap.putRange 0 [] 0 i.micro, ctrl := i.ctrl, req := SMap.ofList 0 i.req,
    lut := SMap.ofList 0 i.lut, weights := SMap.ofList 0 i.weights, routes := SMap.ofList 0 i.routes,
    templates := SMap.putRange 0 [] 0 i.templates }

/-- A cluster with its tables and memory cleared. -/
def Cluster.blank (k : Cluster) : Cluster :=
  { k with outbound := [], inbound := [], deck := [], mem := [], wr := [], truss := [] }

/-- A cluster-memory word from its 71 bits: data, block tag, M, V, K. -/
def deckWordOf (n : Nat) : DeckWord :=
  { data := BitVec.ofNat 64 n, bt := BitVec.ofNat 4 (n / 2 ^ 64), m := bit n 68, v := bit n 69, k := bit n 70 }

/-- What an image loads into a cluster. -/
def Cluster.load (k : Cluster) (i : ClusterImage) : Cluster :=
  { k with outbound := SMap.ofList 0 i.outbound, inbound := SMap.ofList 0 i.inbound, deck := SMap.ofList 0 i.deck,
           mem := SMap.ofList {} (i.mem.map fun p => (p.1, deckWordOf p.2)), truss := SMap.ofList 0 i.truss }

/-! ### The words a body issues (R79, R84) -/

/-- A word as a body issues it: the word, its registers and tile under the loop counters, and whether CLR acts. -/
structure Issued where
  w : Word64
  opr : Nat
  acc : Nat
  tile : Nat
  clear : Bool
  deriving DecidableEq, Repr

/-- The words a body issues from the core's present address on, at most `n` of them. -/
def Core.trace : Nat → Core → List Issued
  | 0, _ => []
  | n + 1, c =>
    let w := SMap.get 0 c.micro c.pc
    { w := w, opr := c.stepOpr w, acc := c.stepAcc w, tile := c.agAddr (uWag w) 512, clear := uClr w && decide (c.lc0 = 0) } ::
      (if bit w.toNat 12 then [] else Core.trace n c.seqStep)

end Sys2Proof.Machine

namespace Sys2Proof

open Sys2Proof.Machine

/-- Frame entries that a core's steering mode uses (R89). -/
def CoreCtrl.usedEntries (c : CoreCtrl) : List Nat :=
  let main := match c.mode with
    | .pass => c.entries.take (max 1 c.phaseN)
    | .select => c.entries.take 4
    | .merge => c.entries.take 1
  main ++ c.skipEntry.toList

/-- The words of every body of a core image; a body is followed for 65,536 words (log entry 9). -/
def CoreImage.bodies (i : CoreImage) : List (List Issued) :=
  if i.program then
    i.ctrl.usedEntries.map fun e => Core.trace 65536 { (({} : Core).load i) with pc := e }
  else []

/-- A property of every word with the words that follow it in its body. -/
def withTail (p : Issued → List Issued → Bool) : List Issued → Bool
  | [] => true
  | x :: xs => p x xs && withTail p xs

/-! ### CODE: microcode (R82, R88) -/

/-- No reserved code or field, and KEEP on EMT 1 and EMT 2 only (R75, R82). -/
def wordOk (w : Word64) : Bool :=
  decide (uPst w ≠ 7 ∧ uEmt w < 6) && !bit w.toNat 10 && (!uKeep w || decide (uEmt w = 1 ∨ uEmt w = 2))

/-- A merge op: post ops 4, 5 and 6. -/
def isMerge (w : Word64) : Bool := decide (4 ≤ uPst w ∧ uPst w ≤ 6)

/-- No merge ops in two consecutive words; no emit in the three words after an EMT 2 (R82). -/
def spacingOk (x : Issued) (xs : List Issued) : Bool :=
  !(isMerge x.w && (xs.take 1).any fun y => isMerge y.w) &&
  !(decide (uEmt x.w = 2) && (xs.take 3).any fun y => decide (uEmt y.w ≠ 0))

/-- The image contains MAC4 steps, or runs block steps in XMODE 1 (R71, R118). -/
def CoreImage.usesInt4 (i : CoreImage) : Bool := i.ctrl.xmode1 || i.micro.any fun w => decide (uEng w = 2)

/-! ### CODE: tables (R64, R84, R85, R87, R89, R90, R106) -/

/-- Output range of an OFMT (R96). -/
def fmtRange (f : Nat) : Int × Int := if f = 0 then (-128, 127) else if f = 3 then (-32768, 32767) else (-8, 7)

/-- A value lies in a range. -/
def within (r : Int × Int) (x : Int) : Bool := decide (r.1 ≤ x ∧ x ≤ r.2)

/-- One requantiser entry (R106). -/
def reqEntryOk (r : BitVec 128) : Bool :=
  let f := rqFmt r
  decide (rqLo r ≤ rqHi r ∧ f ≠ 7) &&
  (if 4 ≤ f then decide (rqZp r = 0 ∧ rqLo r = 0 ∧ rqHi r = 0)
   else within (fmtRange f) (rqZp r) && within (fmtRange f) (rqLo r) && within (fmtRange f) (rqHi r))

/-- Reserved bits of a requantiser entry are zero (R105). -/
def reqReserved (r : BitVec 128) : Bool := decide (bits r.toNat 52 12 = 0 ∧ bits r.toNat 121 7 = 0)

/-- Entry `n` of a core image's requantiser table. -/
def CoreImage.reqAt (i : CoreImage) (n : Nat) : BitVec 128 := SMap.get 0 i.req n

/-- The eight entries of a parameter group agree in OFMT (R106). -/
def CoreImage.groupsOk (i : CoreImage) : Bool :=
  (List.range 8).all fun g => (List.range 8).all fun l => decide (rqFmt (i.reqAt (8 * g + l)) = rqFmt (i.reqAt (8 * g)))

/-- The post op of a word suits the output format of the parameters it names (R106). -/
def CoreImage.postOk (i : CoreImage) (w : Word64) : Bool :=
  let f := rqFmt (i.reqAt (8 * uQsel w))
  let p := uPst w
  let quant := decide (p = 1 ∨ p = 2 ∨ p = 5 ∨ p = 6)
  let look := decide (p = 2 ∨ p = 6)
  !(quant && decide (4 ≤ f ∧ p ≠ 1)) && !(look && decide (f ≠ 0 ∧ f ≠ 3)) && !(look && !i.ctrl.lutSegment && decide (f ≠ 0))

/-- Lookup segments: exponents 0 to 12, segment 15 ending at 32,768 or below (R87). -/
def CoreCtrl.lookupOk (c : CoreCtrl) : Bool :=
  !c.lutSegment || (decide (c.lutW.length = 16) && c.lutW.all (fun w => decide (w ≤ 12)) &&
    decide (-32768 ≤ c.lutB0 ∧ segStart c.lutB0 c.lutW 16 ≤ 32768))

/-- Control settings in their ranges (R84, R85, R89, R90). -/
def CoreCtrl.ok (c : CoreCtrl) : Bool :=
  c.lookupOk && decide (c.phaseN = 1 ∨ c.phaseN = 2 ∨ c.phaseN = 4) && decide (1 ≤ c.steerWindow ∧ c.steerWindow ≤ 64) &&
  c.entries.all (fun e => decide (e < 256)) && c.skipEntry.all (fun e => decide (e < 256)) &&
  c.loops.all (fun l => decide (l.start < 256 ∧ l.limit < 65536)) && c.ags.all fun a => decide (a.base < 65536)

/-- Route entries name an output and set no reserved bit; a template sends a KIND in use (R60, R64). -/
def CoreImage.routesOk (i : CoreImage) : Bool :=
  i.routes.all (fun r => decide (r.1 < 136 ∧ r.2 < 2 ^ 10) && (!bit r.2 9 || decide (bits r.2 0 5 ≠ 0))) &&
  i.templates.all fun t => decide (t = 0 ∨ (1 ≤ bits t.toNat 61 3 ∧ bits t.toNat 61 3 ≤ 5))

/-! ### CODE: block groups (R118, R123) -/

/-- What the check of R123 knows while it follows a body: the open group's accumulator and data steps, and the accumulators that
hold a group. -/
structure GroupCheck where
  cur : Option (Nat × Nat) := none
  held : List Nat := []
  ok : Bool := true
  deriving DecidableEq, Repr

/-- The open group ends: its data steps fill whole blocks (R123). -/
def GroupCheck.close (g : GroupCheck) (xmode1 : Bool) : GroupCheck :=
  match g.cur with
  | some (_, n) => { g with cur := none, ok := g.ok && (xmode1 || decide (n % 4 = 0)) }
  | none => g

/-- One word (R123). -/
def GroupCheck.step (xmode1 : Bool) (g : GroupCheck) (x : Issued) : GroupCheck :=
  let e := uEng x.w
  let g :=
    if e = 3 ∧ x.clear then
      let g := g.close xmode1
      { g with cur := some (x.acc, 0), held := x.acc :: g.held }
    else if e = 3 then
      match g.cur with
      | some (a, n) => { g with cur := some (a, n + 1), ok := g.ok && decide (a = x.acc ∧ n + 1 ≤ (if xmode1 then 8 else 32)) }
      | none => { g with ok := false }
    else if e ≠ 0 then { g with ok := g.ok && !g.held.contains x.acc }
    else g
  let g := { g with ok := g.ok && !(decide (uPst x.w = 4) && g.held.contains (uPacc x.w)) &&
    !(decide (uEmt x.w = 2) && g.held.contains (uSreg x.w % 16)) }
  if uLds x.w = 3 then { g with held := g.held.filter fun a => decide (a ≠ uLdr x.w % 16) } else g

/-- Accumulators that any body of a core starts a group on. -/
def groupAccs (bodies : List (List Issued)) : List Nat :=
  bodies.flatten.filterMap fun x => if uEng x.w = 3 ∧ x.clear then some x.acc else none

/-- R123 over a body. -/
def groupsFollow (xmode1 : Bool) (held : List Nat) (body : List Issued) : Bool :=
  ((body.foldl (GroupCheck.step xmode1) { held := held }).close xmode1).ok

/-- No scale byte of a tile that a scale step reads is 0xFF (R99). -/
def CoreImage.scalesOk (i : CoreImage) (bodies : List (List Issued)) : Bool :=
  let w : SMap Byte := i.weights
  let tiles := bodies.flatten.filterMap fun x => if uEng x.w = 3 ∧ x.clear then some x.tile else none
  tiles.all fun t => (SMap.range 0 w (64 * t) 64).all fun b => decide (b ≠ 0xFF)

/-! ### CODE: block encodes (R130) -/

/-- Operand registers that a word reads in its issue cycle. -/
def Machine.Issued.reads (x : Issued) : List Nat :=
  (if uEng x.w ≠ 0 ∧ ¬ (uLds x.w = 1 ∧ uLdr x.w = x.opr) then [x.opr] else []) ++
  (if uEmt x.w = 1 ∨ uEmt x.w = 4 ∨ uEmt x.w = 5 then [uSreg x.w] else []) ++
  (if uPst x.w = 3 then [uPdst x.w] else [])

/-- A block encode keeps off OPR31, off the post-op slots of the next three words, and off words that read its destinations too
early (R130). -/
def CoreImage.encodeOk (i : CoreImage) (x : Issued) (xs : List Issued) : Bool :=
  let f := rqFmt (i.reqAt (8 * uQsel x.w))
  if uPst x.w = 1 ∧ 4 ≤ f then
    let dests := (List.range (if f = 5 then 1 else 4)).map fun k => ((uPdst x.w + k) % 32, 4 + k)
    dests.all (fun d => decide (d.1 ≠ 31)) && (xs.take 3).all (fun y => decide (uPst y.w = 0)) &&
    ((List.range xs.length).zip (xs.take 7)).all fun jy =>
      jy.2.reads.all fun r => ((31, 4) :: dests).all fun d => decide (r ≠ d.1 ∨ d.2 ≤ jy.1 + 1)
  else true

/-- CODE on one core. -/
def CoreImage.codeOk (i : CoreImage) : Bool :=
  let bodies := i.bodies
  i.micro.all wordOk && i.micro.all i.postOk && (i.req.all fun r => reqEntryOk r.2) && i.groupsOk && i.ctrl.ok && i.routesOk &&
  bodies.all (withTail spacingOk) && bodies.all (groupsFollow i.ctrl.xmode1 (groupAccs bodies)) &&
  bodies.all (withTail i.encodeOk) && i.scalesOk bodies

/-! ### CODE: input, streams, deep schedule, adaptation (R104, R161, R199, R200, R207, R212, R222, R226, R228) -/

/-- Input-quantiser defaults in the ranges of OD 3060 (R104). -/
def IqCfg.ok (q : IqCfg) : Bool :=
  decide (-(2 ^ 22) ≤ q.ofs ∧ q.ofs < 2 ^ 22 ∧ -(2 ^ 31) ≤ q.mult ∧ q.mult < 2 ^ 31 ∧ q.shift ≤ 47) &&
  decide (-128 ≤ q.lo ∧ q.lo ≤ q.hi ∧ q.hi ≤ 127)

/-- Streams that the program places, injects or decides (R161). -/
def ImageContent.streamsUsed (c : ImageContent) : List Nat :=
  (c.cores.flatMap fun i => maskBits i.ctrl.streamMask) ++ c.inject.map InjectMap.stream ++ c.decides
where
  /-- The streams of a mask. -/
  maskBits (m : Nat) : List Nat := (List.range 64).filter (bit m)

/-- A power of two in a range of exponents. -/
def powerIn (lo hi n : Nat) : Bool := (List.range (hi + 1 - lo)).any fun k => decide (n = 2 ^ (lo + k))

/-- The deep schedule at the image's TICKDIV_MIN (R199, R200, R202, R204, R207, R212, R222). -/
def DeepCfg.ok (d : DeepCfg) (tickMin : Nat) : Bool :=
  let cyc := 2 ^ d.k * tickMin
  decide (d.k = 0) ||
  (decide (4 ≤ d.k ∧ d.k ≤ 20) &&
   decide (d.refSpacing ≤ 1024 ∧ 96 ≤ d.refLen ∧ d.refLen ≤ d.refSpacing / 8 ∧ cyc % d.refSpacing = 0) &&
   decide (d.deliverOfs ≤ cyc ∧ 1 ≤ d.periodSlots) && powerIn 8 12 d.hqDepth &&
   d.rlog.all (fun r => decide (10 ≤ r.2 ∧ r.2 ≤ 21)) &&
   decide (d.guardTicks % 1024 = 0 ∧ 2 ^ (d.k + 1) + d.hqDepth ≤ d.guardTicks ∨ d.rlog = []) &&
   d.quads.all fun q => decide (q.2.2 ≤ cyc))

/-- Parameters of a group in the ranges of R226, at most 2^24 weights (R227). -/
def AdaptCfg.inRange (a : AdaptCfg) : Bool :=
  decide (a.seed < 2 ^ 64 ∧ 1 ≤ a.period ∧ a.period ≤ 64 ∧ 1 ≤ a.batchMax ∧ a.batchMax ≤ 256) &&
  decide (1 ≤ a.b1 ∧ a.b1 ≤ 8 ∧ 1 ≤ a.b2 ∧ a.b2 ≤ 12 ∧ a.lrM < 2 ^ 16 ∧ a.lrS ≤ 40) &&
  decide (-126 ≤ a.epsE ∧ a.epsE ≤ 0 ∧ a.envStep < 2 ^ 16 ∧ a.envDrift < 2 ^ 16 ∧ a.envMode ≤ 1) &&
  decide (a.fcyc < 2 ^ 32 ∧ a.satRoll < 2 ^ 32) &&
  a.layers.all (fun l => decide (-(2 ^ 15) ≤ l.wexp ∧ l.wexp < 2 ^ 15 ∧ l.sh8 ≤ 8 ∧ l.first + l.count ≤ 2 ^ 24)) &&
  a.baseline.all fun b => decide (-(2 ^ 15) ≤ b.2 ∧ b.2 < 2 ^ 15)

/-- INT8 weight of a master, and whether it was clamped (R240). -/
def derive8 (w : Int) (sh8 : Nat) : Int × Bool :=
  let q := rnd w sh8 false
  let y := clampTo (-127) 127 q
  (y, decide (y ≠ q))

/-- The INT8 derivation of the baseline of one layer (R227, R240). -/
def AdaptCfg.derived (a : AdaptCfg) (l : AdaptLayer) : List Byte :=
  (List.range l.count).map fun k => BitVec.ofNat 8 (ofSigned 8 (derive8 (a.base (l.first + k)) l.sh8).1)

/-- Both banks of every copy of an adapted layer hold the derivation of the baseline (R227, R228). -/
def ImageContent.banksOk (c : ImageContent) (a : AdaptCfg) : Bool :=
  a.layers.all fun l => l.copies.all fun cp => c.cores.all fun i =>
    decide (i.x + 256 * i.y ≠ cp.1) ||
      (let w : SMap Byte := i.weights
       let at_ (bank : Nat) : List Byte := SMap.range 0 w (64 * (256 * bank + cp.2 % 256)) l.count
       decide (at_ 0 = a.derived l ∧ at_ 1 = a.derived l))

/-- A stream's history ring holds what a period's labels need (R228). -/
def ImageContent.ringOk (c : ImageContent) (a : AdaptCfg) (st : Nat) : Bool :=
  match c.deep.rlog.find? fun r => decide (r.1 = st) with
  | some r => decide ((a.period + 3) * 2 ^ c.deep.k + c.deep.guardTicks ≤ 2 ^ r.2)
  | none => false

/-- The label-bearing results of a STRICT build leave before the label cutoff: all of a slot's work is served within the slot
that follows, so that they are released by its end and DELIVER_OFS (R216, R222, R228). -/
def DeepCfg.labelsInTime (d : DeepCfg) (tickMin : Nat) : Bool :=
  !d.strictBuild || decide (d.labelQuads = []) ||
    decide (d.candCap ≤ d.candBudget ∧ d.deliverOfs + d.candBudget + d.periodicSet.length ≤ 2 ^ d.k * tickMin)

/-- R228 on one group, with P in cycles. -/
def ImageContent.groupOk (c : ImageContent) (tickMin p : Nat) (a : AdaptCfg) : Bool :=
  a.inRange && c.banksOk a && a.streams.all (c.ringOk a) && decide (a.fcyc + 12 + p + 512 ≤ 2 ^ c.deep.k * tickMin)

/-- R226 and R228: at most 8 groups, each stream in one of them at most, weight writes within the SCHEDULE section. -/
def ImageContent.adaptOk (c : ImageContent) (tickMin p : Nat) : Bool :=
  decide (c.adapt.length ≤ 8 ∧ (c.adapt.flatMap AdaptCfg.streams).Nodup ∧ c.adaptOther = false) &&
  c.adapt.all (c.groupOk tickMin p) && c.weightWrites.all (fun w => c.schedule.contains w) &&
  (decide (c.adapt = []) || c.deep.labelsInTime tickMin)

/-- Check 10, CODE, of an image with a TICKDIV_MIN, a P and a STREAM_MASK (R174). -/
def ImageContent.codeOk (c : ImageContent) (tickMin p streamMask : Nat) : Bool :=
  c.cores.all CoreImage.codeOk && c.iq.all (fun q => q.2.ok) && c.streamsUsed.all (fun st => bit streamMask st) &&
  c.scales.all (fun b => decide (b ≠ 0xFF)) && !c.skipRecord && c.deep.ok tickMin && c.adaptOk tickMin p

/-! ### SCHEDULE (R39, R67, R139, R144) -/

/-- Logical cluster of a core image. -/
def CoreImage.cluster (i : CoreImage) : Nat := 16 * (i.y / 4) + i.x / 4

/-- Occupied cycles of a SCHEDULE section, modulo TICKDIV_MIN (R164). -/
def ImageContent.slots (c : ImageContent) (tickMin : Nat) : List (Nat × Nat × Nat) :=
  c.schedule.map fun x => (x.1, x.2.1, x.2.2 % tickMin)

/-- No stage of the fast path is busy for more than TICKDIV_MIN − 1 cycles per tick: neither what the SCHEDULE section lists,
nor the body of a fast core (R39). -/
def ImageContent.idleOk (c : ImageContent) (tickMin role : Nat) : Bool :=
  (c.slots tickMin).all (fun x => decide ((c.slots tickMin).countP (fun y => decide (y.1 = x.1 ∧ y.2.1 = x.2.1)) < tickMin)) &&
  c.cores.all fun i => bit role i.cluster || i.bodies.all fun b => decide (b.length < tickMin)

/-- Two deck entries in use share an INLBL (R137, R139). -/
def ClusterImage.sharesLabel (i : ClusterImage) : Bool :=
  !decide ((i.deck.filterMap fun e => if bits e.2 0 2 = 0 then none else some (bits e.2 2 4)).Nodup)

/-- Reserved lanes within their limits: six of a truss link or a die-to-die channel, two of a hub port (R144). -/
def ImageContent.lanesOk (c : ImageContent) : Bool :=
  c.reserved.all fun r =>
    decide (c.reserved.countP (fun q => decide (q.1 = r.1 ∧ q.2.1 = r.2.1)) ≤ if r.2.1 = 5 then 2 else 6)

/-- A truss entry in use sends to an output lane: valid, its mask names the port, its lane the lane (R141). -/
def trussSends (e port lane : Nat) : Bool :=
  bit e 13 && bit e port && decide ((if port = 5 then bits e 6 3 % 4 else bits e 6 3) = lane)

/-- Reserved lanes carry fast-path flits only (R144). -/
def ImageContent.reservedOk (c : ImageContent) : Bool :=
  c.clusters.all fun k => k.truss.all fun e => c.reserved.all fun r =>
    decide (r.1 ≠ k.num) || !trussSends e.2 r.2.1 r.2.2 || c.fastTruss.contains (k.num, e.1)

/-- Check 11, SCHEDULE, with the role mask. -/
def ImageContent.scheduleOk (c : ImageContent) (tickMin role : Nat) : Bool :=
  decide ((c.slots tickMin).Nodup) && c.idleOk tickMin role &&
  c.deckIn.all (fun d => decide (d.1 = .fast) || bit role d.2) && c.clusters.all (fun k => !k.sharesLabel) &&
  c.lanesOk && c.reservedOk

/-! ### LATENCY (R41, R44, R148) -/

/-- Cycles of a crossing with mesh hops `out` and `into`, local ports included (R148). -/
def Crossing.cycles (out into : Nat) : Crossing → Nat
  | .same h => 6 + h
  | .die h => 6 + out + into + (4 + h)
  | .adjacent h1 h2 => 6 + out + into + (4 + h1 + 14 + h2)
  | .diagonal h1 mid h2 => 6 + out + into + (4 + h1 + 14 + mid + 14 + h2)
  | .hub => 6 + out + into + (4 + 38)

/-- Cycles of a placed path: its stages and crossings, and the 4 of the decision port after the last stage (R41, R148). -/
def pathCycles : List PathSeg → Nat
  | [] => 0
  | [g] => g.stage + g.extra + 4
  | g :: gs => g.stage + g.extra + g.cross.cycles g.out g.into + pathCycles gs

/-- P_CRIT is no shorter than the longest placed path (R44). -/
def ImageContent.pathsOk (c : ImageContent) (pcrit : Nat) : Bool := c.paths.all fun g => decide (pathCycles g ≤ pcrit)

/-! ### REDUCTION (R116, R117) -/

/-- An INT8 tile of a core holds −128. -/
def ImageContent.fullRange (c : ImageContent) (t : Nat × Nat × Nat) : Bool :=
  c.cores.any fun i => decide (i.x = t.1 ∧ i.y = t.2.1) &&
    (let w : SMap Byte := i.weights
     (SMap.range 0 w (64 * t.2.2) 64).any fun b => decide (b = 0x80))

/-- Check 12, REDUCTION. -/
def ImageContent.reductionOk (c : ImageContent) : Bool :=
  c.reductions.all fun r => decide (r.terms ≤ 131072 ∧ r.merges ≤ 65536) &&
    (decide (r.terms ≤ 131071) || r.tiles.all fun t => !c.fullRange t)

/-! ### PLACEMENT of content (R19, R153) -/

/-- Adaptation cores lie in deep quads (R19). -/
def ImageContent.adaptDeep (c : ImageContent) (role : Nat) : Bool :=
  c.cores.all fun i => !i.ctrl.adaptCore || bit role i.cluster

/-! ### What other checks ask of content (R71, R118, R133, R141, R199, R200) -/

/-- Gateway and truss tables set no reserved bit (R133, R141). -/
def ClusterImage.tablesOk (i : ClusterImage) : Bool :=
  i.outbound.all (fun e => decide (e.1 < 16 ∧ e.2 < 2 ^ 13)) &&
  i.inbound.all (fun e => decide (e.1 < 16 ∧ e.2 < 2 ^ 13) && decide (bits e.2 0 2 ≠ 3 ∨ bits e.2 6 4 < 12)) &&
  i.truss.all fun e => decide (e.1 < 1536 ∧ e.2 < 2 ^ 14)

/-- The image uses the INT4 rate: MAC4 steps, or XMODE 1 (R71, R118). -/
def ImageContent.usesInt4 (c : ImageContent) : Bool := c.cores.any CoreImage.usesInt4

/-- Target of a core section. -/
def CoreImage.target (i : CoreImage) : Nat := i.x + 256 * i.y

/-- The deep slot of an image is at least 2,048 cycles long, and a whole number of refresh spacings (R199, R200). -/
def DeepCfg.fitsTick (d : DeepCfg) (t : Nat) : Bool :=
  decide (d.k = 0) || decide (2048 ≤ 2 ^ d.k * t ∧ 2 ^ d.k * t % d.refSpacing = 0)

/-- The content of an image in the coordinates of the device: a portable image moved on the larger grade (R157). -/
def ImageContent.placedBy (c : ImageContent) (row core : Nat → Nat) : ImageContent :=
  let cl (n : Nat) : Nat := n % 16 + 16 * row (n / 16)
  { c with
    cores := c.cores.map fun i => { i with y := core i.y },
    clusters := c.clusters.map fun k => { k with num := cl k.num },
    reserved := c.reserved.map (fun r => (cl r.1, r.2)),
    fastTruss := c.fastTruss.map (fun r => (cl r.1, r.2)),
    deep := { c.deep with handoff := c.deep.handoff.map fun h => (h.1, cl h.2.1, h.2.2) },
    adapt := c.adapt.map fun a => { a with layers := a.layers.map fun l =>
      { l with copies := l.copies.map fun p => (p.1 % 256 + 256 * core (p.1 / 256), p.2) } } }

end Sys2Proof
end

