-- ==== Sys2Proof/Machine/Crypto.lean ====
section
/-! DEFINITION. The checks the manual names by their standards: CRC-32 of IEEE 802.3 (R263), CRC-64 with the parameters
of ECMA-182 (R321), SHA-256 (R168, R322) and LMS with LM-OTS of RFC 8554 for the one parameter set of R407. The
algorithms of SHA-256 and LMS come from their standards, not from the manual (log entry 10). -/

namespace Sys2Proof

/-! ### CRC -/

/-- Eight shifts of a reflected CRC-32 register. -/
def crc32Shift : Nat → Nat → Nat
  | 0, c => c
  | n + 1, c => crc32Shift n (if c % 2 = 1 then (c / 2) ^^^ 0xEDB88320 else c / 2)

/-- CRC-32 register after a byte string. -/
def crc32Run (c : Nat) : List Byte → Nat
  | [] => c
  | b :: bs => crc32Run (crc32Shift 8 (c ^^^ b.toNat)) bs

/-- The CRC-32 of R263. -/
def crc32 (bs : List Byte) : Nat := crc32Run 0xFFFFFFFF bs ^^^ 0xFFFFFFFF

/-- Eight shifts of the CRC-64 register. -/
def crc64Shift : Nat → Nat → Nat
  | 0, c => c
  | n + 1, c =>
    crc64Shift n (if 2 ^ 63 ≤ c then (2 * c % 2 ^ 64) ^^^ 0x42F0E1EBA9EA3693 else 2 * c)

/-- The CRC-64 of R321, carried on over more bytes. -/
def crc64Run (c : Nat) : List Byte → Nat
  | [] => c
  | b :: bs => crc64Run (crc64Shift 8 (c ^^^ (b.toNat <<< 56))) bs

/-- The CRC-64 of R321. -/
def crc64 (bs : List Byte) : Nat := crc64Run 0 bs

/-! ### SHA-256 -/

/-- The 64 round constants, eight to a numeral, the first uppermost. -/
def shaConsts : List Nat :=
  [0x428A2F9871374491B5C0FBCFE9B5DBA53956C25B59F111F1923F82A4AB1C5ED5,
   0xD807AA9812835B01243185BE550C7DC372BE5D7480DEB1FE9BDC06A7C19BF174,
   0xE49B69C1EFBE47860FC19DC6240CA1CC2DE92C6F4A7484AA5CB0A9DC76F988DA,
   0x983E5152A831C66DB00327C8BF597FC7C6E00BF3D5A7914706CA635114292967,
   0x27B70A852E1B21384D2C6DFC53380D13650A7354766A0ABB81C2C92E92722C85,
   0xA2BFE8A1A81A664BC24B8B70C76C51A3D192E819D6990624F40E3585106AA070,
   0x19A4C1161E376C082748774C34B0BCB5391C0CB34ED8AA4A5B9CCA4F682E6FF3,
   0x748F82EE78A5636F84C878148CC7020890BEFFFAA4506CEBBEF9A3F7C67178F2]

/-- The word `i` places above the lowest of a row of 32-bit words held in one number. -/
def rowWord (v i : Nat) : Nat := v / 2 ^ (32 * i) % 2 ^ 32

/-- The constant of round `t`. -/
def shaConst (t : Nat) : Nat := rowWord (shaConsts.getD (t / 8) 0) (7 - t % 8)

/-- A word turned right by `n` places: its copies side by side, seen `n` places up. -/
def turn (n w : Nat) : Nat := w * (2 ^ 32 + 1) / 2 ^ n % 2 ^ 32

/-- The sum modulo 2 of three turns of a word. -/
def turns3 (i j k w : Nat) : Nat := turn i w ^^^ turn j w ^^^ turn k w

/-- One round. The eight working words stand in one number, the first uppermost: a round moves them one place down, drops the
last, adds to the fourth and puts a new one on top. -/
def shaRound (v k w : Nat) : Nat :=
  let e := rowWord v 3
  let a := rowWord v 7
  let pick := rowWord v 1 ^^^ (e &&& (rowWord v 2 ^^^ rowWord v 1))
  let most := (a &&& (rowWord v 6 ||| rowWord v 5)) ||| (rowWord v 6 &&& rowWord v 5)
  let add := rowWord v 0 + turns3 6 11 25 e + pick + k + w
  let top := (add + turns3 2 13 22 a + most) % 2 ^ 32
  let fifth := (rowWord v 4 + add) % 2 ^ 32
  top * 2 ^ 224 + v / 2 ^ 160 * 2 ^ 128 + fifth * 2 ^ 96 + v / 2 ^ 32 % 2 ^ 96

/-- The sixteen schedule words at hand, in one number with the oldest uppermost, moved on by one. -/
def shaSchedule (m : Nat) : Nat :=
  let x := rowWord m 14
  let y := rowWord m 1
  let new := (turn 17 y ^^^ turn 19 y ^^^ y / 2 ^ 10) + rowWord m 6 + (turn 7 x ^^^ turn 18 x ^^^ x / 2 ^ 3) + rowWord m 15
  m % 2 ^ 480 * 2 ^ 32 + new % 2 ^ 32

/-- `n` rounds from round `t` on. -/
def shaRounds : Nat → Nat → Nat → Nat → Nat
  | 0, _, _, v => v
  | n + 1, t, m, v => shaRounds n (t + 1) (shaSchedule m) (shaRound v (shaConst t) (rowWord m 15))

/-- The number held big-endian in a byte string. -/
def beNat (bs : List Byte) : Nat := bs.foldl (fun n b => 256 * n + b.toNat) 0

/-- The `n` big-endian bytes of a number. -/
def beBytes (n v : Nat) : List Byte := (leBytes n v).reverse

/-- Two rows of eight words added word by word. -/
def addRows (u v : Nat) : Nat :=
  (List.range 8).foldl (fun n i => n + (rowWord u i + rowWord v i) % 2 ^ 32 * 2 ^ (32 * i)) 0

/-- The hash value after every 64-byte block of a string, with the number of blocks as fuel. -/
def shaBlocks : Nat → Nat → List Byte → Nat
  | 0, v, _ => v
  | n + 1, v, bs => shaBlocks n (addRows v (shaRounds 64 0 (beNat (bs.take 64)) v)) (bs.drop 64)

/-- The initial hash value, as one row of words. -/
def shaInit : Nat := 0x6A09E667BB67AE853C6EF372A54FF53A510E527F9B05688C1F83D9AB5BE0CD19

/-- The message padded to whole blocks. -/
def shaPad (bs : List Byte) : List Byte :=
  bs ++ 0x80 :: (List.replicate ((119 - bs.length % 64) % 64) 0 ++ beBytes 8 (8 * bs.length))

/-- SHA-256 of a byte string, as its 32 bytes. -/
def sha256 (bs : List Byte) : List Byte :=
  let p := shaPad bs
  beBytes 32 (shaBlocks (p.length / 64) shaInit p)

/-! ### LMS (RFC 8554) with LMS_SHA256_M32_H15 and LMOTS_SHA256_N32_W8 (R407) -/

/-- One Winternitz chain from value `j`, `n` steps. -/
def otsChain (I : List Byte) (q i : Nat) : Nat → Nat → List Byte → List Byte
  | 0, _, t => t
  | n + 1, j, t => otsChain I q i n (j + 1) (sha256 (I ++ beBytes 4 q ++ beBytes 2 i ++ beBytes 1 j ++ t))

/-- The ends of every chain, for the 34 digits of the message digest and its checksum. -/
def otsEnds (I : List Byte) (q : Nat) : Nat → List Byte → List Byte → List Byte
  | _, [], _ => []
  | i, d :: ds, y =>
    otsChain I q i (255 - d.toNat) d.toNat (y.take 32) ++ otsEnds I q (i + 1) ds (y.drop 32)

/-- The candidate LM-OTS public key of a signature over a message. -/
def otsCandidate (I : List Byte) (q : Nat) (c y msg : List Byte) : List Byte :=
  let dig := sha256 (I ++ beBytes 4 q ++ beBytes 2 0x8181 ++ c ++ msg)
  let sum := dig.foldl (fun n b => n + (255 - b.toNat)) 0
  sha256 (I ++ beBytes 4 q ++ beBytes 2 0x8080 ++ otsEnds I q 0 (dig ++ beBytes 2 sum) y)

/-- The root reached from a node by its path. -/
def lmsRoot (I : List Byte) : Nat → Nat → List Byte → List Byte → List Byte
  | 0, _, _, t => t
  | n + 1, node, path, t =>
    let up := node / 2
    let t' := if node % 2 = 1 then sha256 (I ++ beBytes 4 up ++ beBytes 2 0x8383 ++ path.take 32 ++ t)
              else sha256 (I ++ beBytes 4 up ++ beBytes 2 0x8383 ++ t ++ path.take 32)
    lmsRoot I n up (path.drop 32) t'

/-- The type codes of a public key and a signature are those of R407. -/
def lmsTypes (key sig : List Byte) : Bool :=
  decide (beNat (key.take 4) = 7 ∧ beNat ((key.drop 4).take 4) = 4 ∧
    beNat ((sig.drop 4).take 4) = 4 ∧ beNat ((sig.drop 1128).take 4) = 7)

/-- A 1,612-byte signature verifies over a message under a 56-byte public key. -/
def lmsVerify (key sig msg : List Byte) : Bool :=
  let I := (key.drop 8).take 16
  let q := beNat (sig.take 4)
  let c := (sig.drop 8).take 32
  let y := (sig.drop 40).take 1088
  let leaf := sha256 (I ++ beBytes 4 (2 ^ 15 + q) ++ beBytes 2 0x8282 ++ otsCandidate I q c y msg)
  lmsTypes key sig && decide (q < 2 ^ 15) &&
    decide (lmsRoot I 15 (2 ^ 15 + q) ((sig.drop 1132).take 480) leaf = (key.drop 24).take 32)

end Sys2Proof
end

