-- ==== Sys2Proof/Machine/AuditOps.lean ====
section
/-! DEFINITION. The operations of the audit sealer and the recorder that other meanings share: parts and their events
(R319 to R325) and entries of the replay region (R328 to R332). -/

namespace Sys2Proof.Machine

/-! ### Parts -/

/-- Window number of a tick with its wrap count: Drone count [63:16] (R319). -/
def windowOf (tick : Nat) : Nat := tick / 65536

/-- The digests of the running configuration; zero when none runs (R322). -/
def State.runProg (s : State) : Nat :=
  if s.rd OD.ACTIVE_SLOT = 0 then s.rd OD.A_PROG_DIGEST else if s.rd OD.ACTIVE_SLOT = 1 then s.rd OD.B_PROG_DIGEST else 0
def State.runWeight (s : State) : Nat :=
  if s.rd OD.ACTIVE_SLOT = 0 then s.rd OD.A_WEIGHT_DIGEST
  else if s.rd OD.ACTIVE_SLOT = 1 then s.rd OD.B_WEIGHT_DIGEST else 0

/-- Part number of a part that opens in window `w` (R320). -/
def Audit.nextPart (a : Audit) (w : Nat) : Nat := if a.lastWin = some w then a.lastPart + 1 else 0

/-- A part opens at a tick; events that waited for it are entered first (R320). -/
def State.openPart (s : State) (tick : Nat) (atResume : Bool) : State :=
  let w := windowOf tick
  let n := s.audit.nextPart w
  let p : Part := { win := w, part := n, start := tick, flags := 2 * b2n atResume, events := s.audit.waiting,
                    prog := s.runProg, weight := s.runWeight }
  { s with audit.cur := some p, audit.waiting := [], audit.lastWin := some w, audit.lastPart := n }

/-- The first part sealed after a sealer gap carries the gap's events and its own event (R325). -/
def Part.afterGap (p : Part) (a : Audit) : Part :=
  match a.gap with
  | none => p
  | some g =>
    { p with flags := p.flags ||| 4,
             events := a.gapEvents ++ { etype := 5, tick := g, payload := leBytes 6 ((p.start - 1) % 2 ^ 48) } :: p.events }

/-- The part in progress closes (R320): it goes to the sealer when it holds an admitted tick or an event; while the
sealer is off it is left unsealed and its events wait for the first seal after the gap (R325). -/
def State.closePart (s : State) (atStop : Bool) : State :=
  match s.audit.cur with
  | none => s
  | some p =>
    let p := { p with flags := p.flags ||| b2n atStop }
    let s := { s with audit.cur := none }
    if p.first = none ∧ p.events = [] then s
    else if s.rd OD.SEAL_EN = 1 then
      let q := p.afterGap s.audit
      { s with audit.closed := s.audit.closed ++ [q], audit.gap := none, audit.gapEvents := [] }
    else { s with audit.gap := some (s.audit.gap.getD p.start), audit.gapEvents := s.audit.gapEvents ++ p.events }

/-- At SAFE entry with no part open, a part opens for the waiting events alone (R320). -/
def State.openForWaiting (s : State) (tick : Nat) : State :=
  if s.audit.cur = none ∧ s.audit.waiting ≠ [] then s.openPart tick false else s

/-- The result tag of a result at a tick (R326): bytes [3:0] of the last seal made for a window two or more before. -/
def State.resultTag (s : State) (tick : Nat) : Nat :=
  ((s.audit.log.filter fun e => decide (e.win + 2 ≤ windowOf tick)).getLast?.elim 0 fun e => e.value) % 2 ^ 32

/-- An event entry's 64 bytes (R323). -/
def AudEvent.bytes (e : AudEvent) : List Byte :=
  [BitVec.ofNat 8 e.etype, 0] ++ leBytes 6 (e.tick % 2 ^ 48) ++ padTo 0 56 e.payload

/-- Tick field of a part without admitted ticks (R322). -/
def tick48 (t : Option Nat) : Nat := (t.getD (2 ^ 48 - 1)) % 2 ^ 48

/-- Events of a part in ascending TICK48 and then ETYPE (R322). -/
def Part.sorted (p : Part) : List AudEvent := sortBy (fun e => e.tick % 2 ^ 48 * 256 + e.etype) p.events

/-- The byte string of a part's seal (R322). `fresh`: no seal has been made since power-up. -/
def Part.body (p : Part) (prev : Nat) (fresh : Bool) : List Byte :=
  leBytes 32 prev ++ leBytes 32 p.prog ++ leBytes 32 p.weight ++ leBytes 4 p.win ++ leBytes 2 (p.win / 2 ^ 32) ++
    leBytes 1 p.part ++ leBytes 1 (p.flags ||| 4 * b2n fresh) ++ leBytes 6 (tick48 p.first) ++ leBytes 6 (tick48 p.last) ++
    leBytes 4 p.events.length ++ streams.flatMap (fun st => leBytes 8 (SMap.get 0 p.crc st)) ++ p.sorted.flatMap AudEvent.bytes

/-- PREV of the next seal: CHAIN_PREV until one has been made (R322, R324). -/
def State.chainPrev (s : State) : Nat := if s.audit.made then s.audit.prev else s.rd OD.CHAIN_PREV

/-- PREV once every closed part has been sealed. -/
def State.prevAfterClosed (s : State) : Nat :=
  (s.audit.closed.foldl (fun (a : Nat × Bool) p => (leNat (sha256 (p.body a.1 a.2)), false)) (s.chainPrev, !s.audit.made)).1

/-! ### The recorder -/

/-- ORDER of an entry type within a tick (R330). -/
def recOrder (rtype : Nat) : Nat := rtype

/-- The recorder is recording (OD A020.03). -/
def State.recording (s : State) : Bool := bits (s.rd OD.REC_STATE) 0 3 = 2

/-- An entry waits for the next tick boundary, when a recording runs (R330). -/
def State.recQueue (s : State) (e : RecEnt) : State :=
  if s.recording then { s with tape.waiting := s.tape.waiting ++ [e] } else s

/-- The latest tick up to the present one with the given bits [47:0]. -/
def State.tickOf48 (s : State) (n48 : Nat) : Nat := s.tickNo - (s.tickNo + 2 ^ 48 - n48 % 2 ^ 48) % 2 ^ 48

/-- An entry held in the replay region, read back (R329). -/
def State.tapeEntry (s : State) (h : Nat × Nat × Nat × Nat) : RecEnt :=
  let b := s.replayBase + h.1
  { rtype := h.2.2.1, tick := h.2.2.2, stream := bits (leNat (s.hbm.reads b 4)) 24 6, aux := leNat (s.hbm.reads (b + 10) 2),
    payload := s.hbm.reads (b + 16) (h.2.1 - 16) }

/-- The entries of a type that belong to a tick (R334). -/
def State.tapeAt (s : State) (rtype tick : Nat) : List RecEnt :=
  (s.tape.held.filter fun h => decide (h.2.2.1 = rtype ∧ h.2.2.2 = tick)).map s.tapeEntry

/-- Bytes of an entry: the 16-byte header and the padded payload (R329). -/
def RecEnt.bytes (e : RecEnt) : List Byte :=
  let pay := padMult 8 e.payload
  let words := (16 + pay.length) / 8
  leBytes 4 (e.rtype + words * 2 ^ 8 + e.stream * 2 ^ 24) ++ leBytes 6 (e.tick % 2 ^ 48) ++ leBytes 2 e.aux ++
    leBytes 4 0 ++ pay

/-- Fields of REC_STATE set. -/
def State.setRecState (s : State) (st reason : Nat) : State :=
  let noAnchor := !(s.tape.held.any fun h => decide (h.2.2.1 = 1))
  s.wr OD.REC_STATE 0 (st + 8 * b2n (noAnchor && decide (st = 2 ∨ st = 3)) + 16 * reason)

/-- The entries of OD A020 that follow what is held (R332, R337). -/
def State.recReport (s : State) : State :=
  let h := s.tape.held
  let s := s.wr OD.REC_BYTES 0 (h.foldl (fun n x => n + x.2.1) 0)
  let s := s.wr OD.REC_FIRST 0 ((h.headD (0, 0, 0, 0)).2.2.2)
  let s := s.wr OD.REC_ANCHOR 0 (((h.find? fun x => decide (x.2.2.1 = 1)).getD (0, 0, 0, 0)).1)
  s.setRecState (bits (s.rd OD.REC_STATE) 0 3) (bits (s.rd OD.REC_STATE) 4 4)

/-- The recording header holds the state of OD A020 (R329; its layout is log entry 19). -/
def State.recHeader (s : State) : State :=
  s.hbmWrites s.replayBase
    (leBytes 1 (s.rd OD.REC_POLICY) ++ leBytes 4 (s.rd OD.REC_STATE) ++ leBytes 8 (s.rd OD.REC_BYTES) ++
     leBytes 8 (s.rd OD.REC_FIRST) ++ leBytes 8 (s.rd OD.REC_LAST) ++ leBytes 8 (s.rd OD.REC_ANCHOR) ++
     leBytes 4 (s.rd OD.REC_WRAPS))

/-- Bytes put into the region at the write place; the entries they overwrite are no longer held. -/
def State.recPut (s : State) (e : RecEnt) : State :=
  let bs := e.bytes
  let p := s.tape.ptr
  let s := s.hbmWrites (s.replayBase + p) bs
  let keep := s.tape.held.filter fun h => decide (h.1 + h.2.1 ≤ p ∨ p + bs.length ≤ h.1)
  { s with tape.held := keep ++ [(p, bs.length, e.rtype, e.tick)], tape.ptr := p + bs.length }

/-- The recording ends with an END entry (R330). -/
def State.endRecording (s : State) (tick reason : Nat) : State :=
  if s.recording then
    let s := s.recPut { rtype := 9, tick := tick, payload := [BitVec.ofNat 8 reason] }
    let s := { s with tape.waiting := [], tape.stopDue := false }
    let s := s.setRecState 3 reason
    s.recReport.recHeader
  else s

/-- One entry is written, under the policy of R332. -/
def State.recWrite (s : State) (e : RecEnt) : State :=
  if ¬ s.recording then s
  else if s.tape.ptr + e.bytes.length + 24 ≤ s.replaySize then (s.recPut e).recReport
  else if s.rd OD.REC_POLICY = 0 then s.endRecording e.tick 2
  else
    let s := { s with tape.ptr := 4096 }
    ((s.inc OD.REC_WRAPS 0).recPut e).recReport

/-- Every entry that waits for a tick up to this one and the given ones are written, in ascending tick and then in ORDER
(R330). -/
def State.recFlush (s : State) (more : List RecEnt) (tick : Nat) : State :=
  if s.recording then
    let due := (s.tape.waiting ++ more).filter fun e => decide (e.tick ≤ tick)
    let all := sortBy (fun e => e.tick) (sortBy (fun e => recOrder e.rtype) due)
    let s := { s with tape.waiting := s.tape.waiting.filter fun e => decide (tick < e.tick) }
    let s := all.foldl State.recWrite s
    s.wr OD.REC_LAST 0 tick
  else s

/-- An accepted dictionary write is recorded at the next tick boundary (R330): source 0 PCIe, 1 Girder. -/
def State.recOd (s : State) (e : Entry) (sub unit src tick : Nat) (val : List Byte) : State :=
  s.recQueue { rtype := 2, tick := tick, aux := unit, payload := leBytes 2 e.idx ++ leBytes 1 sub ++ leBytes 1 src ++ val }

/-- Units a selector can name (R389). -/
def OdSel.units : OdSel → Nat
  | .none => 1 | .array => 1 | .core => 8192 | .cluster => 256 | .iq => 1024 | .layer => 1088 | .dstream => 64 | .adapt => 8
  | .quad => 16 | .lane => 64 | .stream => 64 | .trgStream => 64 | .trgCh => 1024 | .trgItem => 1024 | .maskTab => 8
  | .pin => 8 | .port => 4 | .roster => 256 | .tb => 4 | .keyhash => 4

/-- Units of an entry: an array's sub-indices, or what its selector names. -/
def Entry.units (e : Entry) : Nat := if e.sel = .array then e.last - e.sub + 1 else e.sel.units

/-- Writable entries whose values an ANCHOR is followed by (R330). -/
def anchored (e : Entry) : Bool :=
  decide ((0x2000 ≤ e.idx ∧ e.idx ≤ 0x5FFF) ∨ e.idx = 0xA000) && decide (e.acc = .rw ∨ e.acc = .rwp)

/-- What an ANCHOR entry records (R330). -/
structure AnchorRec where
  slot : Nat
  seq : Nat
  prog : Nat
  weight : Nat
  mode : Nat
  ts : Nat
  tr : Nat
  prev : Nat
  strict : Nat
  deriving DecidableEq, Repr

/-- Payload of an ANCHOR entry; its layout is log entry 19. -/
def AnchorRec.bytes (a : AnchorRec) : List Byte :=
  leBytes 1 a.slot ++ leBytes 4 a.seq ++ leBytes 32 a.prog ++ leBytes 32 a.weight ++ leBytes 1 a.mode ++ leBytes 8 a.ts ++
    leBytes 8 a.tr ++ leBytes 32 a.prev ++ leBytes 1 a.strict

/-- The ANCHOR entry at an offset of the replay region. -/
def State.anchorAt (s : State) (ofs : Nat) : AnchorRec :=
  let f (o n : Nat) : Nat := leNat (s.hbm.reads (s.replayBase + ofs + 16 + o) n)
  { slot := f 0 1, seq := f 1 4, prog := f 5 32, weight := f 37 32, mode := f 69 1, ts := f 70 8, tr := f 78 8, prev := f 86 32,
    strict := f 118 1 }

/-- The OD_WRITE entries that follow an ANCHOR: each writable entry's value in force (R330). -/
def State.anchorWrites (s : State) (tick : Nat) : List RecEnt :=
  (OD.table.filter anchored).flatMap fun e =>
    (List.range e.units).map fun u =>
      { rtype := 2, tick := tick, aux := u,
        payload := leBytes 2 e.idx ++ leBytes 1 (if e.sel = .array then e.sub + u else e.sub) ++ [0] ++
          leBytes e.typ.size (s.rd e u) }

/-- Host writes of indices 2000 to 5FFF and A000 are served: the dictionary is, and no replay runs (R334, R378). -/
def State.hostMay (s : State) : Bool := s.host.ready && !s.tape.replaying

/-- Writes accepted through rows of their own are recorded like any others (R330): (entry, unit, value). -/
def State.noteWrites (s : State) (ws : List (Entry × Nat × Nat)) : State :=
  ws.foldl (fun s w => s.recOd w.1 (if w.1.sel = .array then w.1.sub + w.2.1 else w.1.sub) w.2.1 0 s.nextTick
    (leBytes w.1.typ.size w.2.2)) s

/-! ### Events of the seal -/

/-- An audit event is entered in the part in progress, or waits for the next (R320). -/
def State.enterEvent (s : State) (e : AudEvent) : State :=
  match s.audit.cur with
  | some p => { s with audit.cur := some { p with events := p.events ++ [e] } }
  | none => { s with audit.waiting := s.audit.waiting ++ [e] }

/-- A fabric event (R330). -/
def AudEvent.fabric (e : AudEvent) : Bool := decide (e.etype = 3 ∨ e.etype = 4 ∨ e.etype = 8)

/-- An event of the running device: fabric events are recorded (R330), and in a replay the recording's stand for them (R334). -/
def State.auditEvent (s : State) (e : AudEvent) : State :=
  if s.tape.replaying && e.fabric then s else
  let s := s.enterEvent e
  if e.fabric then
    s.recQueue { rtype := 4, tick := e.tick, payload := e.bytes }
  else s

end Sys2Proof.Machine
end

