-- ==== Sys2Proof/Machine/DeepOps.lean ====
section
/-! DEFINITION. Deep slots, deep result records and what ends deep work early: shared by the deep path, activations and
SAFE (R199, R220, R222, R223). -/

namespace Sys2Proof.Machine

/-- Parameters of the running image's deep schedule (R199 to R217). -/
def State.deepCfg (s : State) : DeepCfg := s.act.content.deep

/-- Ticks of a deep slot; deep work runs when the image has deep quads (R199). -/
def State.dslotTicks (s : State) : Nat := 2 ^ s.rd OD.DSLOT_LOG
def State.deepOn (s : State) : Bool := decide (s.rd OD.DSLOT_LOG ≠ 0)

/-- Deep slot of a tick, counted from the resume tick (R199). -/
def State.slotOf (s : State) (tick : Nat) : Nat := (tick - s.act.tr) / s.dslotTicks

/-- The role mask makes a cluster deep (R154). -/
def State.deepRole (s : State) (c : Nat) : Bool := (s.logicalCluster c).any fun l => bit (s.rd OD.ROLE_MASK) l

/-- A cluster is in use by the active image. -/
def State.clusterUsed (s : State) (c : Nat) : Bool := (s.logicalCluster c).any fun l => bit (s.rd OD.PLACE_MASK) l

/-- Clusters of a cluster's physical quad (R19). -/
def quadClusters (c : Nat) : List Nat := (List.range 256).filter fun k => decide (quadOf k = quadOf c)

/-- A physical quad holds clusters in use of both roles (R154). -/
def State.mixedQuad (s : State) (c : Nat) : Bool :=
  let used := (quadClusters c).filter s.clusterUsed
  (used.any s.deepRole) && used.any fun k => !s.deepRole k

/-- STRICT is set (OD A000.01). -/
def State.strict (s : State) : Bool := decide (s.rd OD.STRICT = 1)

/-- A deep result record (R220). -/
structure DeepRec where
  item : Item
  v : Bool := false
  s : Bool := false
  h : Bool := false
  z : Bool := false
  r : Bool := false
  score : Nat := 0
  accept : Nat := 0
  label : Nat := 0xFF
  readout : Nat := 0
  dcause : Nat := 0
  deriving DecidableEq, Repr

def DeepRec.bits (d : DeepRec) : BitVec 128 :=
  BitVec.ofNat 128 (d.item.tick % 2 ^ 48 + d.item.stream % 64 * 2 ^ 48 + d.item.kind % 4 * 2 ^ 54 + b2n d.v * 2 ^ 56 +
    b2n d.s * 2 ^ 57 + b2n d.h * 2 ^ 58 + b2n (decide (d.item.delay ≠ 0)) * 2 ^ 59 + b2n d.z * 2 ^ 60 + b2n d.r * 2 ^ 61 +
    d.score % 2 ^ 16 * 2 ^ 64 + d.accept % 256 * 2 ^ 80 + d.label % 256 * 2 ^ 88 + d.readout % 4 * 2 ^ 96 +
    min d.item.delay 63 * 2 ^ 98 + d.dcause % 16 * 2 ^ 104)

/-- A void record with a cause (R220). -/
def voidDeep (i : Item) (dcause : Nat) : BitVec 128 := ({ item := i, v := true, dcause := dcause } : DeepRec).bits

/-- Cycle at which STRICT releases the records of the deep slot in progress (R222). -/
def State.strictDue (s : State) : Nat := s.deep.start + s.rd OD.DSLOT_CYC + s.rd OD.DELIVER_OFS

/-- The item a held record stands for. -/
def heldItem (w : BitVec 128) : Item :=
  let n := w.toNat
  { tick := Sys2Proof.bits n 0 48, stream := Sys2Proof.bits n 48 6, kind := Sys2Proof.bits n 54 2, delay := Sys2Proof.bits n 98 6 }

/-- Deep slots in progress are abandoned and their results not delivered; candidates count in DEEP_DAMP_DISCARD (R187,
R474). With `voids`, the candidates of a STRICT slot, those whose records were held for release included, yield void records at
their release time (R223). Records of earlier slots stay held. -/
def State.abandonDeep (s : State) (voids : Bool) : State :=
  let d := s.deep
  let due := s.strictDue
  let mine := (d.held.filter fun h => decide (due ≤ h.1)).map fun h => heldItem h.2
  let own := (mine ++ d.serving.toList ++ d.work).filter fun i => decide (i.kind = 0)
  let n := own.length + (d.cands ++ d.spill).countP fun i => decide (i.kind = 0)
  let late := if voids && s.strict then own.map fun i => (due, voidDeep i 5) else []
  let s := s.inc OD.DEEP_DAMP_DISCARD 0 n
  { s with deep.cands := [], deep.candCount := 0, deep.prevCount := 0, deep.allotted := 0, deep.work := [], deep.spill := [],
           deep.serving := none, deep.active := false, deep.requests := [], deep.results := [], deep.served := [], deep.feed := [],
           deep.held := (d.held.filter fun h => decide (h.1 < due)) ++ late }

/-- What waits in a handoff ring of a stream, and its depth HQ_DEPTH (R204). -/
def State.ring (s : State) (st : Nat) : List Handoff := SMap.get [] s.deep.rings st

/-- Bit `i` of a handoff entry. -/
def Handoff.bit (h : Handoff) (i : Nat) : Bool := Sys2Proof.bit h.bits.toNat i

/-- The most recent Drone count at or before the present with given low 16 bits (R206). -/
def State.tickOfTag (s : State) (tag : Nat) : Nat := s.tickNo - (s.tickNo + 2 ^ 16 - tag % 2 ^ 16) % 2 ^ 16

end Sys2Proof.Machine
end

