-- ==== Sys2Proof/Machine/Errors.lean ====
section
/-! DEFINITION. Raising an event or error: its severity and level (R466 to R468), the error units with escalation (R469 to
R471), the log (R473), the Pluck it starts (R483) and SAFE (R474); and fences with what follows from them (R477 to R482). -/

namespace Sys2Proof.Machine

/-! ### Codes -/

/-- Codes of severity RECOVERABLE (R468). -/
def recoverableCodes : List Nat :=
  [0x0004, 0x0005, 0x0006, 0x000A, 0x000B, 0x000C, 0x000D, 0x000E, 0x0103, 0x0201, 0x0202, 0x0204, 0x0401,
   0x0601, 0x0602, 0x0901, 0x0903, 0x0A05, 0x0C04, 0x0E01]
/-- Codes of severity UNIT (R468). -/
def unitCodes : List Nat := [0x0007, 0x000F, 0x0302, 0x0304, 0x0A04, 0x0B01, 0x0C03]
/-- Codes of severity FATAL (R468). -/
def fatalCodes : List Nat := [0x0301, 0x0405, 0x0A01, 0x0A02, 0x0A09, 0x0B04, 0x0B05]

/-- Severity of a code: 0 NOTICE, 1 RECOVERABLE, 2 UNIT, 3 FATAL (R466, R468). -/
def severity (code : Nat) : Nat :=
  if fatalCodes.contains code then 3 else if unitCodes.contains code then 2
  else if recoverableCodes.contains code then 1 else 0

/-- Level at which a code is raised: 0 core, 1 cluster, 2 die, 3 package (R467). -/
def raiseLevel (code : Nat) : Nat :=
  if [0x0001, 0x0002, 0x0003, 0x0004, 0x0005, 0x0006, 0x0007, 0x0008, 0x0009, 0x0101, 0x0103].contains code then 0
  else if [0x000A, 0x000B, 0x0B01].contains code then 1
  else if [0x000C, 0x000D, 0x000E, 0x0201, 0x0202, 0x0601, 0x0602].contains code then 2
  else 3

/-! ### Units (R465, R469) -/

/-- Identifiers in the UNIT layout of R469. -/
def coreUnit (p : Nat) : Nat := p
def clusterUnit (c : Nat) : Nat := 0x4000 + c
def dieUnit (d : Nat) : Nat := 0x8000 + d
def pkgUnit : Nat := 0xC000
/-- Level of a unit. -/
def unitLevel (u : Nat) : Nat := u / 0x4000 % 4
/-- The unit one level up that contains a unit (R470). -/
def parentUnit (u : Nat) : Nat :=
  if unitLevel u = 0 then clusterUnit (pcidCluster (u % 0x4000))
  else if unitLevel u = 1 then dieUnit (u % 0x4000 / 64)
  else pkgUnit

def State.errUnit (s : State) (u : Nat) : ErrUnit := SMap.get {} s.faults.units u
def State.setErrUnit (s : State) (u : Nat) (e : ErrUnit) : State :=
  { s with faults.units := SMap.set {} s.faults.units u e }

/-- What became of an error at the unit where it stopped. -/
structure Handled where
  unit : Nat
  escalated : Bool := false
  counted : Bool := false
  safe : Bool := false
  deriving DecidableEq, Repr

/-- A unit's secondary counter advances, holding at its largest value (R465). -/
def State.secondary (s : State) (u : Nat) : State :=
  let e := s.errUnit u
  s.setErrUnit u { e with secondary := min (e.secondary + 1) (2 ^ 32 - 1) }

/-- ESCALATED, with the original code and the receiving unit in DETAIL (R470). -/
def State.escalatedEvent (s : State) (code loc u : Nat) : State :=
  s.announce 0x0B02 loc (code + 0x10000 * u) false

/-- An error reaches a unit (R470, R471); at most four levels. -/
def State.handleError : Nat → State → ErrRec → Nat → Nat → Bool → State × Handled
  | 0, s, _, _, u, esc => (s, { unit := u, escalated := esc, counted := true })
  | n + 1, s, r, code, u, esc =>
    let e := s.errUnit u
    match e.primary with
    | none => (s.setErrUnit u { e with primary := some { r with unit := u, level := unitLevel u, escalated := esc, secondary := e.secondary } },
               { unit := u, escalated := esc })
    | some p =>
      if unitLevel u = 3 then
        if r.sev = 3 ∧ p.sev = 3 then
          (s.secondary u, { unit := u, escalated := esc, counted := true, safe := true })
        else if p.sev < r.sev then
          (s.setErrUnit u { e with primary := some { r with unit := u, level := unitLevel u, escalated := esc, secondary := e.secondary } }, { unit := u, escalated := esc })
        else if p.sev = r.sev then
          ((s.secondary u).escalatedEvent code r.loc u, { unit := u, escalated := esc, counted := true })
        else (s.secondary u, { unit := u, escalated := esc, counted := true })
      else if p.sev ≤ r.sev then
        let up := parentUnit u
        State.handleError n ((s.secondary u).escalatedEvent code r.loc up) r code up true
      else (s.secondary u, { unit := u, escalated := esc, counted := true })

/-- A record enters the error log, a ring of 256 (R473). -/
def State.logError (s : State) (r : ErrRec) : State :=
  let s := match s.faults.log.getLast? with
    | some old =>
      if s.faults.log.length = 256 ∧ (old.logseq + 2 ^ 32 - s.rd OD.ERRLOG_IDX) % 2 ^ 32 < 2 ^ 31
      then s.inc OD.ERRLOG_OVR 0 else s
    | none => s
  let s := { s with faults.log := { r with logseq := s.rd OD.ERRLOG_SEQ } :: s.faults.log.take 255 }
  s.wr OD.ERRLOG_SEQ 0 ((s.rd OD.ERRLOG_SEQ + 1) % 2 ^ 32)

/-! ### Pluck (R483, R484) -/

/-- A latch joins those on their way; Plucks with the same latch cycle give one snapshot with their bits ORed. -/
def addPluck : List (Nat × Nat × Nat) → Nat × Nat × Nat → List (Nat × Nat × Nat)
  | [], p => [p]
  | q :: qs, p =>
    if p.1 < q.1 then p :: q :: qs
    else if p.1 = q.1 then (q.1, q.2.1 ||| p.2.1, if q.2.2 = 0 then p.2.2 else q.2.2) :: qs
    else q :: addPluck qs p

/-- A Pluck starts at a source cycle: it latches 24 cycles later. -/
def State.pluckForce (s : State) (srcBit cycle code : Nat) : State :=
  { s with faults.pluck := addPluck s.faults.pluck (cycle + 24, 2 ^ srcBit, code) }

/-- A Pluck source acts when its bit is set in PLUCK_SRC_EN (R483). -/
def State.pluckFrom (s : State) (srcBit cycle code : Nat) : State :=
  if bit (s.rd OD.PLUCK_SRC_EN) srcBit then s.pluckForce srcBit cycle code else s

/-- The error source of Pluck (R483). -/
def State.pluckError (s : State) (code : Nat) : State :=
  if s.rd OD.PLUCK_ERR_SEV ≤ severity code then s.pluckFrom 3 s.now code else s

/-! ### Repair windows (R478 to R481) -/

/-- A stream is under repair for a frame of a tick, at a cycle (R206, R478, R481). -/
def State.repairing (s : State) (st tick cycle : Nat) : Bool :=
  s.faults.repairs.any fun r => bit r.mask st && decide (r.detected + 64 ≤ cycle) &&
    (match r.connect with
     | none => true
     | some c => decide (tick < c))

/-- Deadline of a frame in flight: D = B + A + P, with A = 12 for class L1 (R41, R46). -/
def Flight.deadline (f : Flight) : Nat := f.bnd + 12 + f.p

/-- The oldest frame in flight of the streams of a mask whose deadline is not before a cycle (R478). -/
def State.oldestFlight (s : State) (mask cycle : Nat) : Option Nat :=
  (maskStreams mask).foldl (fun o st =>
    match (s.dec st).flights.find? (fun f => decide (cycle ≤ f.deadline)), o with
    | none, o => o
    | some f, none => some f.tick
    | some f, some t => some (min f.tick t)) none

/-- The first repaired tick of a window: the first noted, in a DEGRADED cluster of any of its fences, else that of the oldest
frame whose record the window will flag (R479, R481). -/
def State.firstRepaired (s : State) (r : Repair) : Option Nat :=
  let same (x : Repair) : Bool := decide (pcidCluster x.core = pcidCluster r.core ∧ x.connect = none)
  let noted := if r.degraded then (s.faults.repairs.filter same).filterMap (·.first) else r.first.toList
  match noted with
  | [] => s.oldestFlight r.mask (r.detected + 64)
  | t :: ts => some (ts.foldl min t)

/-- An event of the part that held a tick: the part in progress, or the part closed last when that tick lies in it (R479). -/
def State.auditEventAt (s : State) (e : AudEvent) (tick : Nat) : State :=
  if s.tape.replaying then s else
  match s.audit.closed.getLast? with
  | none => s.auditEvent e
  | some q =>
    if s.audit.cur.elim (q.last.any fun l => decide (tick ≤ l)) fun p => decide (tick < p.start) then
      let s := { s with audit.closed := s.audit.closed.dropLast ++ [{ q with events := q.events ++ [e] }] }
      s.recQueue { rtype := 4, tick := e.tick, payload := e.bytes }
    else s.auditEvent e

/-- A repair window ends at tick `last`: its event, unless entered before or no record was repaired (R479). -/
def State.sealRepair (s : State) (r : Repair) (last : Nat) : State :=
  match s.firstRepaired r with
  | some t =>
    if r.sealed then s
    else s.auditEventAt { etype := 4, tick := t, payload := leBytes 2 r.core ++ leBytes 6 (last % 2 ^ 48) ++ leBytes 8 r.mask } last
  | none => s

/-- The last tick admitted. -/
def State.lastAdmitted (s : State) : Nat := if s.act.admitOn then s.tickNo else s.act.ts - 1

/-- A window that is open: a frame in flight may still be flagged. -/
def Repair.isOpen (r : Repair) : Bool := decide (r.connect = none) && !r.idle

/-- Every repair window still open ends at tick `last`: at an activation's T_s, or at SAFE entry (R481). The records of its frames
are flagged as they are released, and a stand-in is loaded and connects still (R185). -/
def State.endRepairs (s : State) (last : Nat) : State :=
  let s := (s.faults.repairs.filter Repair.isOpen).foldl (fun s r => s.sealRepair r last) s
  { s with faults.repairs := s.faults.repairs.map fun r => if r.isOpen then { r with sealed := true } else r }

/-- The configuration of the open windows ends, with `last` its last tick: no frame after it is under repair, and the loader
connects the spares that no stand-in has taken (R185, R482). -/
def State.idleRepairs (s : State) (last : Nat) : State :=
  let s := s.endRepairs last
  let spare (r : Repair) : Option Repair :=
    if r.isOpen && !r.degraded then
      some { core := r.core, detected := r.detected, mask := 0, started := true, loaded := some 0, idle := true }
    else none
  let past (r : Repair) : Repair := if r.idle then r else { r with connect := some (min (r.connect.getD (last + 1)) (last + 1)) }
  { s with faults.repairs := s.faults.repairs.map past ++ s.faults.repairs.filterMap spare }

/-! ### SAFE (R474) -/

/-- The capture engine, mask test and readout of every stream stop (R474). -/
def State.stopCapture (s : State) : State :=
  let halt (_ : Nat) (c : Capt) : Capt :=
    { c with st := if c.st = 0 then 0 else 4, reason := 0, queue := [], trigs := [], verdicts := [] }
  let quiet (_ : Nat) (l : Lane) : Lane := { l with readoutQ := [], chunk := 0 }
  { s with capt := SMap.mapVals {} halt s.capt, lanes := SMap.mapVals {} quiet s.lanes }

/-- SAFE abandons a Damp, which ends in HOLD (log entry 137), and an activation that waits (R185). -/
def State.abandonDamp (s : State) : State :=
  let damp := decide (1 ≤ s.rd OD.DAMP_STATE ∧ s.rd OD.DAMP_STATE ≤ 5)
  let s := if damp ∨ s.act.pending ≠ none then s.wr OD.ACT_STATUS 0 8 else s
  let s := if damp then s.wr OD.DAMP_STATE 0 6 else s
  { s with act.pending := none, act.loadDone := false, clock.tickinWait := none }

/-- The power cap of the licence in force: where no configuration keeps the cap it was activated with (R5, R418). -/
def State.capToLicence (s : State) : State := s.wr OD.PCAP 0 (min (s.rd OD.PCAP) s.lic.pcapMax)

/-- Entry to SAFE, with the code of the FATAL error that caused it (R474). Admission ends at the next tick boundary,
which the tick itself sees to. -/
def State.enterSafe (s : State) (code : Nat) : State :=
  if s.faults.safe then s
  else
    let s := { s with faults.safe := true, faults.safeAt := s.now, faults.safeDrained := false }
    let s := s.wr OD.SAFE_STATE 0 (1 + 0x10000 * code)
    let s := s.abandonDamp.capToLicence
    let s := (s.abandonDeep false).stopCapture
    let s := s.endRepairs s.lastAdmitted
    let s := s.openForWaiting s.tickNo
    let s := s.closePart true
    let s := s.endRecording s.tickNo 4
    let s := s.announce 0x0B03 0xFFFF 0 false
    s.pluckForce 3 s.now code

/-! ### Raising -/

/-- An event or error is raised by unit `u`, with the LOC and DETAIL its chapter gives (R394, R465 to R474). SAFE is entered on a
FATAL error upon a FATAL one, and directly on HUB_FAULT (R468, R471). -/
def State.raiseD (s : State) (code u loc detail : Nat) : State :=
  let sev := severity code
  let s := s.announce code loc detail (decide (1 ≤ sev))
  let s := s.pluckError code
  if sev = 0 then s
  else
    let r : ErrRec := { code := code, sev := sev, raised := raiseLevel code, level := unitLevel u, drone := s.drone % 2 ^ 48,
                        tcount := s.tcount, loc := loc, unit := u, detail := detail % 2 ^ 16,
                        auto := s.rd OD.ERR_AUTOCLEAR, cycle := s.now, safe := decide (code = 0x0B05) && !s.faults.safe,
                        logseq := s.rd OD.ERRLOG_SEQ }
    let direct := r.safe
    let (s, h) := State.handleError 4 s r code u false
    let r := { r with unit := h.unit, level := unitLevel h.unit, escalated := h.escalated, counted := h.counted,
                      safe := h.safe || direct, secondary := (s.errUnit h.unit).secondary }
    let s := s.logError r
    if h.safe || direct then s.enterSafe code else s

/-- Raised with no particulars. -/
def State.raise (s : State) (code u loc : Nat) : State := s.raiseD code u loc 0

/-- Raised by the package. -/
def State.raisePkg (s : State) (code : Nat) (loc : Nat := 0xFFFF) : State := s.raiseD code pkgUnit loc 0

/-- An HBM read returns corrected (R193, R196). -/
def State.hbmCe (s : State) : State := s.inc OD.HBM_CE 0

/-- An HBM read returns uncorrected (R196). -/
def State.hbmUe (s : State) : State := (s.inc OD.HBM_UE 0).raisePkg 0x0401

/-- What an HBM read's check bits give (R193, R196). -/
def State.hbmRead (s : State) (e : Ecc) : State :=
  match e with
  | .ok => s
  | .corrected => s.hbmCe
  | .uncorrected => s.hbmUe

/-! ### Fences (R477 to R482) -/

/-- A core is fenced. -/
def State.fenced (s : State) (p : Nat) : Bool := SMap.get false s.fabric.fencedCores p

/-- The spare of a cluster is free (R134, R412): sound, standing in nowhere and not being loaded. -/
def State.spareFree (s : State) (c : Nat) : Bool :=
  let k := s.cluster c
  decide (k.standIn = 0) && !k.spareBad && !k.degraded && !s.fenced (mkPcid c 16) &&
    !(s.faults.repairs.any fun r => decide (pcidCluster r.core = c) && !r.degraded && decide (r.connect = none))

/-- Streams of every core of a cluster (R481). -/
def State.clusterMask (s : State) (c : Nat) : Nat :=
  (List.range 17).foldl (fun m i => m ||| (s.core (mkPcid c i)).ctrl.streamMask) 0

/-- A cluster becomes DEGRADED until the next power-up, on account of a core; one event speaks for its windows (R481). -/
def State.degrade (s : State) (c p : Nat) : State :=
  if (s.cluster c).degraded then s
  else
    let s := s.updCluster c fun k => { k with degraded := true }
    let s := s.inc OD.DEGRADED_COUNT 0
    let mark (r : Repair) : Repair :=
      if pcidCluster r.core = c ∧ r.connect = none then { r with degraded := true, sealed := true } else r
    let s := { s with faults.repairs := s.faults.repairs.map mark }
    let mask := s.clusterMask c
    let s := if s.act.running ∧ ¬ s.faults.safe ∧ mask ≠ 0 then
        { s with faults.repairs := s.faults.repairs ++
          [{ core := p, detected := s.now, mask := mask, degraded := true }] }
      else s
    s.raise 0x0B01 (clusterUnit c) c

/-- The active image, or the one being loaded, uses a cluster (R153). -/
def State.imageUses (s : State) (c : Nat) : Bool :=
  match s.logicalCluster c with
  | some l => bit s.act.mask l
  | none => false

/-- No configuration is active: what the entries declare of an active image returns to its default (R34, R158, R191). -/
def State.noImage (s : State) : State :=
  let s := s.clrEntries [OD.ACTIVE_SLOT, OD.TICKDIV_MIN, OD.LAT_P, OD.LAT_PCRIT, OD.LAT_SLACK, OD.LAT_CLASS_IMG, OD.LAYER_COUNT,
    OD.PORTABLE, OD.PLACE_MASK, OD.ROLE_MASK, OD.VIA_FAST_LANES, OD.ADAPT_GROUPS, OD.DSLOT_LOG, OD.DSLOT_CYC,
    OD.REF_SPACING, OD.REF_LEN, OD.CAND_BUDGET, OD.DELIVER_OFS]
  { s with act.running := false, act.admitOn := false, act.loadDone := false }

/-- A fence during LOAD or RAMP with no free spare: the load is checked again under PLACEMENT (R185). -/
def State.loadLost (s : State) (c : Nat) : State :=
  if s.imageUses c ∧ 4 ≤ s.rd OD.DAMP_STATE ∧ s.rd OD.DAMP_STATE ≤ 5 then
    let s := s.wr OD.DAMP_STATE 0 6
    let s := s.wr OD.ACT_STATUS 0 8
    let s := if s.act.slot = 0 then s.wr OD.A_STATE 0 3 else s.wr OD.B_STATE 0 3
    s.noImage
  else s

/-- A core is fenced, and what R478, R481, R482 and R185 make of it. -/
def State.fence (s : State) (p : Nat) : State :=
  if s.fenced p then s
  else
    let c := pcidCluster p
    let free := s.spareFree c
    let s := { s with fabric.fencedCores := SMap.set false s.fabric.fencedCores p true }
    let s := s.raise 0x0008 (coreUnit p) p
    if s.faults.safe then s
    else if pcidPos p = 16 then
      let busy := decide ((s.cluster c).standIn ≠ 0) ||
        s.faults.repairs.any fun r => decide (pcidCluster r.core = c) && !r.degraded && decide (r.connect = none)
      let s := s.updCluster c fun k => { k with spareBad := true }
      if busy then s.degrade c p else s
    else if ¬ free then (s.degrade c p).loadLost c
    else if s.act.running ∧ s.rd OD.DAMP_STATE ≤ 3 then
      { s with faults.repairs := s.faults.repairs ++
          [{ core := p, detected := s.now, mask := (s.core p).ctrl.streamMask }] }
    else
      { s with faults.repairs := s.faults.repairs ++
          [{ core := p, detected := s.now, mask := 0, started := true, loaded := some 0, idle := true }] }

/-- A position is fenced: its cluster becomes DEGRADED, since no stand-in can serve it (R135). -/
def State.fencePosition (s : State) (c pos : Nat) : State :=
  let p := mkPcid c pos
  let s := { s with fabric.fencedPos := SMap.set false s.fabric.fencedPos p true }
  (s.degrade c p).loadLost c

end Sys2Proof.Machine
end

