-- ==== Sys2Proof/Machine/Rollback.lean ====
section
/-! DEFINITION. Masters, the INT8 derivation and the start of a rollback of an adaptation group (R227, R240, R241, R243,
R244): what the engine, stand-ins and the adaptation meanings share. -/

namespace Sys2Proof.Machine

/-- What the running image loads into a position, by PCID of its home core. -/
def State.imageOf (s : State) (p : Nat) : Option CoreImage :=
  match s.logicalOf (pcidCluster p) (pcidPos p) with
  | none => none
  | some xy => s.act.content.cores.find? fun i => decide (i.x = xy.1 ∧ i.y = xy.2)

/-- What the running image loads into the position a core serves. -/
def State.servedImage (s : State) (p : Nat) : Option CoreImage := s.imageOf (s.fabric.routerOf p)

/-- A weight word as the active slot image holds it; in an adaptable pair, whose banks are both loaded with the derivation of the
baseline, the baseline's (R78, R227, R228). -/
def State.loadedWord (s : State) (p word : Nat) : Word64 :=
  match s.servedImage p with
  | some i =>
    let w : SMap Byte := i.weights
    BitVec.ofNat 64 (leNat (SMap.range 0 w (8 * word) 8))
  | none => 0

/-- Parameters of a group; the ADAPT section of the running image (R226). -/
def State.adaptCfg (s : State) (g : Nat) : AdaptCfg := s.act.content.adapt.getD g {}

/-- Groups declared by the running image. -/
def State.groupCount (s : State) : Nat := s.act.content.adapt.length

/-- Master of a weight: the baseline until an update has changed it (R227). -/
def State.master (s : State) (g idx : Nat) : Int := SMap.get ((s.adaptCfg g).base idx) (s.grp g).masters idx

/-- INT8 image of one layer of a group (R240). -/
def State.image8 (s : State) (g : Nat) (l : AdaptLayer) : List Byte :=
  (List.range l.count).map fun k => BitVec.ofNat 8 (ofSigned 8 (derive8 (s.master g (l.first + k)) l.sh8).1)

/-- An INT8 image is written to the inactive bank of one copy (R241). -/
def Core.writeBank (c : Core) (tile : Nat) (bs : List Byte) : Core :=
  let bank := 256 * b2n (!c.bankB)
  { c with weights := SMap.putRange 0 c.weights (64 * (bank + tile % 256)) bs }

/-- The core that serves a copy of a layer: its logical core x + 256 y (R151). -/
def State.copyAt (s : State) (cp : Nat × Nat) : Option Nat := s.pcidOf (cp.1 % 256) (cp.1 / 256)

/-- An INT8 image to the inactive bank of one copy. -/
def State.writeCopy (s : State) (bs : List Byte) (cp : Nat × Nat) : State :=
  match s.copyAt cp with
  | some p => s.updCore p fun c => if c.loaded then c.writeBank cp.2 bs else c
  | none => s

/-- The INT8 images of a group go to the inactive bank of every copy of each layer (R241). -/
def State.writeBanks (s : State) (g : Nat) : State :=
  (s.adaptCfg g).layers.foldl (fun s l => l.copies.foldl (State.writeCopy · (s.image8 g l)) s) s

/-- Masters, moments and any update in progress return to the baseline (R244). -/
def State.resetGroup (s : State) (g : Nat) : State :=
  s.updGrp g fun x => { x with masters := [], m := [], v := [], ready := none, unwritten := none, samples := [] }

/-- A rollback cause is noted; of two causes the lowest code stands (R243, R245). -/
def State.noteCause (s : State) (g code : Nat) : State :=
  s.updGrp g fun x => { x with cause := some (match x.cause with
    | some c => min c code
    | none => code) }

/-- A rollback that does not wait for the swap tick of a period: masters and moments are at the baseline at once; the banks
follow at the swap (R244). -/
def State.rollbackNow (s : State) (g code : Nat) : State := (s.noteCause g code).resetGroup g

/-- An uncorrected error in a bank of a core's adaptable pair (R78, R243). -/
def State.bankError (s : State) (c : Core) : State :=
  match c.ctrl.group with
  | some g => if c.ctrl.adaptable then s.rollbackNow g 6 else s
  | none => s

end Sys2Proof.Machine
end

