-- ==== Sys2Proof/Machine/Ingest.lean ====
section
/-! DEFINITION. The ingest unit: the layout of frames (R258, R259), the ingest deadline (R265, R267), the front comparators
(R281 to R286), averaging (R287), header fields (R288, R289) and the input quantiser (R103), with the layer counters of
R111, R112 that it shares with the requantiser. -/

namespace Sys2Proof.Machine

/-- Unit number of a stream and a channel, field or term of it. -/
def chUnit (st c : Nat) : Nat := 16 * st + c

/-! ### Frame layout (R258, R259) -/

/-- Samples per channel of a frame (R258). -/
def State.samplesPer (s : State) (st : Nat) : Nat := 2 ^ s.rd OD.AVG_K st

/-- Bytes of a sample region. -/
def State.regionBytes (s : State) (st : Nat) : Nat :=
  ceilDiv (s.samplesPer st * s.rd OD.ST_NCH st * s.rd OD.ST_WIDTH st) 8

/-- Bytes of a region of `sb` bytes that lane `i` of a bond of `nl` carries: its 8-byte units, the last perhaps shorter. -/
def laneShare (sb nl i : Nat) : Nat :=
  if nl = 0 then 0
  else
    let full := sb / 8
    let own := full / nl * 8 + (if i < full % nl then 8 else 0)
    own + (if full % nl = i then sb % 8 else 0)

/-- LB_i of a stream (R259). -/
def State.lbBytes (s : State) (st i : Nat) : Nat :=
  2 + (if i = 0 then s.rd OD.ST_HDR_BYTES st else 0) + laneShare (s.regionBytes st) (s.rd OD.ST_NLANES st) i +
    (if s.rd OD.ST_CRC st = 1 then 4 else 0)

/-- The sample region put together from the bytes of each lane: unit u from lane u mod n. -/
def joinRegion (sb nl : Nat) (parts : List (List Byte)) : List Byte :=
  ((List.range (ceilDiv sb 8)).map fun u => ((parts.getD (u % nl) []).drop (8 * (u / nl))).take 8).flatten.take sb

/-- Sample (t, c) of a region read as a number. -/
def sampleAt (region nch width : Nat) (sgn : Bool) (t c : Nat) : Int :=
  let v := bits region ((t * nch + c) * width) width
  if sgn then toSigned width v else (v : Int)

/-- SEQ of the frame that belongs to a tick (R265). -/
def State.seqOf (s : State) (st tick : Nat) : Nat := (tick + 2 ^ 16 - s.rd OD.SEQ_OFS st % 2 ^ 16) % 2 ^ 16

/-- Header bytes of a frame: those of lane 0 of the bond. -/
def AlignFrame.header (f : AlignFrame) : List Byte := (f.parts.find? fun p => decide (p.1 = 0)).elim [] fun p => p.2.1

/-- Sample region of a frame. -/
def AlignFrame.region (f : AlignFrame) (sb nl : Nat) : List Byte :=
  joinRegion sb nl ((List.range nl).map fun i => (f.parts.find? fun p => decide (p.1 = i)).elim [] fun p => p.2.2)

/-! ### The ingest deadline (R267) -/

/-- The stream's frames are admitted: it is fed and the running image uses it. -/
def State.admitted (s : State) (st : Nat) : Bool := s.act.admitOn && s.fed st && bit s.act.streamMask st

/-- The frame of a SEQ is discarded (R265, R267): what is complete goes, and of the rest the bytes. What has stayed dead for
half the range of SEQ is forgotten. -/
def Ingest.expire (i : Ingest) (q : Nat) : Ingest :=
  let live := i.align.filter fun f => decide (f.seq ≠ q) || !f.complete
  let kill (f : AlignFrame) : AlignFrame :=
    if f.seq = q then { f with dead := true, parts := f.parts.map fun p => (p.1, [], []) } else f
  { i with align := (live.map kill).filter fun f => !f.dead || decide (f.seq ≠ (q + 32768) % 2 ^ 16) }

/-- At B_n − 2 a tick with no complete frame is marked void and counted; partial lane blocks of it are discarded. -/
def State.deadlineOne (s : State) (st : Nat) : State :=
  if ¬ s.admitted st ∨ s.tape.replaying then s
  else
    let q := s.seqOf st s.nextTick
    let i := s.ing st
    let held := i.align.any fun f => decide (f.seq = q) && f.complete
    let check := i.checkFail.contains q
    let s := s.updIng st fun i =>
      { (if held then i else i.expire q) with checkFail := i.checkFail.filter fun x => decide (x ≠ q), voidMark := !held }
    if held then s
    else (s.inc OD.FRAMES_VOID st).inc (if check then OD.VOID_CHECK else OD.VOID_LANE) st

/-- The deadline of the next tick, once. -/
def State.deadline (s : State) : State :=
  if s.clock.deadlineOf = some s.nextTick then s
  else
    let s := streams.foldl State.deadlineOne s
    { s with clock.deadlineOf := some s.nextTick }

/-- Cycle of the next tick boundary (R30). -/
def State.nextBoundary (s : State) : Nat := s.clock.bnd + s.tickdiv - s.clock.short

/-- INGEST_DEADLINE (R267). -/
def execIngestDeadline (s : State) : Answer :=
  if ¬ s.clock.running then .next s else .next (s.advanceTo (s.nextBoundary - 2)).deadline

/-! ### Front comparators (R281 to R286) -/

/-- Settings of a comparator. -/
structure TfCfg where
  kind : Nat
  pol : Nat
  thrA : Int
  thrB : Int
  hyst : Int
  qual : Nat
  t1 : Nat
  t2 : Nat
  deriving DecidableEq, Repr

def State.tfCfg (s : State) (st c : Nat) : TfCfg :=
  let u := chUnit st c
  { kind := s.rd OD.TF_KIND u, pol := s.rd OD.TF_POL u, thrA := s.rdI OD.TF_THR_A u, thrB := s.rdI OD.TF_THR_B u,
    hyst := s.rd OD.TF_HYST u, qual := s.rd OD.TF_QUAL u, t1 := s.rd OD.TF_T1 u, t2 := s.rd OD.TF_T2 u }

/-- A detector's state after a sample, and its edge: some true on a rise, some false on a fall (R282). -/
def detect (thr hyst x : Int) : Option Bool → Option Bool × Option Bool
  | none => (some (decide (thr ≤ x)), none)
  | some false => if thr ≤ x then (some true, some true) else (some false, none)
  | some true => if x < thr - hyst then (some false, some false) else (some true, none)

/-- The qualifier of R283. -/
def qualMet (q : TfCfg) (w : Nat) : Bool :=
  if q.qual = 1 then decide (w < q.t1) else if q.qual = 2 then decide (q.t1 < w)
  else if q.qual = 3 then decide (q.t1 ≤ w ∧ w ≤ q.t2) else if q.qual = 4 then decide (w < q.t1 ∨ q.t2 < w) else true

/-- What an edge means to the measurement of one polarity: start, abandon, or end (R284). Edges: (detector B, rising). -/
inductive Role where
  | start | abandon | finish | nothing
  deriving DecidableEq, Repr

/-- The part an edge plays for kinds 1, 2 and 4, positive (`neg` false) or negative measurement. -/
def edgeRole (kind : Nat) (neg detB rise : Bool) : Role :=
  if kind = 1 then (if detB then .nothing else if rise = !neg then .start else .finish)
  else if kind = 2 then
    if neg then (if detB then (if rise then .finish else .start) else (if rise then .nothing else .abandon))
    else (if detB then (if rise then .abandon else .nothing) else (if rise then .start else .finish))
  else if kind = 4 then
    if neg then (if detB then (if rise then .abandon else .start) else (if rise then .nothing else .finish))
    else (if detB then (if rise then .finish else .nothing) else (if rise then .start else .abandon))
  else .nothing

/-- One measurement over the edges of a sample, in order: its width, and the firings. -/
def measure (q : TfCfg) (neg : Bool) (edges : List (Bool × Bool)) (w : Option Nat) : Option Nat × Nat :=
  edges.foldl (fun a e =>
    match edgeRole q.kind neg e.1 e.2 with
    | .start => (some 0, a.2)
    | .abandon => (none, a.2)
    | .finish => match a.1 with
      | some w => (none, if qualMet q w then a.2 + 1 else a.2)
      | none => a
    | .nothing => a) (w, 0)

/-- Width counters stop at 16,777,215 (R283). -/
def tickWidth (w : Option Nat) : Option Nat := w.map fun n => min (n + 1) 16777215

/-- The timeout kind (R284): the state it times, its width and whether it has fired. -/
def timeoutStep (q : TfCfg) (c : Comp) (first : Bool) (edgeA : Option Bool) : Comp × Nat :=
  let high := c.a = some true
  let matched := q.pol = 2 ∨ (q.pol = 0 ∧ high) ∨ (q.pol = 1 ∧ ¬ high)
  let (w, fired) :=
    if first then (if matched then some 0 else none, false)
    else match edgeA with
      | some _ => (if matched then some 0 else none, false)
      | none => (tickWidth c.pos, c.firedP)
  let fire := decide (w.any fun n => decide (q.t1 ≤ n)) && !fired
  ({ c with pos := w, firedP := fired || fire }, b2n fire)

/-- One sample through a comparator (R282 to R284), with its firings. -/
def Comp.step (q : TfCfg) (c : Comp) (x : Int) : Comp × Nat :=
  let first := c.a.isNone
  let (a, ea) := detect q.thrA q.hyst x c.a
  let (b, eb) := detect q.thrB q.hyst x c.b
  let c := { c with a := a, b := b }
  if q.kind = 0 then (c, 0)
  else if q.kind = 3 then timeoutStep q c first ea
  else
    let la := ea.elim [] fun r => [(false, r)]
    let lb := if q.kind = 1 then [] else eb.elim [] fun r => [(true, r)]
    let edges := if ea = some false ∨ eb = some false then lb ++ la else la ++ lb
    let (p, n1) := if q.pol = 1 then (none, 0) else measure q false edges (tickWidth c.pos)
    let (n, n2) := if q.pol = 0 then (none, 0) else measure q true edges (tickWidth c.neg)
    ({ c with pos := p, neg := n }, n1 + n2)

/-- A run of samples through a comparator. -/
def Comp.run (q : TfCfg) (c : Comp) (xs : List Int) : Comp × Nat :=
  xs.foldl (fun a x => let r := a.1.step q x; (r.1, a.2 + r.2)) (c, 0)

/-! ### Header fields (R288, R289) -/

/-- Value of header field `i`, none when it is off. -/
def State.hdrField (s : State) (st i : Nat) (hdr : List Byte) : Option Nat :=
  let pos := s.rd OD.HF_POS (chUnit st i)
  let w := bits pos 16 5
  if w = 0 then none
  else
    let hb := hdr.take (s.rd OD.ST_HDR_BYTES st)
    let b := bits pos 0 6
    some (bits (leNat [hb.getD b 0, hb.getD (b + 1) 0, hb.getD (b + 2) 0]) (bits pos 8 3) w)

/-- Match of a field with value `v` (R289). -/
def State.hdrMatch (s : State) (st i v : Nat) : Bool :=
  let u := chUnit st i
  let m := s.rd OD.HF_MODE u
  let lo := s.rd OD.HF_VAL u
  let hi := s.rd OD.HF_HI u
  let x := v &&& s.rd OD.HF_MASK u
  if m = 1 then decide (x = lo) else if m = 2 then decide (x ≠ lo) else if m = 3 then decide (lo ≤ v ∧ v ≤ hi)
  else if m = 4 then decide (v < lo ∨ hi < v)
  else if m = 5 then !(s.ing st).firstFrame && decide (v ≠ s.rd OD.HF_LAST u) else false

/-! ### Saturation counts (R111, R112) -/

/-- Clamps added to a layer's counters, with SATURATION and CAL_DRIFT (R112, R114); a LAYER_THRESH written below the count raises
CAL_DRIFT at the next counted clamp (DESIGN CHOICE, log entry 146). -/
def State.layerSat (s : State) (layer n : Nat) : State :=
  if n = 0 then s
  else
    let s := (s.inc OD.LAYER_SAT_WIN layer n).inc OD.LAYER_SAT_TOTAL layer n
    let s := if s.act.satSeen.contains layer then s
      else
        let s := { s with act.satSeen := layer :: s.act.satSeen }
        s.raisePkg 0x0101 layer
    let thr := s.rd OD.LAYER_THRESH layer
    if thr ≠ 0xFFFFFFFF ∧ thr < s.rd OD.LAYER_SAT_WIN layer ∧ s.act.driftSeen.contains layer = false then
      let s := { s with act.driftSeen := layer :: s.act.driftSeen }
      let s := s.inc OD.DRIFT_TOTAL 0
      let s := s.wr OD.DRIFT_LAST 0 (layer + 2 ^ 11 + s.act.driftWin % 2 ^ 32 * 2 ^ 16)
      s.raisePkg 0x0102 layer
    else s

/-! ### A complete frame through stages 4 to 9 -/

/-- Channel value x of R287 from the samples of the frame. -/
def channelValue (k : Nat) (xs : List Int) : Int :=
  if k = 0 then xs.headD 0 else rnd (xs.foldl (· + ·) 0) ((k : Int) - min k 5) false

/-- What stages 4 to 9 make of a complete frame. -/
structure Stages where
  inputs : Nat := 0
  hdr : List Nat := []
  xs : List Int := []
  elems : List Int := []
  sats : List Bool := []
  deriving DecidableEq, Repr

/-- Samples of a channel in time order. -/
def State.channel (s : State) (st region c : Nat) : List Int :=
  (List.range (s.samplesPer st)).map fun t =>
    sampleAt region (s.rd OD.ST_NCH st) (s.rd OD.ST_WIDTH st) (decide (s.rd OD.ST_SIGNED st = 1)) t c

/-- The comparators of a stream over a frame: comparators, firings counted, and the mask of channels that fired. -/
def State.trigFront (s : State) (st region : Nat) : State × Nat :=
  let s := if (s.ing st).needReset then s.updIng st fun i => { i with comps := [], needReset := false } else s
  (List.range (s.rd OD.ST_NCH st)).foldl (fun a c =>
    let s := a.1
    let (cp, n) := (SMap.get {} (s.ing st).comps c).run (s.tfCfg st c) (s.channel st region c)
    let s := s.updIng st fun i => { i with comps := SMap.set {} i.comps c cp }
    let fired := decide (0 < n ∧ s.rd OD.TF_KIND (chUnit st c) ≠ 0)
    (if fired then s.inc OD.TF_FIRES (chUnit st c) n else s, a.2 + b2n fired * 2 ^ c)) (s, 0)

/-- Header fields of a complete frame: values, and the mask of matches; last values are kept (R289). -/
def State.headerFields (s : State) (st : Nat) (hdr : List Byte) : State × List Nat × Nat :=
  let vals := (List.range 8).map fun i => s.hdrField st i hdr
  let m := (List.range 8).foldl (fun m i => match vals.getD i none with
    | some v => m + b2n (s.hdrMatch st i v) * 2 ^ i
    | none => m) 0
  let s := (List.range 8).foldl (fun s i => match vals.getD i none with
    | some v => s.wr OD.HF_LAST (chUnit st i) v
    | none => s) s
  (s.updIng st fun i => { i with firstFrame := false }, vals.map fun v => v.getD 0, m)

/-- One channel value through the input quantiser (R103). -/
def State.quantiseCh (s : State) (st c : Nat) (x : Int) : Int × Bool :=
  let u := chUnit st c
  quantise x (s.rdI OD.IQ_OFS u) (s.rdI OD.IQ_MULT u) (s.rd OD.IQ_SHIFT u) (decide (s.rd OD.IQ_MODE u = 1))
    (s.rdI OD.IQ_LO u) (s.rdI OD.IQ_HI u)

/-- Stages 4 to 9 of a complete frame (R13, R14). -/
def State.stages (s : State) (st : Nat) (hdr region : List Byte) : State × Stages :=
  let (s, vals, hm) := s.headerFields st hdr
  let rn := leNat region
  let (s, fm) := s.trigFront st rn
  let nch := s.rd OD.ST_NCH st
  let xs := (List.range nch).map fun c => channelValue (s.rd OD.AVG_K st) (s.channel st rn c)
  let q := ((List.range nch).zip xs).map fun p => s.quantiseCh st p.1 p.2
  let n := q.countP fun y => y.2
  let s := (s.inc OD.IQ_SAT st n).layerSat (1024 + st) n
  (s, { inputs := fm + hm * 2 ^ 16, hdr := vals, xs := xs, elems := q.map Prod.fst, sats := q.map Prod.snd })

end Sys2Proof.Machine
end

