-- ==== Sys2Proof/Machine/Decision.lean ====
section
/-! DEFINITION. The decision unit: trigger logic (R290 to R293), decision records (R294), the deadline monitor (R46 to R52,
R188), TRIGOUT (R295, R296) and the decision lanes (R268, R270 to R273). -/

namespace Sys2Proof.Machine

/-! ### Records (R294) -/

/-- A record as 64 bits. -/
def Rec.bits (r : Rec) : Word64 :=
  BitVec.ofNat 64 (r.accept % 256 + ofSigned 16 r.score * 2 ^ 8 + r.ftag % 2 ^ 16 * 2 ^ 24 + b2n r.late * 2 ^ 40 +
    b2n r.void * 2 ^ 41 + b2n r.repair * 2 ^ 42 + b2n r.sat * 2 ^ 43 + b2n r.stale * 2 ^ 44 + b2n r.logic * 2 ^ 45 +
    r.stream % 64 * 2 ^ 46 + r.cause % 256 * 2 ^ 52)

/-- A record as the fabric delivers it (R83). -/
def Rec.ofBits (st : Nat) (w : Word64) : Rec :=
  let n := w.toNat
  { accept := Sys2Proof.bits n 0 8, score := toSigned 16 (Sys2Proof.bits n 8 16), ftag := Sys2Proof.bits n 24 16,
    void := bit n 41, sat := bit n 43, stale := bit n 44, stream := st,
    cause := if bit n 41 then Sys2Proof.bits n 52 8 else 0 }

/-! ### Trigger logic (R290 to R292) -/

/-- Settings of the trigger logic in force, taken at admission (R292). -/
def State.trigCfg (s : State) (st : Nat) : TrigCfg :=
  { terms := (List.range 16).map fun i =>
      (s.rd OD.TERM_P (chUnit st i), s.rd OD.TERM_N (chUnit st i), s.rd OD.TERM_OUT (chUnit st i)),
    thr := s.rd OD.TL_THR st, thrMode := s.rd OD.TL_THR_MODE st, accSrc := s.rd OD.TL_ACC_SRC st }

/-- Score comparator inputs [27:24] (R290). -/
def scoreInputs (c : TrigCfg) (score : Int) : Nat :=
  (List.range 4).foldl (fun m j =>
    let thr := toSigned 16 (bits c.thr (16 * j) 16)
    let mode := bits c.thrMode (2 * j) 2
    m + b2n ((mode = 1 && decide (thr ≤ score)) || (mode = 2 && decide (score < thr))) * 2 ^ j) 0

/-- A term is true (R291). -/
def termTrue (inp : Nat) (t : Nat × Nat × Nat) : Bool := decide (inp &&& t.1 = t.1) && decide (inp &&& t.2.1 = 0)

/-- Logic bits: the OR of the output masks of true terms (R291). -/
def logicBits (c : TrigCfg) (inp : Nat) : Nat :=
  c.terms.foldl (fun m t => if termTrue inp t then m ||| t.2.2 % 256 else m) 0

/-- Accept bit `k` as released, and whether it counts for G (R292, R294). -/
def acceptBit (src : Nat) (prog logic : Bool) : Bool × Bool :=
  let a := if src = 0 then prog else if src = 1 then logic else if src = 2 then prog && logic else prog || logic
  (a, decide (src ≠ 0) && a && logic)

/-- A record through the trigger logic, or at its fail-safe value when it carries V or RP (R292, R293). -/
def State.decideRecord (s : State) (st : Nat) (f : Flight) (r : Rec) : Rec :=
  if r.void || r.repair then
    { r with accept := s.rd OD.FS_ACCEPT st, score := s.rdI OD.FS_SCORE st, logic := false }
  else
    let inp := f.inputs % 2 ^ 24 + scoreInputs f.cfg r.score * 2 ^ 24 + r.accept % 16 * 2 ^ 28
    let lg := logicBits f.cfg inp
    let ab := (List.range 8).map fun k => acceptBit (bits f.cfg.accSrc (2 * k) 2) (bit r.accept k) (bit lg k)
    let acc := ((List.range 8).zip ab).foldl (fun m p => m + b2n p.2.1 * 2 ^ p.1) 0
    { r with accept := acc, logic := ab.any fun p => p.2 }

/-! ### Deadlines (R46, R47) -/

/-- A pulse joins the one before it where they overlap; pulses over by a cycle are dropped (R295). -/
def addPulse (ps : List (Nat × Nat)) (lo hi cycle : Nat) : List (Nat × Nat) :=
  match ps.filter fun p => decide (cycle < p.2) with
  | p :: rest => if lo ≤ p.2 then (p.1, max p.2 hi) :: rest else (lo, hi) :: p :: rest
  | [] => [(lo, hi)]

/-- A stream's contribution to a pin of its die after a release at a cycle (R295). -/
def State.pinRelease (s : State) (pin st cycle accept : Nat) : State :=
  let cfg := s.rd OD.PIN_CFG pin
  let a := bit accept (bits cfg 0 3)
  let old := SMap.get {} s.pins (64 * pin + st)
  let lo := cycle + 10
  let new : PinPart :=
    if bits cfg 3 2 = 2 then { old with levels := ((lo, a) :: old.levels).take 12 }
    else if bits cfg 3 2 = 1 ∧ a then { old with pulses := addPulse old.pulses lo (lo + bits cfg 16 16) cycle }
    else old
  if bit (s.rd OD.PIN_STREAMS pin) st then { s with pins := SMap.set {} s.pins (64 * pin + st) new } else s

/-- Pins of a stream's home die (R11). -/
def State.pinsOf (s : State) (st : Nat) : List Nat := [2 * s.homeDie st, 2 * s.homeDie st + 1]

/-- The entry of a schedule in force at a cycle. -/
def inForce (d : Bool) (l : List (Nat × Bool)) (cycle : Nat) : Bool := (l.find? fun p => decide (p.1 ≤ cycle)).elim d Prod.snd

/-- A stream's contribution to a pin at a cycle. -/
def State.pinPart (s : State) (pin cycle st : Nat) : Bool :=
  let cfg := s.rd OD.PIN_CFG pin
  let p := SMap.get {} s.pins (64 * pin + st)
  if inForce true (s.dec st).failsafe cycle then
    bit (s.rd OD.FS_ACCEPT st) (bits cfg 0 3) ||
      (decide (bits cfg 3 2 = 1) && p.pulses.any fun x => decide (x.1 ≤ cycle ∧ cycle < x.2))
  else if bits cfg 3 2 = 2 then inForce false p.levels cycle
  else p.pulses.any fun x => decide (x.1 ≤ cycle ∧ cycle < x.2)

/-- Level of a TRIGOUT pin at a cycle (R17, R295, R296): streams of its own die contribute, an unfed one nothing. -/
def State.pinLevel (s : State) (pin cycle : Nat) : Bool :=
  let cfg := s.rd OD.PIN_CFG pin
  let on := decide (bits cfg 3 2 ≠ 0) &&
    (maskStreams (s.rd OD.PIN_STREAMS pin)).any fun st => s.fed st && decide (s.homeDie st = pin / 2) && s.pinPart pin cycle st
  on != bit cfg 5

/-- A stream's outputs go to, or leave, the fail-safe level from a cycle on (R178, R296). -/
def Decide.setFailsafe (d : Decide) (v : Bool) (cycle : Nat) : Decide :=
  if (d.failsafe.headD (0, true)).2 = v then d else { d with failsafe := ((cycle, v) :: d.failsafe).take 12 }

/-! ### Decision lanes (R270 to R272) -/

/-- E0 and the cut-off of rank 0 with its step, by TX_LOCK (R270). -/
def lockTiming (lock : Nat) : Nat × Nat :=
  if lock = 1 then (12, 32) else if lock = 2 then (12, 16) else if lock = 3 then (12, 8) else if lock = 4 then (12, 4)
  else if lock = 5 then (16, 4) else (20, 1)

/-- Streams of a decision lane in rank order (R271). -/
def mapStreams (n : Nat) : List Nat := ((List.range 16).map fun i => bits n (8 * i) 8).takeWhile fun b => decide (b ≠ 0xFF)

def State.laneMap (s : State) (l : Nat) : List Nat := mapStreams (s.rd OD.TX_DEC_MAP l)

/-- Cycle of the cut-off of a rank on a lane, for a deadline (R272). -/
def State.cutoff (s : State) (l d rank : Nat) : Nat :=
  d + (lockTiming (s.rd OD.TX_LOCK (l / 4))).2 * (rank + 1)

/-- The substitute a lane or the monitor sends: fail-safe bits and score, the expected tag, late and void (R47, R272). -/
def State.substitute (s : State) (st ftag : Nat) : Rec :=
  { accept := s.rd OD.FS_ACCEPT st, score := s.rdI OD.FS_SCORE st, ftag := ftag, late := true, void := true, stream := st }

/-- Bytes of a burst: 7-byte header, payload, CRC-32, and in a 64B/66B coding four zeros after the CRC (R268). -/
def burstBytes (kind count lane bseq ftag : Nat) (payload : List Byte) (blocks : Bool) : List Byte :=
  let pay := if blocks then padMult 8 payload else payload
  let body := [BitVec.ofNat 8 kind, BitVec.ofNat 8 count, BitVec.ofNat 8 lane, BitVec.ofNat 8 bseq] ++ leBytes 2 ftag ++
    [0] ++ pay
  body ++ leBytes 4 (crc32 body) ++ (if blocks then [0, 0, 0, 0] else [])

/-- A burst whose slots are all filled and whose marker has left is complete. -/
def State.finishBurst (s : State) (l : Nat) : State :=
  match (s.lane l).burst with
  | none => s
  | some b =>
    if b.started ∧ b.slots.all Option.isSome then
      let pay := (b.slots.map fun w => leBytes 8 (w.getD 0).toNat).flatten
      let w := burstBytes 1 b.slots.length l (s.lane l).bseq b.ftag pay (s.txBlocks l)
      s.updLane l fun x => { x with wire := w, bseq := (x.bseq + 1) % 256, burst := none }
    else s

/-- A record released by its cut-off takes its slot in a burst under way (R272). -/
def State.fillSlot (s : State) (l : Nat) (r : Rec) (deadline cycle : Nat) : State :=
  match (s.lane l).burst with
  | none => s
  | some b =>
    match (s.laneMap l).findIdx? (fun x => decide (x = r.stream)) with
    | none => s
    | some k =>
      if b.deadline = deadline ∧ b.slots.getD k none = none ∧ cycle ≤ s.cutoff l deadline k then
        (s.updLane l fun x => { x with burst := some { b with slots := b.slots.set k (some r.bits) } }).finishBurst l
      else s

/-- Lanes of a die that carry decisions (R268). -/
def State.decisionLanes (s : State) (d : Nat) : List Nat :=
  ((List.range 16).map fun i => 16 * d + i).filter fun l => decide (s.rd OD.TX_KIND l = 1)

/-! ### Release (R47, R293, R297) -/

/-- A capture trigger of tick n meets the engine of its stream (R299, R300): accepted in FILL or ARMED when n − CAPT_PRE
is at or after the arm; in POST ignored when the segment covers it, otherwise held until that segment has ended. -/
def State.engineTrigger (s : State) (st tick : Nat) (r : Rec) (hdr : List Nat) : State :=
  let c := s.cap st
  let g := SMap.get {} c.segs c.cur
  let n0 := (g.trig.elim 0 Prod.fst)
  if c.st = 4 then s.updCap st fun c => { c with lost := min (c.lost + 1) (2 ^ 32 - 1) }
  else if (c.st = 1 ∨ c.st = 2) ∧ g.armTick + s.rd OD.CAPT_PRE st ≤ tick then
    s.updCap st fun c => { c with st := 3, segs := SMap.set {} c.segs c.cur { g with trig := some (tick, r), hfields := hdr } }
  else if c.st = 3 ∧ n0 + s.rd OD.CAPT_POST_EFF st ≤ tick then
    s.updCap st fun c => { c with trigs := c.trigs ++ [(tick, r, hdr)] }
  else s.inc OD.TRIG_IGNORED st

/-- A capture trigger (R297). -/
def State.captureTrigger (s : State) (st : Nat) (f : Flight) (r : Rec) : State :=
  if r.void ∨ r.accept &&& s.rd OD.CAPT_TRIG_MASK st = 0 then s
  else (s.wr OD.TRIG_CNT st ((s.rd OD.TRIG_CNT st + 1) % 2 ^ 48)).engineTrigger st f.tick r f.hdr

/-- A repair window notes its first repaired tick, and ends with the last record of a frame before the connection (R479). -/
def State.noteRepair (s : State) (st tick cycle : Nat) : State :=
  let note (r : Repair) : Repair :=
    if bit r.mask st ∧ r.detected + 64 ≤ cycle ∧ r.first = none ∧ (r.connect.all fun c => decide (tick < c)) then
      { r with first := some tick } else r
  let done (r : Repair) : Bool := match r.connect with
    | none => false
    | some c => (maskStreams r.mask).all fun x => (s.dec x).flights.all fun f => decide (c ≤ f.tick)
  { s with faults.repairs := (s.faults.repairs.map note).filter fun r => !done r }

/-- The oldest frame's record is released at a cycle; one with L and V is a substitute, whose CAUSE is 0 (R49, R294). -/
def State.release (s : State) (st : Nat) (f : Flight) (r : Rec) (cycle : Nat) : State :=
  let rep := s.repairing st f.tick cycle
  let r := if rep then { r with repair := true, cause := if r.void && decide (r.cause ≠ 0) then r.cause else 6, void := true }
    else r
  let r := if r.late && r.void then { r with cause := 0 } else r
  let r := s.decideRecord st f r
  let s := s.noteRepair st f.tick cycle
  let s := s.updDec st fun d =>
    let fl := d.flights.drop 1
    let d := (d.setFailsafe false (cycle + 10)).setFailsafe (!s.act.admitOn && decide (fl = [])) (cycle + 10)
    { d with flights := fl,
             buffer := d.buffer.filter fun x => decide (x.1.ftag ≠ f.tick % 2 ^ 16),
             released := ((r, cycle, f.deadline) :: d.released).take 64 }
  let s := (s.pinsOf st).foldl (fun s p => s.pinRelease p st cycle r.accept) s
  let s := (s.decisionLanes (s.homeDie st)).foldl (fun s l => s.fillSlot l r f.deadline cycle) s
  let s := if r.late then (s.inc OD.LATE_COUNT st).inc OD.LATE_TOTAL 0 else s
  let s := if s.rd OD.PLUCK_STREAM = st ∧ r.void = false ∧ r.accept &&& s.rd OD.PLUCK_MASK ≠ 0 then s.pluckFrom 0 cycle 0 else s
  s.captureTrigger st f r

/-- The record of a frame waiting in the deadline buffer. -/
def Decide.held (d : Decide) (f : Flight) : Option (Rec × Nat) :=
  d.buffer.find? fun x => decide (x.1.ftag = f.tick % 2 ^ 16)

/-- DEADLINE_MISS: the substitute of the oldest frame leaves at D + TICKDIV − 1 (R47). -/
def State.missOldest (s : State) (st : Nat) (f : Flight) : State :=
  let c := f.deadline + s.tickdiv - 1
  let s := s.advanceTo c
  let s := s.updDec st fun d => { d with substituted := f.tick :: d.substituted.filter fun t => decide (f.tick < t + 2 ^ 16) }
  let s := s.release st f (s.substitute st (f.tick % 2 ^ 16)) c
  (s.inc OD.SUBST_TOTAL 0).raise 0x0201 (dieUnit (s.homeDie st)) st

/-- STALE_RECORD: void and stale, with fail-safe values, at the deadline under the old P (R188). -/
def State.staleOldest (s : State) (st : Nat) (f : Flight) : State :=
  let s := s.advanceTo f.deadline
  s.release st f { ftag := f.tick % 2 ^ 16, void := true, stale := true, stream := st,
                   cause := if f.void then f.cause else 4 } f.deadline

/-- The oldest frame's held record leaves at its deadline (R47). -/
def State.releaseOldest (s : State) (st : Nat) (f : Flight) (r : Rec) : State :=
  (s.advanceTo f.deadline).release st f r f.deadline

/-- Everything of a stream that is due before a cycle leaves first, in frame-tag order (R48); a record that comes at D + TICKDIV − 1
meets its substitute (R47). -/
def State.settle (st c : Nat) : Nat → State → State
  | 0, s => s
  | n + 1, s =>
    match (s.dec st).flights with
    | [] => s
    | f :: _ =>
      match (s.dec st).held f with
      | some (r, _) => if f.deadline < c then State.settle st c n (s.releaseOldest st f r) else s
      | none =>
        if f.stale then (if f.deadline < c then State.settle st c n (s.staleOldest st f) else s)
        else if f.deadline + s.tickdiv - 1 ≤ c then State.settle st c n (s.missOldest st f) else s

/-- The smallest margin seen (R52). -/
def State.margin (s : State) (st : Nat) (m : Int) : State :=
  if m < s.rdI OD.MIN_MARGIN st then s.wrI OD.MIN_MARGIN st m else s

/-- A record discarded after its substitute: counted, with MIN_MARGIN as it was (R48; log entry 142). -/
def State.lateDrop (s : State) (st tick : Nat) : State :=
  (s.updDec st fun d => { d with substituted := d.substituted.erase tick }).inc OD.LATE_DROP_TOTAL 0

/-- A record on its way from the fabric that may reach the decision port of a stream by a cycle: emitted at least the 4 cycles of
the port before (R17, R41, R83). -/
def Fabric.recordFor (f : Fabric) (st : Nat) (w : Word64) (epoch cycle : Nat) : Option RecOut :=
  f.recordsOut.find? fun r => decide (r.bits = w ∧ r.epoch = epoch ∧ r.cycle + 4 ≤ cycle ∧ Sys2Proof.bits w.toNat 46 6 = st)

/-- A record of another epoch is discarded at the decision port as a stale token, and recorded by the die's error unit (R70,
R186). -/
def State.staleAtPort (s : State) (st : Nat) : State :=
  (s.inc OD.STALE_TOKEN_TOTAL 0).raise 0x0002 (dieUnit (s.homeDie st)) st

/-- A record of the present epoch at the deadline buffer: held to its deadline, released at once when late, or discarded after its
substitute. A void record that comes late is released with both flags, and is not counted as a substitute (R47 to R50; log
entry 142). -/
def State.recordIn (s : State) (st : Nat) (r : Rec) (cycle : Nat) : State :=
  match (s.dec st).flights.find? (fun f => decide (f.tick % 2 ^ 16 = r.ftag)) with
  | none => match (s.dec st).substituted.find? (fun t => decide (t % 2 ^ 16 = r.ftag)) with
    | some t => s.lateDrop st t
    | none => s
  | some f =>
    let s := s.margin st ((f.deadline : Int) - cycle)
    if cycle ≤ f.deadline then
      if ((s.dec st).held f).isSome then s else s.updDec st fun d => { d with buffer := d.buffer ++ [(r, cycle)] }
    else if (s.dec st).flights.head? = some f then s.release st f { r with late := true } cycle
    else s

/-- RECORD_ARRIVAL: a record that a core has emitted for a stream reaches its deadline buffer at a cycle, while that holds fewer
than 64 (R45 to R48). -/
def execRecordArrival (stream : Fin 64) (record : Word64) (epoch : Fin 8) (cycle : Nat) (s : State) : Answer :=
  let st := stream.val
  let s := s.advanceTo cycle
  match s.fabric.recordFor st record epoch s.now with
  | none => .next s
  | some o =>
    if epoch.val ≠ s.rd OD.EPOCH then .next ({ s with fabric.recordsOut := s.fabric.recordsOut.erase o }.staleAtPort st)
    else
      let s := State.settle st cycle 65 s
      if 64 ≤ (s.dec st).buffer.length then .next s
      else .next ({ s with fabric.recordsOut := s.fabric.recordsOut.erase o }.recordIn st (Rec.ofBits st record) cycle)

/-- RECORD_RELEASE (R47). -/
def execRecordRelease (stream : Fin 64) (s : State) : Answer :=
  match (s.dec stream).flights with
  | [] => .next s
  | f :: _ =>
    match (s.dec stream).held f with
    | some (r, _) => .next (s.releaseOldest stream f r)
    | none => .next s

/-- DEADLINE_MISS (R47). -/
def execDeadlineMiss (stream : Fin 64) (s : State) : Answer :=
  match (s.dec stream).flights with
  | [] => .next s
  | f :: _ => if f.stale ∨ ((s.dec stream).held f).isSome then .next s else .next (s.missOldest stream f)

/-- STALE_RECORD (R188). -/
def execStaleRecord (stream : Fin 64) (s : State) : Answer :=
  match (s.dec stream).flights with
  | [] => .next s
  | f :: _ => if f.stale ∧ ((s.dec stream).held f).isNone then .next (s.staleOldest stream f) else .next s

/-- TRIGOUT_PULSE_END: the oldest pulse of a stream on a pin ends (R295). -/
def execTrigoutPulseEnd (pin : Fin 8) (stream : Fin 64) (s : State) : Answer :=
  let k := 64 * pin.val + stream.val
  let p := SMap.get {} s.pins k
  match p.pulses.getLast? with
  | none => .next s
  | some x =>
    let s := s.advanceTo x.2
    .next { s with pins := SMap.set {} s.pins k { p with pulses := p.pulses.dropLast } }

/-! ### Bursts of decisions (R271, R272) -/

/-- Deadlines of a lane's streams not yet sent: of frames in flight and of records released. -/
def State.burstDeadlines (s : State) (l : Nat) : List (Nat × Nat) :=
  ((s.laneMap l).map fun st =>
    ((s.dec st).flights.map fun f => (f.deadline, f.tick % 2 ^ 16)) ++
      (s.dec st).released.map fun x => (x.2.2, x.1.ftag)).flatten

/-- The next burst of a lane: the earliest deadline after the last one begun. -/
def State.nextBurst (s : State) (l : Nat) : Option Burst :=
  let ds := (s.burstDeadlines l).filter fun d => decide ((s.lane l).lastBurst < d.1)
  (ds.foldl (fun (o : Option (Nat × Nat)) d => match o with
    | none => some d
    | some x => if d.1 < x.1 then some d else o) none).map fun d =>
      { deadline := d.1, ftag := d.2, slots := (s.laneMap l).map fun _ => none }

/-- The burst in preparation, made if there is none. -/
def State.ensureBurst (s : State) (l : Nat) : State :=
  match (s.lane l).burst with
  | some _ => s
  | none => match s.nextBurst l with
    | some b => s.updLane l fun x => { x with burst := some b, lastBurst := b.deadline }
    | none => s

/-- A slot without a record by its cut-off takes a lane substitute (R272). -/
def State.substSlot (s : State) (l k : Nat) : State :=
  match (s.lane l).burst with
  | none => s
  | some b =>
    if k < b.slots.length ∧ b.slots.getD k none = none then
      let r := s.substitute ((s.laneMap l).getD k 0) b.ftag
      (s.updLane l fun x => { x with burst := some { b with slots := b.slots.set k (some r.bits) } }).inc OD.LANE_SUBST l
    else s

/-- Slots whose records have been released by their cut-off. -/
def State.fillReleased (s : State) (l : Nat) : State :=
  (s.laneMap l).foldl (fun s st =>
    match (s.lane l).burst with
    | none => s
    | some b => match (s.dec st).released.find? (fun x => decide (x.2.2 = b.deadline)) with
      | some x => s.fillSlot l x.1 x.2.2 x.2.1
      | none => s) s

/-- Every open slot whose cut-off lies at or before a cycle is substituted. -/
def State.substDue (s : State) (l c : Nat) : State :=
  match (s.lane l).burst with
  | none => s
  | some b => (List.range b.slots.length).foldl (fun s k =>
      if s.cutoff l b.deadline k ≤ c then s.substSlot l k else s) s

/-- A lane whose transmit side is not in DATA sends no burst; its records are discarded (R273). -/
def State.dropBurst (s : State) (l : Nat) : State :=
  match (s.lane l).burst with
  | none => s
  | some b => (s.updLane l fun x => { x with burst := none }).inc OD.TX_DISCARD l b.slots.length

/-- DECISION_BURST: at D + E0 the marker leaves (R271). A burst still open closes first. -/
def execDecisionBurst (lane : Fin 64) (s : State) : Answer :=
  let l := lane.val
  if s.rd OD.TX_KIND l ≠ 1 then .next s
  else
    let open_ := ((s.lane l).burst.any fun b => b.started)
    let s := if open_ then (s.substDue l (s.now + 2 ^ 16)).finishBurst l else s
    let s := s.ensureBurst l
    match (s.lane l).burst with
    | none => .next s
    | some b =>
      if s.rd OD.TX_STATE l ≠ 7 then .next (s.dropBurst l)
      else
        let e0 := (lockTiming (s.rd OD.TX_LOCK (l / 4))).1
        let s := s.advanceTo (b.deadline + e0)
        let s := s.fillReleased l
        let s := s.substDue l (b.deadline + e0)
        let s := s.updLane l fun x => { x with burst := x.burst.map fun b => { b with started := true } }
        let s := s.sendUnits l (if s.txBlocks l then b.slots.length + 2 else 12 + 8 * b.slots.length)
        .next (s.finishBurst l)

/-- LANE_SUBSTITUTE: at the cut-off of a rank its slot takes a lane substitute, unless its record has been released (R272). -/
def execLaneSubstitute (lane : Fin 64) (rank : Fin 16) (s : State) : Answer :=
  let l := lane.val
  if s.rd OD.TX_KIND l ≠ 1 then .next s
  else
    let s := s.ensureBurst l
    match (s.lane l).burst with
    | none => .next s
    | some b =>
      let s := s.advanceTo (s.cutoff l b.deadline rank)
      .next (((s.fillReleased l).substSlot l rank).finishBurst l)

end Sys2Proof.Machine
end

