-- ==== Sys2Proof/Machine/Capture.lean ====
section
/-! DEFINITION. The capture engine: the ring of a stream (R298 to R302), overflow (R303), the mask test (R304 to R306), the
deep gate (R307) and readout (R308, R309). -/

namespace Sys2Proof

/-- Last tick a segment holds. -/
def Machine.Seg.last (g : Machine.Seg) : Nat := g.first + g.nticks - 1

end Sys2Proof

namespace Sys2Proof.Machine

/-! ### Layout (R298, R300, R301) -/

/-- Bytes of a capture frame (R298). -/
def State.captFb (s : State) (st : Nat) : Nat :=
  if s.rd OD.CAPT_SRC st = 0 then s.regionBytes st else 3 * s.rd OD.ST_NCH st

/-- POST_EFF (R300), for a program latency P and a TICKDIV. -/
def State.postEffFor (s : State) (st p tickdiv : Nat) : Nat :=
  max (s.rd OD.CAPT_POST st) (ceilDiv (12 + p + tickdiv + 64) tickdiv)

/-- Bytes of the data area of W frames of FB bytes, and of the void map (R301). -/
def dataArea (w fb : Nat) : Nat := ceilDiv (w * fb) 64 * 64
def voidArea (w : Nat) : Nat := ceilDiv (ceilDiv w 8) 64 * 64

/-- SEG_STRIDE (R301). -/
def segStride (w fb : Nat) : Nat := 128 + dataArea w fb + voidArea w

/-- The layout entries of every stream, taken anew at an activation (R300, R301). -/
def State.captLayout (s : State) (p tickdiv : Nat) : State :=
  (streams.foldl (fun (a : State × Nat) st =>
    let s := a.1
    let pe := s.postEffFor st p tickdiv
    let n := s.rd OD.SEG_COUNT st
    let stride := segStride (s.rd OD.CAPT_PRE st + pe) (s.captFb st)
    let s := s.wr OD.CAPT_POST_EFF st pe
    if n = 0 then ((s.wr OD.SEG_STRIDE st 0).wr OD.RING_BASE st 0, a.2)
    else ((s.wr OD.SEG_STRIDE st stride).wr OD.RING_BASE st a.2, a.2 + n * stride)) (s, captBase)).1

/-- A segment by slot; its status is FREE unless listed. -/
def State.seg (s : State) (st slot : Nat) : Seg := SMap.get {} (s.cap st).segs slot

/-- HBM address of a segment, fixed when it was armed (R299, R301). -/
def State.segBase (s : State) (st slot : Nat) : Nat := (s.seg st slot).base

def State.setSeg (s : State) (st slot : Nat) (g : Seg) : State :=
  s.updCap st fun c => { c with segs := SMap.set {} c.segs slot g }

/-- Ring position of a tick (R301). -/
def Seg.pos (g : Seg) (tick : Nat) : Nat := if g.w = 0 then 0 else (tick - g.armTick) % g.w

/-- The void bit at a ring position. -/
def State.voidBit (s : State) (st slot : Nat) (g : Seg) (pos : Nat) : Bool :=
  bit (s.hbm.read (s.segBase st slot + 128 + dataArea g.w g.fb + pos / 8)).toNat (pos % 8)

/-! ### Freeing and readiness -/

/-- A segment becomes FREE; a lane that holds it for readout lets it go. -/
def State.freeSeg (s : State) (st slot : Nat) : State :=
  let s := s.setSeg st slot {}
  let l := s.rd OD.RO_LANE st
  if l < 64 then
    s.updLane l fun x =>
      { x with chunk := if x.readoutQ.head? = some (st, slot) then 0 else x.chunk, readoutQ := x.readoutQ.erase (st, slot) }
  else s

/-- A segment is freed unsent and counted (R305, R307, R308). -/
def State.discardSeg (s : State) (st slot : Nat) : State := (s.freeSeg st slot).inc OD.SEG_DISCARD st

/-- Header of a segment (R302). -/
def State.segHeader (s : State) (st : Nat) (g : Seg) : List Byte :=
  let t := g.trig.elim 0 Prod.fst
  let r := g.trig.elim {} Prod.snd
  let flags := b2n g.ovf + 2 * b2n g.trunc + 4 * b2n g.tested + 8 * b2n g.failed + 16 * b2n g.averaged + 32 * b2n g.kept +
    64 * b2n g.gateTimeout
  leBytes 4 g.segno ++ leBytes 1 st ++ leBytes 1 flags ++ leBytes 1 r.accept ++
    leBytes 1 (b2n r.late + 2 * b2n r.sat + 4 * b2n r.repair) ++ leBytes 6 (t % 2 ^ 48) ++ leBytes 6 (g.first % 2 ^ 48) ++
    leBytes 4 g.nticks ++ leBytes 2 g.fb ++ leBytes 2 (ofSigned 16 r.score) ++ leBytes 4 g.ovfLost ++ leBytes 4 g.voids ++
    leBytes 4 g.viol ++ leBytes 4 (g.violFirst % 2 ^ 24 + 2 ^ 24 * g.violCh) ++ leBytes 4 (windowOf t % 2 ^ 32) ++
    leBytes 4 (s.resultTag t) ++ (padTo 0 8 g.hfields).flatMap (leBytes 2) ++ leBytes 4 (g.pos g.first) ++ List.replicate 56 0

/-- The header is written to HBM. -/
def State.writeHeader (s : State) (st slot : Nat) : State :=
  s.hbmWrites (s.segBase st slot) (s.segHeader st (s.seg st slot))

/-- A segment becomes READY, and joins its readout lane's queue (R308). -/
def State.readySeg (s : State) (st slot : Nat) : State :=
  let s := s.setSeg st slot { s.seg st slot with status := 4 }
  let l := s.rd OD.RO_LANE st
  if l < 64 then s.updLane l fun x => { x with readoutQ := x.readoutQ ++ [(st, slot)] } else s

/-- The deep gate is on for a stream (R307). -/
def State.gated (s : State) (st : Nat) : Bool := decide (s.rd OD.RO_GATE st = 1 ∧ s.rd OD.DSLOT_LOG ≠ 0)

/-- A gated segment is settled: kept, or freed unsent (R307). -/
def State.settleGate (s : State) (st slot ro : Nat) (byVerdict : Bool) : State :=
  if ro = 1 then
    let g := s.seg st slot
    let s := s.setSeg st slot { g with kept := g.kept || byVerdict, gateTimeout := g.gateTimeout || !byVerdict }
    (s.writeHeader st slot).readySeg st slot
  else if byVerdict then s.discardSeg st slot else s.freeSeg st slot

/-- A tick lies within a segment. -/
def Seg.holds (g : Seg) (tick : Nat) : Bool := decide (g.first ≤ tick ∧ tick < g.first + g.nticks)

/-- A tested segment goes to GATED, where a held verdict may settle it at once, or to READY (R307). -/
def State.afterTest (s : State) (st slot : Nat) : State :=
  let s := s.writeHeader st slot
  if s.gated st then
    let g := s.seg st slot
    let v := (s.cap st).verdicts.find? fun v => g.holds v.1
    let s := s.setSeg st slot { g with status := 3 }
    let s := s.updCap st fun c => { c with verdicts := c.verdicts.filter fun v => decide (g.first + g.nticks ≤ v.1) }
    match v with
    | some v => s.settleGate st slot v.2 true
    | none => s
  else s.readySeg st slot

/-- Slots of a stream in a status, in order of completion. -/
def State.slotsIn (s : State) (st status : Nat) : List Nat :=
  (sortBy (fun p : Nat × Seg => p.2.first) ((s.cap st).segs.filter fun p => decide (p.2.status = status))).map Prod.fst

/-- GATE_VERDICT (R307): READOUT 1 or 2 of a deep record that is not void. -/
def State.gateVerdict (s : State) (st tick ro : Nat) : State :=
  if ro = 1 ∨ ro = 2 then
    match (s.slotsIn st 3).find? fun k => (s.seg st k).holds tick with
    | some k => s.settleGate st k ro true
    | none =>
      let c := s.cap st
      let writing := decide (1 ≤ c.st ∧ c.st ≤ 3) && decide ((SMap.get {} c.segs c.cur).armTick ≤ tick)
      let testing := (s.slotsIn st 2).any fun k => (s.seg st k).holds tick
      if writing || testing then s.updCap st fun c => { c with verdicts := c.verdicts ++ [(tick, ro)] } else s
  else s

/-! ### Arming, stopping, completing (R299, R303) -/

/-- Capture of a stream stops, and counts an overflow (R303). -/
def State.captOverflow (s : State) (st reason : Nat) : State :=
  let s := s.updCap st fun c => { c with st := 4, reason := reason, ovfNext := true, queue := [] }
  (s.inc OD.CAPT_OVF st).raisePkg 0x0701 st

/-- An arm at tick F: the next segment in ring order, which must be FREE (R299). -/
def State.armAt (s : State) (st f : Nat) : State :=
  let c := s.cap st
  let n := s.rd OD.SEG_COUNT st
  if n = 0 ∨ (c.st ≠ 0 ∧ c.st ≠ 4) then s
  else if (s.seg st c.nextSlot).status ≠ 0 then s.captOverflow st 3
  else
    let g : Seg := { status := 1, segno := s.rd OD.SEG_NEXT st, armTick := f,
                     base := s.rd OD.RING_BASE st + c.nextSlot * s.rd OD.SEG_STRIDE st,
                     w := s.rd OD.CAPT_PRE st + s.rd OD.CAPT_POST_EFF st, fb := s.captFb st, ovf := c.ovfNext,
                     ovfLost := c.lost, averaged := decide (s.rd OD.CAPT_SRC st = 1) }
    let s := s.updCap st fun c =>
      { c with segs := SMap.set {} c.segs c.nextSlot g, cur := c.nextSlot, nextSlot := (c.nextSlot + 1) % n,
               st := if s.rd OD.CAPT_PRE st = 0 then 2 else 1, reason := 0, ovfNext := false, lost := 0 }
    s.wr OD.SEG_NEXT st ((s.rd OD.SEG_NEXT st + 1) % 2 ^ 32)

/-- The segment in progress closes with the ticks up to `last` (R299, R302): held ticks, void ticks, and its test, gate or
readiness. -/
def State.closeSeg (s : State) (st last : Nat) (trunc : Bool) : State :=
  let slot := (s.cap st).cur
  let g := s.seg st slot
  let n0 := g.trig.elim 0 Prod.fst
  let first := n0 - s.rd OD.CAPT_PRE st
  let nt := last + 1 - first
  let voids := (List.range nt).countP fun i => s.voidBit st slot g (g.pos (first + i))
  let s := s.setSeg st slot { g with status := 2, first := first, nticks := nt, trunc := trunc, voids := voids }
  let s := if trunc then s else s.inc OD.SEG_DONE st
  if !trunc && decide (s.rd OD.MASK_TAB st ≠ 0xFF) then s else s.afterTest st slot

/-- Capture triggers that waited for the end of a segment meet the engine again (R299, R300). -/
def State.waitingTrigs (s : State) (st : Nat) : State :=
  let ts := (s.cap st).trigs
  let s := s.updCap st fun c => { c with trigs := [] }
  ts.foldl (fun s t => s.engineTrigger st t.1 t.2.1 t.2.2) s

/-- The last tick of a segment in POST has been written (R299). -/
def State.completeSeg (s : State) (st last : Nat) : State :=
  let s := s.closeSeg st last false
  let s := s.updCap st fun c => { c with st := 0, reason := 0 }
  let s := if s.rd OD.CAPT_MODE st = 1 then s.armAt st (last + 1) else s
  s.waitingTrigs st

/-- CAPT_CMD = 2, an activation, or a mask stop: the segment in FILL or ARMED is freed, one in POST is closed with TRUNC at
the last tick written, and the stream is STOPPED (R299). -/
def State.stopAt (s : State) (st reason : Nat) (keepPost : Bool) : State :=
  let c := s.cap st
  let s := if c.st = 1 ∨ c.st = 2 then s.setSeg st c.cur {}
    else if c.st = 3 then (if keepPost then s.closeSeg st (c.seen - 1) true else s.setSeg st c.cur {})
    else s
  let s := s.updCap st fun c => { c with st := 4, reason := reason, queue := [] }
  s.waitingTrigs st

/-- CAPT_ARM: at the next tick boundary, in IDLE or STOPPED (R299). -/
def execCaptArm (stream : Fin 64) (s : State) : Answer :=
  if s.hostMay ∧ ¬ (1 ≤ (s.cap stream).st ∧ (s.cap stream).st ≤ 3) then
    .next ((s.noteWrites [(OD.CAPT_CMD, stream, 1)]).armAt stream s.nextTick)
  else .next s

/-- CAPT_STOP (R299). -/
def execCaptStop (stream : Fin 64) (s : State) : Answer :=
  if s.hostMay then .next ((s.noteWrites [(OD.CAPT_CMD, stream, 2)]).stopAt stream 1 true) else .next s

/-- OVF_REARM: a stream stopped by an overflow arms again once its copy queue is empty and the next segment FREE (R303). -/
def execOvfRearm (stream : Fin 64) (s : State) : Answer :=
  let c := s.cap stream
  if s.rd OD.OVF_REARM stream = 1 ∧ c.st = 4 ∧ (c.reason = 2 ∨ c.reason = 3) ∧ c.queue = [] ∧
      (s.seg stream c.nextSlot).status = 0 then .next (s.armAt stream s.nextTick)
  else .next s

/-- CAPT_FREE_TO: READY segments up to a number in serial order are freed (R310, R507). -/
def State.freeTo (s : State) (st segno : Nat) : State :=
  (s.slotsIn st 4).foldl (fun s k =>
    let g := s.seg st k
    if g.segno = segno ∨ serialGreater segno g.segno then s.freeSeg st k else s) s

def execCaptFreeTo (stream : Fin 64) (segno : Word32) (s : State) : Answer :=
  if s.hostMay then .next ((s.noteWrites [(OD.CAPT_FREE_TO, stream, segno.toNat)]).freeTo stream segno.toNat) else .next s

/-! ### Writing (R300, R301, R303) -/

/-- A capture frame enters the copy queue of its stream; a full one stops capture, case WRITE (R300, R303). -/
def State.captPush (s : State) (st : Nat) (f : CapFrame) : State :=
  let c := s.cap st
  if c.st = 0 ∨ c.st = 4 then s.updCap st fun c => { c with seen := f.tick + 1 }
  else if 64 ≤ c.queue.length then
    let mark := c.st = 3
    let s := if mark then s.setSeg st c.cur { s.seg st c.cur with ovf := true } else s
    let s := (s.stopAt st 2 true).captOverflow st 2
    s.updCap st fun c => { c with seen := f.tick + 1 }
  else s.updCap st fun c => { c with queue := c.queue ++ [f] }

/-- One byte with one bit set or cleared. -/
def setBit8 (b : Byte) (i : Nat) (v : Bool) : Byte :=
  BitVec.ofNat 8 (b.toNat - b2n (bit b.toNat i) * 2 ^ i + b2n v * 2 ^ i)

/-- A frame is written at its ring position with its void bit (R301). -/
def State.writeFrame (s : State) (st : Nat) (f : CapFrame) : State :=
  let slot := (s.cap st).cur
  let g := s.seg st slot
  let base := s.segBase st slot + 128
  let p := g.pos f.tick
  let s := s.hbmWrites (base + p * g.fb) (padTo 0 g.fb f.bytes)
  let va := base + dataArea g.w g.fb + p / 8
  s.hbmWrites va [setBit8 (s.hbm.read va) (p % 8) f.void]

/-- A frame whose triggers are all known goes to the ring (R299, R300). -/
def State.captWrite (s : State) (st : Nat) (f : CapFrame) : State :=
  let c := s.cap st
  let g := SMap.get {} c.segs c.cur
  let s := s.updCap st fun c => { c with queue := c.queue.drop 1, seen := f.tick + 1 }
  if c.st = 0 ∨ c.st = 4 ∨ f.tick < g.armTick then s
  else
    let s := s.writeFrame st f
    if c.st = 1 ∧ g.armTick + s.rd OD.CAPT_PRE st ≤ f.tick then s.updCap st fun c => { c with st := 2 }
    else if c.st = 3 ∧ g.trig.elim 0 Prod.fst + s.rd OD.CAPT_POST_EFF st ≤ f.tick + 1 then s.completeSeg st f.tick
    else s

/-- CAPTURE_FRAME_WRITE: the oldest frame m of the copy queue is written once the record of every tick up to m − POST_EFF
has left (R300). -/
def execCaptureFrameWrite (stream : Fin 64) (s : State) : Answer :=
  match (s.cap stream).queue with
  | [] => .next s
  | f :: _ =>
    let wait := (s.dec stream).flights.any fun x => decide (x.tick + s.rd OD.CAPT_POST_EFF stream ≤ f.tick)
    if wait then .next s else .next (s.captWrite stream f)

/-! ### Mask test (R304 to R306) -/

/-- Values of the tested channel in one capture frame. -/
def State.maskValues (s : State) (st : Nat) (g : Seg) (frame : List Byte) : List Int :=
  let c := s.rd OD.MASK_CH st
  if s.rd OD.ST_NCH st ≤ c then []
  else if g.averaged then
    let v := leNat ((frame.drop (3 * c)).take 3)
    [if s.rd OD.ST_SIGNED st = 1 then toSigned 24 v else (v : Int)]
  else s.channel st (leNat frame) c

/-- Value `x` with index `j` violates the table. -/
def State.violates (s : State) (st j : Nat) (x : Int) : Bool :=
  let tab := s.rd OD.MASK_TAB st
  let i := j >>> s.rd OD.MASK_DECIM st
  let p := SMap.get (0, 0) s.masks (4096 * tab + i)
  decide (i < s.rd OD.MASK_NPTS tab) && (decide (x < p.1) || decide (p.2 < x))

/-- Every value of a segment with its index; values of void ticks are skipped but keep their indices (log entry 24). -/
def State.maskRun (s : State) (st slot : Nat) (g : Seg) : List (Nat × Int) :=
  let per := if g.averaged then 1 else s.samplesPer st
  (List.range g.nticks).flatMap fun t =>
    let p := g.pos (g.first + t)
    if s.voidBit st slot g p then []
    else
      let fr := s.hbm.reads (s.segBase st slot + 128 + p * g.fb) g.fb
      let vs := s.maskValues st g fr
      (List.range vs.length).map fun k => (t * per + k, vs.getD k 0)

/-- Segments of a stream completed after a tick and not yet READY are freed unsent (R305). -/
def State.dropAfter (s : State) (st tick : Nat) : State :=
  ((s.cap st).segs.filter fun p => decide (2 ≤ p.2.status ∧ tick < p.2.first)).foldl (fun s p => s.discardSeg st p.1) s

/-- What a test's outcome does, by MASK_ACT (R305). -/
def State.maskAct (s : State) (st slot : Nat) (failed : Bool) : State :=
  let act := s.rd OD.MASK_ACT st
  if failed ∧ act = 1 then
    let s := (s.afterTest st slot).dropAfter st (s.seg st slot).first
    let s := s.stopAt st 4 false
    s.raisePkg 0x0702 st
  else if ¬ failed ∧ act = 2 then s.discardSeg st slot
  else s.afterTest st slot

/-- MASK_TEST_DONE: the oldest segment under test; `ueFirst` is the first index that an uncorrected read covers, `ce` says that a
word was corrected (R196, R304). -/
def execMaskTestDone (stream : Fin 64) (ueFirst : Option Nat) (ce : Bool) (s : State) : Answer :=
  let st := stream.val
  match s.slotsIn st 2 with
  | [] => .next s
  | slot :: _ =>
    let g := s.seg st slot
    let run := s.maskRun st slot g
    let bad := (run.filter fun v => decide (ueFirst = some v.1) || s.violates st v.1 v.2).map Prod.fst
    let bad := match ueFirst with
      | some j => if bad.contains j then bad else insertBy id j bad
      | none => bad
    let failed := !bad.isEmpty
    let s := if ueFirst.isSome then s.hbmUe else s
    let s := if ce then s.hbmRead .corrected else s
    let s := if failed then s.inc OD.MASK_FAILS st else s
    let s := s.setSeg st slot { g with tested := true, failed := failed, viol := min bad.length (2 ^ 32 - 1),
                                       violFirst := bad.headD 0, violCh := if failed then s.rd OD.MASK_CH st else 0 }
    .next (s.maskAct st slot failed)

/-- A stream names a mask table (R306). -/
def State.maskNamed (s : State) (tab : Nat) : Bool := streams.any fun st => decide (s.rd OD.MASK_TAB st = tab)

/-- A table takes no point: a stream names it, or MASK_IDX has run past its end (R306). -/
def State.maskLocked (s : State) (tab : Nat) : Bool := s.maskNamed tab || decide (4096 ≤ s.rd OD.MASK_IDX tab)

/-- LO and HI are stored at MASK_IDX of a table, which then advances (R306). -/
def State.maskPoint (s : State) (tab : Nat) (hi : Int) : State :=
  let i := s.rd OD.MASK_IDX tab
  if s.maskLocked tab then s
  else
    let lo := s.rdI OD.MASK_LO tab
    let s := { s with masks := SMap.set (0, 0) s.masks (4096 * tab + i) (lo, hi) }
    (s.wrI OD.MASK_HI tab hi).wr OD.MASK_IDX tab (i + 1)

/-- MASK_POINT_WRITE: refused while any stream names the table (R306). -/
def execMaskPointWrite (hi : Word32) (s : State) : Answer :=
  let tab := s.rd OD.MASK_TAB_SEL
  if s.maskLocked tab ∨ ¬ s.hostMay then .next s
  else .next ((s.noteWrites [(OD.MASK_HI, tab, hi.toNat)]).maskPoint tab hi.toInt)

/-! ### Deep gate timeout (R307) -/

/-- First tick after the RO_GATE_DS-th deep slot after the one that holds a tick (R199, R307). -/
def State.gateEnd (s : State) (st tick : Nat) : Nat :=
  s.act.tr + ((tick - s.act.tr) / 2 ^ s.rd OD.DSLOT_LOG + 1 + s.rd OD.RO_GATE_DS st) * 2 ^ s.rd OD.DSLOT_LOG

/-- GATE_TIMEOUT: the oldest GATED segment, once its deep slots have ended (R307). -/
def execGateTimeout (stream : Fin 64) (s : State) : Answer :=
  let st := stream.val
  match s.slotsIn st 3 with
  | [] => .next s
  | slot :: _ =>
    if s.gateEnd st (s.seg st slot).last ≤ s.nextTick then .next (s.settleGate st slot (s.rd OD.RO_DEFAULT st) false)
    else .next s

/-! ### Readout (R308, R309) -/

/-- Byte `i` of a segment's byte string: header, data in tick order from ROT, void map in the same order; what lies beyond
the last frame or bit of an area is sent as it stands. -/
def State.segByte (s : State) (st slot : Nat) (g : Seg) (i : Nat) : Byte :=
  let base := s.segBase st slot
  let rot := g.pos g.first
  let da := dataArea g.w g.fb
  if i < 128 then s.hbm.read (base + i)
  else if i < 128 + da then
    let k := i - 128
    if k < g.w * g.fb then s.hbm.read (base + 128 + (rot + k / g.fb) % g.w * g.fb + k % g.fb) else s.hbm.read (base + i)
  else
    let b := i - 128 - da
    BitVec.ofNat 8 ((List.range 8).foldl (fun n j =>
      let x := 8 * b + j
      n + b2n (s.voidBit st slot g (if x < g.w then (rot + x) % g.w else x)) * 2 ^ j) 0)

/-- The key (e, s) of a segment as one number (R309). -/
def State.roKey (s : State) (p : Nat × Nat) : Nat := (s.seg p.1 p.2).last * 64 + p.1

/-- Streams mapped to a readout lane. -/
def State.roStreams (s : State) (l : Nat) : List Nat :=
  streams.filter fun st => decide (s.rd OD.RO_LANE st = l ∧ s.rd OD.SEG_COUNT st ≠ 0)

/-- In STRICT mode a segment may start once every stream of its lane has written its last tick and no earlier segment of the
lane is still held (R309). -/
def State.roMayStart (s : State) (l : Nat) (p : Nat × Nat) : Bool :=
  (s.roStreams l).all fun st => decide ((s.seg p.1 p.2).last < (s.cap st).seen) &&
    (s.cap st).segs.all fun q => decide (q.2.status < 2 ∨ s.roKey p ≤ s.roKey (st, q.1))

/-- The segment whose chunk goes next on a lane: the one begun, else by order of readiness, or in STRICT by key (R309). -/
def State.roNext (s : State) (l : Nat) : Option (Nat × Nat) :=
  let q := (s.lane l).readoutQ
  if (s.lane l).chunk ≠ 0 ∨ s.rd OD.STRICT = 0 then q.head?
  else match (sortBy s.roKey q).head? with
    | some p => if s.roMayStart l p then some p else none
    | none => none

/-- READOUT_BURST: the next chunk of a READY segment leaves, read back as its check bits say (R196, R273, R308). -/
def execReadoutBurst (lane : Fin 64) (ecc : Ecc) (s : State) : Answer :=
  let l := lane.val
  let ue := decide (ecc = .uncorrected)
  let kind := s.rd OD.TX_KIND l
  if kind ≠ 3 ∧ kind ≠ 4 then .next s
  else match s.roNext l with
    | none => .next s
    | some (st, slot) =>
      let s := s.hbmRead ecc
      if s.rd OD.TX_STATE l ≠ 7 then .next ((s.inc OD.TX_DISCARD l).discardSeg st slot)
      else
        let g := s.seg st slot
        let x := s.lane l
        let size := segStride g.w g.fb
        let step := s.rd OD.RO_CHUNK
        let ofs := x.chunk * step
        let n := min step (size - ofs)
        let last := decide (size ≤ ofs + n)
        let desc := st + b2n (decide (x.chunk = 0)) * 2 ^ 6 + b2n last * 2 ^ 7 + x.chunk % 2 ^ 23 * 2 ^ 8 + b2n ue * 2 ^ 31 +
          g.segno * 2 ^ 32
        let pay := leBytes 8 desc ++ (List.range n).map fun i => s.segByte st slot g (ofs + i)
        let w := burstBytes 3 (n / 64) l x.bseq (g.segno % 2 ^ 16) pay (s.txBlocks l)
        let s := (s.sendBurst l w).updLane l fun x =>
          { x with wire := w, bseq := (x.bseq + 1) % 256, chunk := x.chunk + 1,
                   readoutQ := (st, slot) :: x.readoutQ.erase (st, slot) }
        .next (if last then s.freeSeg st slot else s)

end Sys2Proof.Machine
end

