-- ==== Sys2Proof/Machine/LineCode.lean ====
section
/-! DEFINITION. The line codes below lane blocks and bursts: 8b/10b (R252), 64B/66B blocks and their scrambler (R253), Gray code and
precoding of PAM4 (R254), the FEC (R261), the transmit FIR (R274) and the test patterns (R277). -/

namespace Sys2Proof.Machine

/-! ### 64B/66B (R253) -/

/-- A block before the scrambler: control (sync header 10) or data (01), and its eight bytes. -/
structure Block66 where
  ctrl : Bool
  bytes : List Byte
  deriving DecidableEq, Repr

/-- The idle block, and the marker block that holds the first seven bytes of a lane block or burst. -/
def idleBlock : Block66 := { ctrl := true, bytes := 0x1E :: List.replicate 7 0 }
def markerBlock (w : List Byte) : Block66 := { ctrl := true, bytes := 0x78 :: w.take 7 }

/-- What the device may find in a block. -/
inductive BlockUse where
  | filler | marker (bytes : List Byte) | data (bytes : List Byte)
  deriving DecidableEq, Repr

/-- A received block by the two bits of its sync header, first bit first; none is a code violation. -/
def blockUse (h0 h1 : Bool) (b : List Byte) : Option BlockUse :=
  if h0 = h1 then none
  else if h1 then some (.data b)
  else if b = idleBlock.bytes then some .filler
  else if b.headD 0 = 0x78 then some (.marker (b.drop 1))
  else none

/-- The data blocks of a run of bytes. -/
def dataBlocks (w : List Byte) : List Block66 :=
  (List.range (ceilDiv w.length 8)).map fun i => { ctrl := false, bytes := (w.drop (8 * i)).take 8 }

/-- The blocks of a burst. -/
def burstBlocks (w : List Byte) : List Block66 := if w = [] then [] else markerBlock w :: dataBlocks (w.drop 7)

/-- Bits of a byte as they are sent, least significant first. -/
def byteBits (b : Byte) : List Bool := (List.range 8).map b.getLsbD

/-- The self-synchronising scrambler x^58 + x^39 + 1 over a block's 64 bits; `h` holds the last 58 bits sent, newest first. -/
def scramble (h bs : List Bool) : List Bool × List Bool :=
  bs.foldl (fun a b =>
    let o := b ^^ (a.1.getD 38 false ^^ a.1.getD 57 false)
    ((o :: a.1).take 58, a.2 ++ [o])) (h, [])

/-- The descrambler: `h` holds the last 58 bits received. -/
def descramble (h bs : List Bool) : List Bool × List Bool :=
  bs.foldl (fun a b => ((b :: a.1).take 58, a.2 ++ [b ^^ (a.1.getD 38 false ^^ a.1.getD 57 false)])) (h, [])

/-- The bits of a block on the line: its sync header, and its bytes through the scrambler. -/
def Block66.line (h : List Bool) (b : Block66) : List Bool × List Bool :=
  let r := scramble h (b.bytes.flatMap byteBits)
  (r.1, [b.ctrl, !b.ctrl] ++ r.2)

/-- The blocks of a run, one after the other. -/
def lineBits (h : List Bool) (bs : List Block66) : List Bool :=
  (bs.foldl (fun a b => let r := b.line a.1; (r.1, a.2 ++ r.2)) (h, [])).2

/-- Blocks of the burst a lane sent last, where its transmit side codes 64B/66B. -/
def State.wireBlocks (s : State) (l : Nat) : List Block66 :=
  if 2 ≤ s.rd OD.TX_CODING (l / 4) then burstBlocks (s.lane l).wire else []

/-! ### 8b/10b (R252; log entry 155) -/

/-- What the device sends and takes in a code group: a data byte, /K28.5/, /K28.0/ or /K27.7/. -/
inductive CodeUse where
  | data (b : Byte) | comma | skip | marker
  deriving DecidableEq, Repr

/-- Sub-blocks at negative running disparity, first bit highest: 6 bits of the low five bits of a byte, 4 bits of the high three. -/
def tab6 : List Nat :=
  [0x27, 0x1D, 0x2D, 0x31, 0x35, 0x29, 0x19, 0x38, 0x39, 0x25, 0x15, 0x34, 0x0D, 0x2C, 0x1C, 0x17] ++
  [0x1B, 0x23, 0x13, 0x32, 0x0B, 0x2A, 0x1A, 0x3A, 0x33, 0x26, 0x16, 0x36, 0x0E, 0x2E, 0x1E, 0x2B]
def tab4 : List Nat := [0xB, 0x9, 0x5, 0xC, 0xD, 0xA, 0x6, 0xE]

/-- Ones of a code. -/
def onesOf (n : Nat) : Nat := (List.range 10).countP (bit n)

/-- The 6-bit sub-block; at positive disparity the unbalanced ones and that of 7 are inverted. -/
def code6 (x : Nat) (rd : Bool) : Nat :=
  let c := tab6.getD x 0
  if rd ∧ (onesOf c ≠ 3 ∨ x = 7) then 63 - c else c

/-- The 4-bit sub-block, with the alternate form of 7 where five equal bits would follow each other. -/
def code4 (x y : Nat) (rd : Bool) : Nat :=
  let alt := if rd then [11, 13, 14].contains x else [17, 18, 20].contains x
  let c := if y = 7 ∧ alt then 7 else tab4.getD y 0
  if rd ∧ (onesOf c ≠ 2 ∨ y = 3) then 15 - c else c

/-- The code group of a use at a running disparity (true: positive), first bit highest. -/
def CodeUse.code (rd : Bool) : CodeUse → Nat
  | .data b =>
    let x := b.toNat % 32
    let a := code6 x rd
    16 * a + code4 x (b.toNat / 32) (rd ^^ decide (onesOf a ≠ 3))
  | .comma => if rd then 0x305 else 0x0FA
  | .skip => if rd then 0x30B else 0x0F4
  | .marker => if rd then 0x097 else 0x368

/-- The running disparity after a code group. -/
def disparity (rd : Bool) (code : Nat) : Bool := rd ^^ decide (onesOf code ≠ 5)

/-- Every use. -/
def codeUses : List CodeUse := [.comma, .skip, .marker] ++ (List.range 256).map fun n => .data (BitVec.ofNat 8 n)

/-- A received code group at a running disparity; none is a code violation. -/
def codeUse (rd : Bool) (code : Nat) : Option CodeUse := codeUses.find? fun u => decide (u.code rd = code)

/-- The code groups of a run of uses, one after the other. -/
def codeGroups (rd : Bool) : List CodeUse → List Nat
  | [] => []
  | u :: us => u.code rd :: codeGroups (disparity rd (u.code rd)) us

/-- Code groups' uses of the burst a lane sent last, where its transmit side codes 8b/10b. -/
def State.wireCodes (s : State) (l : Nat) : List CodeUse :=
  if s.rd OD.TX_CODING (l / 4) = 1 ∧ (s.lane l).wire ≠ [] then .marker :: (s.lane l).wire.map .data else []

/-! ### FEC (R261, R262; log entry 155) -/

/-- The block stream of a lane cut into messages of 5,140 bits, with no regard to block boundaries. -/
def fecMessages (bs : List Bool) : List (List Bool) :=
  (List.range (bs.length / 5140)).map fun i => (bs.drop (5140 * i)).take 5140

/-- GF(2^10) with x^10 + x^3 + 1: an element times α, and a product. -/
def gfAlpha (a : Nat) : Nat := if bit a 9 then 2 * a ^^^ 0x409 else 2 * a
def gfMul (a b : Nat) : Nat := (List.range 10).foldr (fun i r => gfAlpha r ^^^ (if bit a i then b else 0)) 0

/-- α to a power. -/
def gfPow : Nat → Nat
  | 0 => 1
  | n + 1 => gfAlpha (gfPow n)

/-- The generator polynomial, the product of x − α^j for j from 0 to 29, highest power first. -/
def rsGenerator : List Nat :=
  (List.range 30).foldl (fun g j => List.zipWith (· ^^^ ·) (g ++ [0]) (0 :: g.map (gfMul (gfPow j)))) [1]

/-- The 30 parity symbols of a message's symbols, first one first. -/
def rsParity (m : List Nat) : List Nat :=
  let g := rsGenerator.drop 1
  m.foldl (fun r x => List.zipWith (· ^^^ ·) (r.drop 1 ++ [0]) (g.map (gfMul (x ^^^ r.headD 0)))) (List.replicate 30 0)

/-- Ten bits, the least significant first, as a symbol, and back. -/
def symbolOf (bs : List Bool) : Nat := bs.foldr (fun b n => 2 * n + b2n b) 0
def symbolBits (x : Nat) : List Bool := (List.range 10).map (bit x)

/-- The codeword of a message: its 514 symbols and 30 of parity. -/
def fecCodeword (m : List Bool) : List Bool :=
  m ++ (rsParity ((List.range 514).map fun i => symbolOf ((m.drop (10 * i)).take 10))).flatMap symbolBits

/-- A syndrome of a codeword's symbols: its polynomial at α^j. -/
def rsSyndrome (j : Nat) (w : List Nat) : Nat := w.foldl (fun r x => gfMul (gfPow j) r ^^^ x) 0

/-! ### PAM4 (R254) -/

/-- Two bits, the first the most significant, to a symbol 0 to 3, and back. -/
def grayMap (a b : Bool) : Nat := if a then (if b then 2 else 3) else (if b then 1 else 0)
def grayBits (x : Nat) : List Bool := [decide (2 ≤ x), decide (x = 1 ∨ x = 2)]

/-- Symbols of a bit stream. -/
def symbols : List Bool → List Nat
  | a :: b :: bs => grayMap a b :: symbols bs
  | _ => []

/-- The precoder y_n = (x_n − y_(n−1)) mod 4 and the receiver's x_n = (y_n + y_(n−1)) mod 4, from a symbol before. -/
def precode (y : Nat) : List Nat → List Nat
  | [] => []
  | x :: xs => let z := (x + 4 - y % 4) % 4; z :: precode z xs
def unprecode (y : Nat) : List Nat → List Nat
  | [] => []
  | z :: zs => (z + y) % 4 :: unprecode z zs

/-- Level that a symbol drives. -/
def symbolLevel (x : Nat) : Int := 2 * (x : Int) - 3

/-! ### The transmit FIR (R274) -/

/-- Output in millivolts times 189 for levels −3 to +3 (NRZ: −3 and +3) at n − 1, n and n + 1. -/
def State.firOut (s : State) (l : Nat) (before here after : Int) : Int :=
  let v := s.rd OD.TX_EQ l
  (400 + 50 * (bits v 16 4 : Int)) * ((bits v 4 6 : Int) * here - bits v 0 4 * after - bits v 10 5 * before)

/-! ### Test patterns (R277) -/

/-- Exponents of a pattern's polynomial. -/
def prbsPoly (code : Nat) : Nat × Nat :=
  if code = 1 then (7, 6) else if code = 2 then (9, 5) else if code = 3 then (15, 14) else if code = 4 then (23, 18)
  else (31, 28)

/-- The next bit of a pattern after the bits `h`, newest first. -/
def prbsNext (code : Nat) (h : List Bool) : Bool :=
  h.getD ((prbsPoly code).1 - 1) false ^^ h.getD ((prbsPoly code).2 - 1) false

/-- The next `n` bits of a generator. -/
def prbsRun (code : Nat) : Nat → List Bool → List Bool
  | 0, _ => []
  | n + 1, h => let b := prbsNext code h; b :: prbsRun code n ((b :: h).take 31)

/-- One bit through a lane's checker. Until it has locked it follows the bits received; once it has, its own generator runs on,
and each bit is compared and each wrong one counted. -/
def State.prbsBit (s : State) (l : Nat) (b : Bool) : State :=
  let code := s.rd OD.PRBS_RX l
  let x := s.lane l
  let p := prbsNext code x.chk
  if s.rd OD.PRBS_LOCK l = 1 then
    let s := s.updLane l fun x => { x with chk := (p :: x.chk).take 31 }
    (s.inc OD.PRBS_BITS l).inc OD.PRBS_ERR l (b2n (b != p))
  else
    let run := if (prbsPoly code).1 ≤ x.chk.length ∧ b = p then x.chkRun + 1 else 0
    let s := s.updLane l fun x => { x with chk := (b :: x.chk).take 31, chkRun := run }
    if run = 64 then s.wr OD.PRBS_LOCK l 1 else s

end Sys2Proof.Machine
end

