-- ==== Sys2Proof/Machine/Lanes.lean ====
section
/-! DEFINITION. The data lanes: quads and their settings (R249 to R263, R270), training (R276), the alignment buffer (R265 to
R267), test patterns (R277, R278) and deep bursts (R269). -/

namespace Sys2Proof.Machine

/-! ### Settings and their rules -/

/-- A reader of entries: the values in force, or those a write would leave. -/
abbrev Rd := Entry → Nat → Nat

/-- The values in force. -/
def State.inForceRd (s : State) : Rd := fun e u => s.rd e u

/-- The value an entry will have once the next Damp or load has applied what is pending (R374). -/
def State.nextRd (s : State) : Rd := fun e u =>
  match SMap.get none s.dict.damp (e.key u) with
  | some (v, _) => v
  | none => match SMap.get none s.dict.load (e.key u) with
    | some (v, _) => v
    | none => s.rd e u

/-- The line rates of a coding, in kb/s (R250). -/
def rateOk (coding rate : Nat) : Bool :=
  if coding = 1 ∨ coding = 2 then decide (1250000 ≤ rate ∧ rate ≤ 16000000)
  else if coding = 3 then decide (25781250 ≤ rate ∧ rate ≤ 106250000) else false

/-- A rate lies outside its coding's range; a rate of 0 is not set yet (R250). -/
def rateBad (coding rate : Nat) : Bool := decide (coding ≠ 0) && decide (rate ≠ 0) && !rateOk coding rate

/-- The rates of every quad lie in range (R250). -/
def ratesOk (rd : Rd) : Bool :=
  (List.range 16).all fun q => !rateBad (rd OD.RX_CODING q) (rd OD.RX_RATE q) &&
    (decide (rd OD.TX_LOCK q ≠ 0) || !rateBad (rd OD.TX_CODING q) (rd OD.TX_RATE q))

/-- FEC is refused for 8b/10b, and for a locked transmit side (R261, R279); TICKDIV × m is an integer (R270). -/
def quadSound (rd : Rd) (q : Nat) : Bool :=
  let lock := rd OD.TX_LOCK q
  !(decide (rd OD.RX_FEC q = 1 ∧ rd OD.RX_CODING q = 1)) &&
  !(decide (rd OD.TX_FEC q = 1 ∧ (rd OD.TX_CODING q = 1 ∨ lock ≠ 0))) &&
  (decide (lock = 0) || decide (rd OD.TICKDIV 0 * (lockRow lock).m4 % 4 = 0))

/-- Every TX_LOCK in use is allowed at a core clock (R270, R434). -/
def locksAllowed (rd : Rd) (mhz : Nat) : Bool :=
  (List.range 16).all fun q => decide (rd OD.TX_LOCK q = 0) || decide ((lockRow (rd OD.TX_LOCK q)).low ≤ mhz)

/-- Lanes of a stream's bond. -/
def bondLanes (rd : Rd) (st : Nat) : List Nat :=
  (List.range (rd OD.ST_NLANES st)).map fun i => rd OD.ST_FIRST_LANE st + i

/-- Bytes of the sample region, and LB_i, of a stream (R258, R259). -/
def rdLb (rd : Rd) (st i : Nat) : Nat :=
  let sb := ceilDiv (2 ^ rd OD.AVG_K st * rd OD.ST_NCH st * rd OD.ST_WIDTH st) 8
  2 + (if i = 0 then rd OD.ST_HDR_BYTES st else 0) + laneShare sb (rd OD.ST_NLANES st) i +
    (if rd OD.ST_CRC st = 1 then 4 else 0)

/-- One fed stream keeps R257, R259 and R263. -/
def bondOk (rd : Rd) (st : Nat) : Bool :=
  let ls := bondLanes rd st
  let f := rd OD.ST_FIRST_LANE st
  ls.all (fun l => decide (l < 64 ∧ l / 16 = f / 16) && bit (rd OD.LANE_EN l) 0 &&
    decide (rd OD.RX_CODING (l / 4) ≠ 0 ∧ rd OD.RX_CODING (l / 4) = rd OD.RX_CODING (f / 4) ∧
      rd OD.RX_RATE (l / 4) = rd OD.RX_RATE (f / 4)) &&
    (decide (rd OD.ST_CRC st = 1) || decide (rd OD.RX_FEC (l / 4) = 1))) &&
  (List.range ls.length).all fun i => decide (rdLb rd st i ≤ 65535)

/-- The streams fed. -/
def fedStreams (rd : Rd) : List Nat := streams.filter fun st => decide (rd OD.ST_NLANES st ≠ 0)

/-- Each fed stream keeps its rules, and a lane feeds at most one stream (R257). -/
def bondChecks (rd : Rd) : List Bool :=
  (streams.map fun st => decide (rd OD.ST_NLANES st = 0) || bondOk rd st) ++
    [decide (((fedStreams rd).flatMap (bondLanes rd)).Nodup)]

/-- A decision lane: its quad is locked without FEC, its streams are at home on its die and its burst fits (R270, R271). -/
def decLaneOk (rd : Rd) (l : Nat) : Bool :=
  let q := l / 4
  let lock := rd OD.TX_LOCK q
  let ms := mapStreams (rd OD.TX_DEC_MAP l)
  let k := ms.length
  let room := rd OD.TICKDIV 0 * (lockRow lock).m4
  decide (lock ≠ 0 ∧ rd OD.TX_FEC q = 0) && ms.all (fun st => decide (st < 64 ∧ rd OD.ST_FIRST_LANE st / 16 = l / 16)) &&
    (if (lockRow lock).coding = 1 then decide (4 * (14 + 8 * k) ≤ room) else decide (4 * (k + 3) ≤ room))

/-- Every rule among lane settings that a write of a lane, quad or bond entry can break. -/
def laneChecks (rd : Rd) : List Bool :=
  (List.range 16).map (quadSound rd) ++ bondChecks rd ++
    (List.range 64).map fun l => decide (rd OD.TX_KIND l ≠ 1) || decLaneOk rd l

/-- No check that held before fails now: a write breaks none of the rules. -/
def keepsChecks (before after : List Bool) : Bool := (before.zip after).all fun p => !p.1 || p.2

/-- TX_EQ keeps the bounds of R274. -/
def txEqOk (v : Nat) : Bool :=
  let pre := bits v 0 4
  let main := bits v 4 6
  let post := bits v 10 5
  decide (20 ≤ main ∧ pre + main + post ≤ 63 ∧ 16 + pre + post ≤ main)

/-! ### Lane states (R276) -/

/-- Lanes of a quad. -/
def quadLanes (q : Nat) : List Nat := (List.range 4).map fun i => 4 * q + i

/-- Enabled lanes, and their number (R251). -/
def State.laneOn (s : State) (l : Nat) : Bool := decide (bits (s.rd OD.LANE_EN l) 0 2 ≠ 0)
def State.lanesOn (s : State) : Nat := (List.range 64).countP s.laneOn

/-- LQ_STATUS and LANES_ENABLED follow the lanes (R251, R279): a quad with no enabled lane is powered down. -/
def State.quadPower (s : State) (q : Nat) : State :=
  let s := s.wr OD.LANES_ENABLED 0 s.lanesOn
  if (quadLanes q).any s.laneOn then
    let s := { s with power.gates := SMap.erase s.power.gates (8256 + q) }
    s.wr OD.LQ_STATUS q (s.rd OD.LQ_STATUS q ||| 4)
  else s.wr OD.LQ_STATUS q 0

/-- A lane is bad by fuse or in the field (R413). -/
def State.laneBad (s : State) (l : Nat) : Bool :=
  bit (s.rd OD.LANES_FUSED_BAD) l || bit (s.rd OD.LANES_FIELD_BAD) l

/-- Training starts anew in a state: what the lane has learned of its blocks is dropped. -/
def State.rxTo (s : State) (l st : Nat) : State :=
  let s := s.updLane l fun x => { x with lastSeq := none, badRun := 0, fecGood := 0, fecBad := 0, held := [] }
  s.wr OD.RX_STATE l st

/-- A receive lane leaves DATA, which counts and is raised (R276, R280). -/
def State.rxFall (s : State) (l st : Nat) : State :=
  let down := s.rd OD.RX_STATE l = 7
  let s := s.rxTo l st
  if down then (s.inc OD.LOCK_LOSS l).raise 0x0601 (dieUnit (l / 16)) l else s

/-- The quad's PLLs can lock: the side has a coding and a rate. -/
def State.rxReady (s : State) (q : Nat) : Bool := rateOk (s.rd OD.RX_CODING q) (s.rd OD.RX_RATE q)
def State.txReady (s : State) (q : Nat) : Bool :=
  decide (s.rd OD.TX_LOCK q ≠ 0) || rateOk (s.rd OD.TX_CODING q) (s.rd OD.TX_RATE q)

/-- State of a transmit lane once its PLL has locked: DATA, or PRBS (R276, R277); held in PLL where R270 keeps it silent. -/
def State.txLockState (s : State) (l : Nat) : Nat :=
  if (s.lane l).heldOff then 1 else if s.rd OD.PRBS_TX l ≠ 0 then 8 else 7

/-- The receive side of a lane enters PLL, or goes on to CDR where its PLL has locked (R276). -/
def State.rxStart (s : State) (l : Nat) : State :=
  let s := s.rxFall l (if bit (s.rd OD.LQ_STATUS (l / 4)) 0 then 2 else 1)
  s.updLane l fun x => { x with leftOff := s.now }

/-- The transmit side of a lane enters PLL, or goes on to DATA where its PLL has locked (R276). -/
def State.txStart (s : State) (l : Nat) : State :=
  s.txTo l (if bit (s.rd OD.LQ_STATUS (l / 4)) 1 then s.txLockState l else 1)

/-- LANE_EN of a lane takes a value (R251, R276). -/
def State.setLaneEn (s : State) (l v : Nat) : State :=
  let old := s.rd OD.LANE_EN l
  let s := s.wr OD.LANE_EN l (v % 16)
  let s := s.quadPower (l / 4)
  let s := if bit v 0 && !bit old 0 then s.rxStart l else if bit v 0 then s else s.rxTo l 0
  if bit v 1 && !bit old 1 then s.txStart l else if bit v 1 then s else s.txTo l 0

/-- A value of LANE_EN is allowed: the lane sound, the licensed number kept, and no stream left
without a lane of its bond (R251, R257, R413). -/
def State.laneEnOk (s : State) (l v : Nat) : Bool :=
  let t := s.wr OD.LANE_EN l v
  !(decide (bits v 0 2 ≠ 0) && s.laneBad l) &&
    !(decide (s.lanesOn < t.lanesOn) && decide (s.lic.lanesMax < t.lanesOn)) &&
    keepsChecks (bondChecks s.inForceRd) (bondChecks t.inForceRd) && keepsChecks (bondChecks s.nextRd) (bondChecks t.nextRd)

/-- LANE_ENABLE (R251); reserved bits are ignored (R7). -/
def execLaneEnable (lane : Fin 64) (value : Byte) (s : State) : Answer :=
  let v := value.toNat % 16
  if ¬ s.hostMay then .next s
  else if s.laneEnOk lane v then .next ((s.noteWrites [(OD.LANE_EN, lane, v)]).setLaneEn lane v) else .next s

/-- The entries of OD 3010 by sub-index. -/
def quadEntry (sub : Nat) : Option Entry :=
  [OD.RX_CODING, OD.RX_RATE, OD.TX_CODING, OD.TX_RATE, OD.TX_LOCK, OD.RX_FEC, OD.TX_FEC, OD.PRECODE].find? fun e =>
    decide (e.sub = sub)

/-- A quad entry takes a value; a TX_LOCK sets the coding of its row and lets lanes held out of DATA go on (R270). -/
def State.quadCell (s : State) (e : Entry) (q v : Nat) : State :=
  let s := s.wr e q v
  if e = OD.TX_LOCK then
    let s := if v ≠ 0 then s.wr OD.TX_CODING q (lockRow v).coding else s
    (quadLanes q).foldl (fun s l => s.updLane l fun x => { x with heldOff := false }) s
  else s

/-- The quad's lanes go back to PLL: the receive side for a receive setting, the transmit side for a transmit setting, both
for precoding (R276). -/
def State.quadRetrain (s : State) (e : Entry) (q : Nat) : State :=
  let rx := e.sub ≤ 2 ∨ e.sub = 6 ∨ e.sub = 8
  let tx := e.sub = 3 ∨ e.sub = 4 ∨ e.sub = 5 ∨ e.sub = 7 ∨ e.sub = 8
  let st := s.rd OD.LQ_STATUS q
  let st := if rx then st - b2n (bit st 0) else st
  let st := if tx then st - 2 * b2n (bit st 1) else st
  let s := s.wr OD.LQ_STATUS q st
  let s := if rx then (quadLanes q).foldl (fun s l => if bit (s.rd OD.LANE_EN l) 0 then s.rxStart l else s) s else s
  if tx then (quadLanes q).foldl (fun s l => if bit (s.rd OD.LANE_EN l) 1 then s.txStart l else s) s else s

/-- What a write leaves breaks no lane rule, for the values in force and for those pending. -/
def State.lanesKept (s t : State) : Bool :=
  keepsChecks (laneChecks s.inForceRd) (laneChecks t.inForceRd) && keepsChecks (laneChecks s.nextRd) (laneChecks t.nextRd)

/-- A quad entry may take a value: it lies in range, and R250, R257, R261, R263, R270 and R271 hold afterwards. -/
def State.quadOk (s : State) (e : Entry) (q v : Nat) : Bool :=
  let t := s.quadCell e q v
  let lock := s.rd OD.TX_LOCK q
  decide (e.lo ≤ v ∧ (v : Int) ≤ e.hi) &&
    !(decide (e = OD.TX_CODING ∧ lock ≠ 0 ∧ v ≠ (lockRow lock).coding)) &&
    (decide (e ≠ OD.TX_LOCK) || decide (v = 0) ||
      decide ((lockRow v).low ≤ s.mhz ∧ (lockRow v).low ≤ s.nextRd OD.CORE_MHZ 0)) &&
    ratesOk t.inForceRd && s.lanesKept t

/-- A quad entry is written and its lanes train again (R276). -/
def State.quadWrite (s : State) (e : Entry) (q v : Nat) : State :=
  (((quadLanes q).foldl State.fillRebase s).quadCell e q v).quadRetrain e q

/-- QUAD_CONFIG_WRITE (R250, R276): refused writes change nothing. -/
def execQuadConfigWrite (quad : Fin 16) (sub : Fin 9) (value : Word32) (s : State) : Answer :=
  match quadEntry sub with
  | none => .next s
  | some e =>
    let v := value.toNat &&& e.mask
    if s.hostMay ∧ (e.expert = false ∨ s.rd OD.EXPERT_EN = 1) ∧ s.quadOk e quad v then .next ((s.noteWrites [(e, quad, v)]).quadWrite e quad v) else .next s

/-- LANE_PLL_LOCKED: the PLLs of a quad lock; its receive lanes go on to CDR and its transmit lanes to DATA (R276). -/
def execLanePllLocked (quad : Fin 16) (s : State) : Answer :=
  let q := quad.val
  if ¬ bit (s.rd OD.LQ_STATUS q) 2 then .next s
  else
    let rx := s.rxReady q
    let tx := s.txReady q
    let s := s.wr OD.LQ_STATUS q (s.rd OD.LQ_STATUS q ||| (b2n rx + 2 * b2n tx))
    .next ((quadLanes q).foldl (fun s l =>
      let s := if rx && decide (s.rd OD.RX_STATE l = 1) then s.wr OD.RX_STATE l 2 else s
      if tx && decide (s.rd OD.TX_STATE l = 1) then s.txTo l (s.txLockState l) else s) s)

/-- CDR_LOCKED (R276). -/
def execCdrLocked (lane : Fin 64) (s : State) : Answer :=
  if s.rd OD.RX_STATE lane = 2 then .next (s.wr OD.RX_STATE lane 3) else .next s

/-- Equalisation has ended: the codes in use read back, and the lane goes on to its test, to FEC lock or to block lock
(R275, R276, R277). -/
def State.adapted (s : State) (l ctle : Nat) (dfe : Nat) : State :=
  if s.rd OD.RX_STATE l ≠ 3 then s
  else
    let s := if s.rd OD.RX_EQ_MODE l = 2 then s else s.wr OD.RX_CTLE l ctle
    let s := s.wr OD.RX_DFE l dfe
    s.wr OD.RX_STATE l (if s.rd OD.PRBS_RX l ≠ 0 then 8 else if s.rd OD.RX_FEC (l / 4) = 1 then 4 else 5)

/-- ADAPT_CONVERGED (R276). -/
def execAdaptConverged (lane : Fin 64) (ctle : Fin 16) (dfe : Word32) (s : State) : Answer :=
  .next (s.adapted lane ctle dfe.toNat)

/-- ADAPT_TIMEOUT: 2^24 UI have elapsed; the lane moves on regardless (R276). -/
def execAdaptTimeout (lane : Fin 64) (ctle : Fin 16) (dfe : Word32) (s : State) : Answer :=
  .next (s.adapted lane ctle dfe.toNat)

/-- FEC_LOCK: three zero syndromes in a row (R262, R276). -/
def execFecLock (lane : Fin 64) (s : State) : Answer :=
  if s.rd OD.RX_STATE lane = 4 ∧ 3 ≤ (s.lane lane).fecGood then .next (s.wr OD.RX_STATE lane 5) else .next s

/-- BLOCK_LOCK (R276). -/
def execBlockLock (lane : Fin 64) (s : State) : Answer :=
  if s.rd OD.RX_STATE lane = 5 then .next (s.wr OD.RX_STATE lane 6) else .next s

/-- State a fallback condition returns a lane to (R276). -/
def lossState : LaneLoss → Nat
  | .phase => 2
  | .fec => 4
  | .blockLock => 5
  | .delineate => 6

/-- A fallback condition is met: 8 uncorrectable codewords, or 4 lane blocks in error, where the model counts them. -/
def State.lossMet (s : State) (l : Nat) : LaneLoss → Bool
  | .phase => decide (3 ≤ s.rd OD.RX_STATE l ∧ s.rd OD.RX_STATE l ≤ 7)
  | .fec => decide (5 ≤ s.rd OD.RX_STATE l ∧ s.rd OD.RX_STATE l ≤ 7 ∧ s.rd OD.RX_FEC (l / 4) = 1 ∧ 8 ≤ (s.lane l).fecBad)
  | .blockLock => decide (s.rd OD.RX_STATE l = 7)
  | .delineate => decide (s.rd OD.RX_STATE l = 7 ∧ 4 ≤ (s.lane l).badRun)

/-- LANE_DOWN (R276, R280). -/
def execLaneDown (lane : Fin 64) (why : LaneLoss) (s : State) : Answer :=
  if s.lossMet lane why then .next (s.rxFall lane (lossState why)) else .next s

/-- LANE_TRAIN_FAIL: 2^27 cycles after leaving OFF the lane starts again at CDR (R276, R280). -/
def execLaneTrainFail (lane : Fin 64) (s : State) : Answer :=
  let l := lane.val
  let st := s.rd OD.RX_STATE l
  if st = 0 ∨ st = 7 ∨ st = 8 then .next s
  else
    let s := s.advanceTo ((s.lane l).leftOff + 2 ^ 27)
    let s := s.rxTo l 2
    let s := s.updLane l fun x => { x with leftOff := s.now }
    .next (s.raise 0x0602 (dieUnit (l / 16)) l)

/-! ### FEC (R262) -/

/-- FEC_CODEWORD: corrected symbols of a codeword, none when it is uncorrectable. -/
def execFecCodeword (lane : Fin 64) (corrected : Option (Fin 16)) (s : State) : Answer :=
  let l := lane.val
  let st := s.rd OD.RX_STATE l
  if s.rd OD.RX_FEC (l / 4) = 0 ∨ st < 4 ∨ st = 8 then .next s
  else
    match corrected with
    | some n =>
      let s := s.updLane l fun x => { x with fecGood := if n.val = 0 then x.fecGood + 1 else 0, fecBad := 0 }
      .next (if st = 4 then s else s.inc OD.FEC_CORR l n)
    | none =>
      let s := s.updLane l fun x => { x with fecGood := 0, fecBad := x.fecBad + 1 }
      .next (if st = 4 then s else s.inc OD.FEC_UNCORR l)

/-! ### The alignment buffer (R265, R266) -/

/-- Stream fed by a lane, and the lane's place in its bond. -/
def State.feeds (s : State) (l : Nat) : Option (Nat × Nat) :=
  (streams.find? fun st =>
    decide (s.rd OD.ST_FIRST_LANE st ≤ l ∧ l < s.rd OD.ST_FIRST_LANE st + s.rd OD.ST_NLANES st)).map fun st =>
      (st, l - s.rd OD.ST_FIRST_LANE st)

/-- A part joins the frame of its SEQ that still lacks it, or opens a new one, dead where its tick has passed or 8 frames are held;
whether the frame is complete now. -/
def Ingest.addPart (i : Ingest) (q nl : Nat) (late : Bool) (p : Nat × List Byte × List Byte) : Ingest × Bool :=
  let fits (f : AlignFrame) : Bool := decide (f.seq = q) && !f.complete && !(f.parts.any fun x => decide (x.1 = p.1))
  match i.align.findIdx? fits with
  | some k =>
    let f := i.align.getD k { seq := q }
    let f := { f with parts := f.parts ++ [if f.dead then (p.1, [], []) else p], complete := decide (f.parts.length + 1 = nl) }
    ({ i with align := i.align.set k f }, f.complete)
  | none =>
    let dead := late || decide (8 ≤ i.align.countP fun f => !f.dead)
    let f : AlignFrame :=
      { seq := q, parts := [if dead then (p.1, [], []) else p], complete := decide (nl = 1), dead := dead }
    ({ i with align := i.align ++ [f] }, f.complete)

/-- The last frame completed with a SEQ is taken out again. -/
def Ingest.dropLast (i : Ingest) (q : Nat) : Ingest :=
  let l := i.align.reverse
  match l.findIdx? fun f => decide (f.seq = q) && f.complete with
  | some k => { i with align := (l.eraseIdx k).reverse }
  | none => i

/-- SEQ_OFS_LEARN (R266): from the first frame completed after a resume tick, recorded as a dictionary write. -/
def State.learnSeq (s : State) (st q cycle : Nat) : State :=
  if (s.ing st).learn && decide (s.rd OD.ALIGN_MODE st = 1) then
    let need := s.rd OD.LEARN_MARGIN st * s.tickdiv + cycle + 2
    let n0 := s.nextTick + ceilDiv (need - s.nextBoundary) s.tickdiv
    let ofs := (n0 + 2 ^ 16 - q) % 2 ^ 16
    let s := (s.wr OD.SEQ_OFS st ofs).updIng st fun i => { i with learn := false }
    s.recOd OD.SEQ_OFS 9 st 0 s.nextTick (leBytes 2 ofs)
  else s

/-- d of R265 for a SEQ now. -/
def State.seqAhead (s : State) (st q : Nat) : Nat := ((q + s.rd OD.SEQ_OFS st) % 2 ^ 16 + 2 ^ 16 - s.nextTick % 2 ^ 16) % 2 ^ 16

/-- What has a SEQ and completes at a cycle comes too late for its tick. -/
def State.seqLate (s : State) (st q cycle : Nat) : Bool :=
  let d := s.seqAhead st q
  decide (32768 ≤ d) || decide (d = 0 ∧ (s.nextBoundary < cycle + 2 ∨ s.clock.deadlineOf = some s.nextTick))

/-- FRAME_COMPLETE: the frame is held for its tick or discarded by the table of R265; one for which there was no room is
discarded too (log entry 25). -/
def State.frameComplete (s : State) (st q cycle : Nat) : State :=
  let s := s.learnSeq st q cycle
  let d := s.seqAhead st q
  let same := (s.ing st).align.filter fun f => decide (f.seq = q) && f.complete
  let drop (s : State) : State := s.updIng st fun i => i.dropLast q
  if 2 ≤ same.length then (drop s).inc OD.FRAME_DUP st
  else if 8 ≤ d ∧ d ≤ 32767 then (drop s).inc OD.FRAME_EARLY st
  else if s.seqLate st q cycle then (drop s).inc OD.FRAME_LATE st
  else if same.any fun f => f.dead then drop s
  else s

/-- A lane block that has passed its checks goes to the alignment buffer. -/
def State.alignDeliver (s : State) (l : Nat) (bytes : List Byte) (cycle : Nat) : State :=
  match s.feeds l with
  | none => s
  | some (st, i) =>
    let q := leNat (bytes.take 2)
    let hb := if i = 0 then s.rd OD.ST_HDR_BYTES st else 0
    let body := (bytes.drop 2).take (s.lbBytes st i - 2 - (if s.rd OD.ST_CRC st = 1 then 4 else 0))
    let (g, done) := (s.ing st).addPart q (s.rd OD.ST_NLANES st) (s.seqLate st q cycle) (i, body.take hb, body.drop hb)
    let s := s.updIng st fun _ => g
    if done then s.frameComplete st q cycle else s

/-! ### Lane blocks (R259, R260, R263, R267) -/

/-- The lane block's CRC holds, where the stream has one (R263). -/
def crcOk (bytes : List Byte) : Bool :=
  let n := bytes.length - 4
  decide (leNat (bytes.drop n) = crc32 (bytes.take n))

/-- SEQ of a lane block in error: the one after the last block taken, since its own may be damaged (log entry 25). -/
def Lane.errSeq (x : Lane) (bytes : List Byte) : Nat :=
  match x.lastSeq with
  | some q => (q + 1) % 2 ^ 16
  | none => leNat (bytes.take 2)

/-- A lane block in error is discarded; the tick of its SEQ will count in VOID_CHECK (R267). -/
def State.badBlock (s : State) (l st : Nat) (bytes : List Byte) : State :=
  let q := (s.lane l).errSeq bytes
  let s := s.updLane l fun x => { x with badRun := x.badRun + 1, lastSeq := some q, held := [] }
  s.updIng st fun i => { i with checkFail := if i.checkFail.contains q then i.checkFail else (q :: i.checkFail).take 64 }

/-- A lane block that passes its checks, in DATA or in DELINEATE (R276). -/
def State.goodBlock (s : State) (l : Nat) (bytes : List Byte) (cycle : Nat) : State :=
  let q := leNat (bytes.take 2)
  let s := s.updLane l fun x => { x with badRun := 0, lastSeq := some q }
  if s.rd OD.RX_STATE l = 7 then s.alignDeliver l bytes cycle
  else s.updLane l fun x => { x with held := (bytes, cycle) :: x.held.take 1 }

/-- Cycles from a lane block's last bit at the pins to the block in the alignment buffer (R264). -/
def State.rxLatency (s : State) (l : Nat) : Nat :=
  let q := l / 4
  (if s.rd OD.RX_CODING q = 1 then 24 else if s.rd OD.RX_CODING q = 2 then 28 else 36) +
    (if s.rd OD.RX_FEC q = 1 then ceilDiv (5440 * s.mhz * 1000) (s.rd OD.RX_RATE q) + 60 else 0)

/-- LANE_BLOCK_RECEIVED (R252, R259 to R267): the last bit of a lane block reaches the pins in cycle `pin`, behind `fill` filler
units, which are deleted and counted (R255). -/
def execLaneBlockReceived (lane : Fin 64) (bytes : List Byte) (fault : BlockFault) (fill pin : Nat) (s : State) : Answer :=
  let l := lane.val
  let cycle := pin + s.rxLatency l
  let s := s.advanceTo cycle
  let rx := s.rd OD.RX_STATE l
  let s := if fill = 0 ∨ (rx ≠ 6 ∧ rx ≠ 7) then s else s.inc OD.FILL_DEL l fill
  match s.feeds l with
  | none => .next s
  | some (st, i) =>
    if rx ≠ 6 ∧ rx ≠ 7 then .next s
    else match fault with
      | .code => .next ((s.inc OD.CODE_ERR l).badBlock l st bytes)
      | .fec => .next (s.badBlock l st bytes)
      | .marker => .next (s.badBlock l st bytes)
      | .none =>
        if bytes.length ≠ s.lbBytes st i then .next (s.badBlock l st bytes)
        else if s.rd OD.ST_CRC st = 1 ∧ ¬ crcOk bytes then .next ((s.inc OD.LANE_CRC_ERR l).badBlock l st bytes)
        else .next (s.goodBlock l bytes cycle)

/-- DELINEATED: a lane block and the next with SEQ + 1 have passed; both are delivered and the lane is in DATA (R276). -/
def execDelineated (lane : Fin 64) (s : State) : Answer :=
  let l := lane.val
  match (s.lane l).held with
  | (b2, c2) :: (b1, c1) :: _ =>
    if s.rd OD.RX_STATE l = 6 ∧ leNat (b2.take 2) = (leNat (b1.take 2) + 1) % 2 ^ 16 then
      let s := (s.wr OD.RX_STATE l 7).updLane l fun x => { x with held := [] }
      .next ((s.alignDeliver l b1 c1).alignDeliver l b2 c2)
    else .next s
  | _ => .next s

/-! ### Test patterns and error injection (R277, R278) -/

/-- PRBS_RX of a lane takes a value: a training or trained lane goes to PRBS; back at 0 it enters again at CDR (R276). -/
def State.setPrbsRx (s : State) (l v : Nat) : State :=
  let st := s.rd OD.RX_STATE l
  let s := ((s.wr OD.PRBS_RX l v).wr OD.PRBS_LOCK l 0).updLane l fun x => { x with chk := [], chkRun := 0 }
  if v = 0 then (if st = 8 then s.rxTo l 2 else s) else if 4 ≤ st then s.rxTo l 8 else s

/-- PRBS_TX of a lane takes a value (R277). -/
def State.setPrbsTx (s : State) (l v : Nat) : State :=
  let st := s.rd OD.TX_STATE l
  let s := s.wr OD.PRBS_TX l v
  if st = 7 ∨ st = 8 then s.txTo l (s.txLockState l) else s

/-- PRBS_LOCK (R277): bits of the serial stream, oldest first, reach the checker of a lane in PRBS. -/
def execPrbsLock (lane : Fin 64) (rx : List Bool) (s : State) : Answer :=
  if s.rd OD.RX_STATE lane = 8 then .next (rx.foldl (fun s b => s.prbsBit lane b) s) else .next s

/-- One transmitted bit is inverted in an injection mode (R278). -/
def State.inject1 (s : State) (l mode : Nat) : State :=
  if s.rd OD.INJ_MODE l = mode ∧ (s.rd OD.TX_STATE l = 7 ∨ s.rd OD.TX_STATE l = 8) then
    s.updLane l fun x => { x with injected := x.injected + 1 }
  else s

/-- INJ_FIRE (R278). -/
def execInjFire (lane : Fin 64) (s : State) : Answer :=
  if s.hostMay ∧ s.rd OD.EXPERT_EN = 1 then .next ((s.noteWrites [(OD.INJ_FIRE, lane, 1)]).inject1 lane 1) else .next s

/-- INJ_MODE of a lane takes a value: the units of mode 2 count from now. -/
def State.setInjMode (s : State) (l v : Nat) : State :=
  (s.wr OD.INJ_MODE l v).updLane l fun x => { x with injAt := s.clock.fine }

/-- INJ_PERIODIC (R278): once 2^INJ_PERIOD units have gone since the last inverted bit, or since mode 2 was set. -/
def execInjPeriodic (lane : Fin 64) (s : State) : Answer :=
  let l := lane.val
  if s.unitsIn l (s.clock.fine - (s.lane l).injAt) < 2 ^ s.rd OD.INJ_PERIOD l then .next s
  else .next ((s.inject1 l 2).updLane l fun x => { x with injAt := s.clock.fine })

/-! ### Deep bursts (R268, R269) -/

/-- DEEP_BURST: up to 16 queued records leave in one burst; a lane not in DATA discards them (R269, R273). -/
def execDeepBurst (lane : Fin 64) (s : State) : Answer :=
  let l := lane.val
  let kind := s.rd OD.TX_KIND l
  let q := (s.lane l).deepQ
  if (kind ≠ 2 ∧ kind ≠ 4) ∨ q = [] then .next s
  else if s.rd OD.TX_STATE l ≠ 7 then .next ((s.updLane l fun x => { x with deepQ := [] }).inc OD.TX_DISCARD l q.length)
  else
    let n := min 16 q.length
    let pay := (q.take n).flatMap fun r => leBytes 16 r.toNat
    let w := burstBytes 2 n l (s.lane l).bseq 0 pay (s.txBlocks l)
    let s := s.sendBurst l w
    .next (s.updLane l fun x => { x with wire := w, bseq := (x.bseq + 1) % 256, deepQ := x.deepQ.drop n })

/-- A deep record goes to a lane's queue; a full one drops it (R269). -/
def State.queueDeep (s : State) (l : Nat) (r : BitVec 128) : State :=
  if 1024 ≤ (s.lane l).deepQ.length then (s.inc OD.DEEP_TX_DROP l).raise 0x0603 pkgUnit l
  else s.updLane l fun x => { x with deepQ := x.deepQ ++ [r] }

end Sys2Proof.Machine
end

