-- ==== Sys2Proof/Machine/Tokens.lean ====
section
/-! DEFINITION. Tokens at a core: arrival at the input FIFO (R60, R69, R70, R93), acceptance and timeout of frames (R79 to R81,
R89 to R92), and what a core reports when it settles (R94, R95). -/

namespace Sys2Proof.Machine

/-- Current epoch (R186). -/
def State.epoch (s : State) : Nat := s.rd OD.EPOCH

/-- A core takes part in the fabric: loaded, not fenced, and serving a position (R95, R134, R477). -/
def State.alive (s : State) (p : Nat) : Bool := s.fabric.alive p

/-- PCID of the position a core serves, which names its router (R134). -/
def State.routerOf (s : State) (p : Nat) : Nat := s.fabric.routerOf p

/-! ### Errors of a core (R78, R94, R95) -/

/-- STEER_MISMATCH. -/
def State.mismatch (s : State) (p : Nat) : State :=
  ((s.inc OD.CORE_STEER_MM p).inc OD.STEER_MISMATCH_TOTAL 0).raise 0x0001 (coreUnit p) p

/-- STALE_TOKEN at a core. -/
def State.staleToken (s : State) (p : Nat) : State :=
  ((s.inc OD.CORE_STALE p).inc OD.STALE_TOKEN_TOTAL 0).raise 0x0002 (coreUnit p) p

/-- TOKEN_FORMAT. -/
def State.tokenFormat (s : State) (p : Nat) : State :=
  (s.inc OD.TOKEN_FORMAT_TOTAL 0).raise 0x0003 (coreUnit p) p

/-- SCALE_SKEW (R127). -/
def State.scaleSkew (s : State) (p : Nat) : State :=
  (s.inc OD.SCALE_SKEW_TOTAL 0).raise 0x0103 (coreUnit p) p

/-- Lanes clamped by engine steps are counted (R115). -/
def State.accSat (s : State) (p n : Nat) : State :=
  if n = 0 then s else (s.inc OD.CORE_ACC_SAT p n).inc OD.ACC_SAT_TOTAL 0 n

/-- A corrected error in a core's memory is counted (R53, R78, R94). -/
def State.coreCe (s : State) (p : Nat) : State := (s.inc OD.CORE_CE p).inc OD.CORE_CE_TOTAL 0

/-- CORE_UE, with the count of uncorrected errors (R78, R95). -/
def State.coreUe (s : State) (p : Nat) : State :=
  (s.inc OD.CORE_UE_TOTAL 0).raise 0x0006 (coreUnit p) p

/-- An action repeated. -/
def State.times (s : State) (f : State → State) : Nat → State
  | 0 => s
  | n + 1 => State.times (f s) f n

/-! ### Settling (R68, R83, R94, R95) -/

/-- What a core has counted is reported, and what it has ready leaves it. -/
def State.settleCore (s : State) (p : Nat) : State :=
  let r := (s.core p).rep
  let s := { s with fabric := s.fabric.release p }
  let s := s.updCore p fun c => { c with rep := {} }
  let s := s.accSat p r.accSat
  let s := if r.voidOut = 0 then s else s.inc OD.CORE_VOID_OUT p r.voidOut
  let s := s.times (fun s => s.mismatch p) r.mm
  s.times (fun s => s.scaleSkew p) r.skew

/-- Every core with something to report settles; done as each cycle passes and at each tick boundary (log entry 14). -/
def State.settleCores (s : State) : State :=
  ((s.fabric.cores.filter fun x => decide (x.2.rep ≠ {})).map Prod.fst).foldl State.settleCore s

/-- A core's pipeline acts in the present cycle. -/
def State.issue (s : State) (p : Nat) (f : Issue → Core → Core) : State :=
  (s.updCore p (f { core := p, epoch := s.epoch, cycle := s.now })).settleCore p

/-- A table or microcode word that cannot be corrected is not used, and the core is fenced (R78). -/
def State.tableUe (s : State) (p : Nat) : State := (s.coreUe p).fence p

/-- A read of a core memory whose uncorrectable error fences the core: the word is used, counted where it was corrected (R78). -/
def State.withTable (s : State) (p : Nat) (e : Ecc) (f : State → State) : State :=
  match e with
  | .ok => f s
  | .corrected => f (s.coreCe p)
  | .uncorrected => s.tableUe p

/-! ### Arrival (R60, R69, R70, R93) -/

/-- A token leaves the flight list of a core's local port when it arrives (R68). -/
def State.landed (s : State) (p : Nat) (ctrl : Bool) (t : Tok) : State :=
  { s with fabric.localQ := SMap.upd [] s.fabric.localQ (s.routerOf p * 2 + b2n ctrl) fun q =>
      q.erase { t with served := 0 } }

/-- A token arrives at the input FIFO of a core: the epoch check, the format check of a control token, then the queue, at
whose head the steering unit acts at once (R91). -/
def State.arrive (s : State) (p : Nat) (ctrl : Bool) (t : Tok) : State :=
  let c := s.core p
  if ¬ s.alive p then s
  else if t.flit.epoch ≠ s.epoch then
    ((s.landed p ctrl t).updCore p fun c => c.hurtBy t.flit.stag true).staleToken p
  else if ctrl ∧ ¬ t.flit.wellFormed then
    ((s.landed p ctrl t).updCore p fun c => c.hurtBy t.flit.stag false).tokenFormat p
  else if ¬ c.room ctrl then s
  else if ¬ ctrl ∧ c.ended t.flit.stag t.label then (s.landed p ctrl t).mismatch p
  else (s.landed p ctrl t).issue p fun _ c => (c.enqueue ctrl t).tidy c.running

/-- INPUT_FIFO_ARRIVAL (R69, R70). -/
def execInputFifoArrival (core : Nat) (ctrl : Bool) (label : Fin 16) (flit : Flit) (s : State) : Answer :=
  .next (s.arrive core ctrl { flit := flit, label := label.val })

/-- BOF: begins frame FTAG and, at acceptance, sets the expected frame tag (R60, R62). -/
def execBof (core : Nat) (label : Fin 16) (tag ftag : Word16) (stream : Fin 64) (s : State) : Answer :=
  .next (s.arrive core true { flit := { ctlFlit 0 1 ftag.toNat stream.val with tag := tag }, label := label.val })

/-- EOF: ends the data of frame FTAG (R60, R93). -/
def execEof (core : Nat) (label : Fin 16) (tag ftag : Word16) (s : State) : Answer :=
  .next (s.arrive core true { flit := { ctlFlit 0 2 ftag.toNat 0 with tag := tag }, label := label.val })

/-- SELECT: the body entry, or the source, of frame FTAG (R60, R89). -/
def execSelect (core : Nat) (label : Fin 16) (tag ftag : Word16) (sel : Fin 16) (s : State) : Answer :=
  .next (s.arrive core true { flit := { ctlFlit 0 3 ftag.toNat sel.val with tag := tag }, label := label.val })

/-- SKIP: frame FTAG carries no data on this link by design (R60). -/
def execSkip (core : Nat) (label : Fin 16) (tag ftag : Word16) (s : State) : Answer :=
  .next (s.arrive core true { flit := { ctlFlit 0 4 ftag.toNat 0 with tag := tag }, label := label.val })

/-- VOID: frame FTAG carries no valid data, with its CAUSE (R60, R61). -/
def execVoid (core : Nat) (label : Fin 16) (tag ftag : Word16) (cause : Byte) (s : State) : Answer :=
  .next (s.arrive core true { flit := { ctlFlit 0 5 ftag.toNat cause.toNat with tag := tag }, label := label.val })

/-! ### Acceptance (R79 to R81, R89 to R92) -/

/-- Fabric cycles for which the window for the next body of a core has been open (R80, R90): none while a body runs or
before TICKDIV_MIN cycles from the last body's start; the first body has no window to time out. -/
def State.windowAge (s : State) (p : Nat) : Option Nat :=
  let c := s.core p
  if ¬ s.alive p ∨ c.running then none
  else if c.ftab = [] then some 0
  else if s.rd OD.TICKDIV_MIN ≤ c.age then some (min (c.age - s.rd OD.TICKDIV_MIN) c.rest)
  else none

/-- FRAME_ACCEPT: in the window of STEER_WINDOW cycles the expected frame is accepted when the tokens it needs are at the
heads, and its body starts; a microcode word that cannot be corrected fences the core (R78, R89 to R91). -/
def execFrameAccept (core : Nat) (ecc : Ecc) (s : State) : Answer :=
  match s.windowAge core with
  | none => .next s
  | some n =>
    if (s.core core).ctrl.steerWindow ≤ n then .next s
    else .next (s.withTable core ecc fun s => s.issue core fun _ c => c.accept)

/-- The frame would be accepted at the heads as they stand. -/
def Core.ready (c : Core) : Bool :=
  let b := c.look
  decide (b.1.steer b.2 ≠ .wait)

/-- STEER_TIMEOUT: the window runs to the end of its STEER_WINDOW cycles without the tokens the frame needs; the frame is
entered VOID and its body starts as for an accepted frame (R90, R92). A frame whose tokens are at the heads within the
window does not time out, and before the first frame there is no window. -/
def execSteerTimeout (core : Nat) (s : State) : Answer :=
  match s.windowAge core with
  | none => .next s
  | some n =>
    let w := (s.core core).ctrl.steerWindow
    if (s.core core).ftab = [] ∨ (n < w ∧ (s.core core).ready) then .next s
    else
      let s := s.advanceTo (s.now + (w - n))
      match s.windowAge core with
      | some n => if w ≤ n then .next (s.issue core fun _ c => c.timeout) else .next s
      | none => .next s

end Sys2Proof.Machine
end

