-- ==== Sys2Proof/Machine/Net.lean ====
section
/-! DEFINITION. The routers of the mesh (R63 to R68), the gateway (R132, R133), the deck (R136 to R138), the truss (R140,
R141), the viaducts and the hub switch (R142, R145, R146), with the errors of R58, R94, R135 and R159. A queue holds four
flits per virtual channel (R63); a flit moves when its head is granted and there is room downstream. -/

namespace Sys2Proof.Machine

/-! ### The mesh -/

/-- The opposite of a port: 0 N, 1 E, 2 S, 3 W. -/
def opposite (d : Nat) : Nat := (d + 2) % 4

/-- The position next to a position on its cluster's mesh (R131). -/
def meshNext (pos d : Nat) : Option Nat :=
  if d = 0 ∧ 4 ≤ pos then some (pos - 4) else if d = 1 ∧ pos % 4 < 3 then some (pos + 1)
  else if d = 2 ∧ pos < 12 then some (pos + 4) else if d = 3 ∧ 1 ≤ pos % 4 then some (pos - 1) else none

/-- Edge positions in index order (R132). -/
def edgePos (e : Nat) : Nat := [0, 1, 2, 3, 4, 7, 8, 11, 12, 13, 14, 15].getD e 0

/-- The outward port of an edge position that its gateway port attaches to (R132). -/
def edgePort (e : Nat) : Nat := if e ≤ 3 then 0 else if 8 ≤ e then 2 else if e = 4 ∨ e = 6 then 3 else 1

/-- The edge index of a position whose outward port is `d`. -/
def edgeOf (pos d : Nat) : Option Nat :=
  (List.range 12).find? fun e => decide (edgePos e = pos ∧ edgePort e = d)

def State.rq (s : State) (k : Nat) : List Tok := SMap.get [] s.fabric.routerQ k
def State.setRq (s : State) (k : Nat) (q : List Tok) : State :=
  { s with fabric.routerQ := SMap.set [] s.fabric.routerQ k q }

/-- Route entry of a head flit at an input port (R64): the table is the one of the core that serves the position (R134). -/
def State.routeEntry (s : State) (p port : Nat) (ctrl : Bool) (label : Nat) : Nat :=
  let c := s.core (s.serving (pcidCluster p) (pcidPos p))
  SMap.get 0 c.routes (if port = 4 then 128 + label % 8 else (port * 2 + b2n ctrl) * 16 + label % 16)

/-- OUTMASK of an entry, 0 when it is not valid. -/
def outMask (e : Nat) : Nat := if bit e 9 then bits e 0 5 else 0

/-- ROUTE_FAULT at a router: recorded, and a repeat within 2^30 cycles fences the core (R64, R94). -/
def State.routeFault (s : State) (p : Nat) : State :=
  let sv := s.serving (pcidCluster p) (pcidPos p)
  let again := match (s.core sv).routeFault with
    | some t => decide (s.now < t + 2 ^ 30)
    | none => false
  let s := s.updCore sv fun c => { c with routeFault := some s.now }
  let s := s.raise 0x0005 (coreUnit sv) p
  if again then s.fence sv else s

/-- Head flits of one input port and channel that select no output are discarded. -/
def State.dropUnrouted (s : State) (p port : Nat) (ctrl : Bool) : State :=
  match s.rq (rKey p port ctrl) with
  | [] => s
  | t :: ts =>
    if outMask (s.routeEntry p port ctrl t.label) = 0 then (s.setRq (rKey p port ctrl) ts).routeFault p else s

/-- An input asks for an output: its head names the output and has not been served there yet (R66). -/
def State.asks (s : State) (p port out : Nat) (ctrl : Bool) : Bool :=
  match s.rq (rKey p port ctrl) with
  | [] => false
  | t :: _ => bit (outMask (s.routeEntry p port ctrl t.label)) out && !bit t.served out

/-- A position's router treats its local output as fenced (R134, R477). -/
def State.localFenced (s : State) (p : Nat) : Bool :=
  s.fenced (s.serving (pcidCluster p) (pcidPos p)) || SMap.get false s.fabric.fencedPos p

/-- Room for one flit of a channel beyond an output (R63, R69, R132). -/
def State.outRoom (s : State) (p out : Nat) (ctrl : Bool) : Bool :=
  if out = 4 then
    let c := s.core (s.serving (pcidCluster p) (pcidPos p))
    let d := c.fifoD.length + (SMap.get [] s.fabric.localQ (p * 2)).length
    let n := d + c.fifoC.length + (SMap.get [] s.fabric.localQ (p * 2 + 1)).length
    s.localFenced p || (decide (n < 8) && (ctrl || decide (d < 6)))
  else match meshNext (pcidPos p) out with
    | some q => decide ((s.rq (rKey (mkPcid (pcidCluster p) q) (opposite out) ctrl)).length < 4)
    | none => match edgeOf (pcidPos p) out with
      | some e => decide ((SMap.get [] s.fabric.gateQ ((pcidCluster p * 12 + e) * 2 + b2n ctrl)).length < 4)
      | none => false

/-- The input port granted: the first that asks, from the pointer on (R65). -/
def State.granted (s : State) (p out : Nat) (ctrl : Bool) : Option Nat :=
  let ptr := SMap.get 0 s.fabric.rr (p * 5 + out)
  ((List.range 5).map fun i => (ptr + i) % 5).find? fun port => s.asks p port out ctrl

/-- More than 16 LINK_UE on one link within 2^20 cycles fence the position that receives on it (R135). -/
def State.linkError (s : State) (p port : Nat) : State :=
  let sv := s.serving (pcidCluster p) (pcidPos p)
  let recent := ((SMap.get [] s.fabric.linkUe (p * 5 + port)).filter fun t => decide (s.now < t + 2 ^ 20)) ++ [s.now]
  let s := { s with fabric.linkUe := SMap.set [] s.fabric.linkUe (p * 5 + port) recent }
  let s := (s.inc OD.LINK_UE_TOTAL 0).raise 0x0004 (coreUnit sv) p
  if 16 < recent.length ∧ SMap.get false s.fabric.fencedPos p = false then s.fencePosition (pcidCluster p) (pcidPos p) else s

/-- A corrected flit error, counted at the core of the receiving router (R58, R95). -/
def State.linkCe (s : State) (p : Nat) : State := s.inc OD.CORE_LINK_CE (s.serving (pcidCluster p) (pcidPos p))

/-- A flit leaves on an output: to the local port, the neighbour's queue or the gateway's (R63, R68, R132, R134). The check
bits of a mesh link are the receiving router's to look at (R58). -/
def State.deliver (s : State) (p out : Nat) (ctrl : Bool) (t : Tok) (link : Ecc) : State :=
  let cl := pcidCluster p
  if out = 4 then
    if s.localFenced p then s.inc OD.FENCED_DROP cl
    else { s with fabric.localQ := SMap.upd [] s.fabric.localQ (p * 2 + b2n ctrl) fun q => q ++ [t] }
  else match meshNext (pcidPos p) out with
    | some q =>
      let n := mkPcid cl q
      if link = .uncorrected then s.linkError n (opposite out)
      else
        let s := if link = .corrected then s.linkCe n else s
        s.setRq (rKey n (opposite out) ctrl) (s.rq (rKey n (opposite out) ctrl) ++ [t])
    | none => match edgeOf (pcidPos p) out with
      | some e => { s with fabric.gateQ := SMap.upd [] s.fabric.gateQ ((cl * 12 + e) * 2 + b2n ctrl) fun q => q ++ [t] }
      | none => s

/-- One grant at an output (R65, R66). -/
def State.hop (s : State) (p out port : Nat) (ctrl : Bool) (link : Ecc) : State :=
  match s.rq (rKey p port ctrl) with
  | [] => s
  | t :: ts =>
    let e := s.routeEntry p port ctrl t.label
    let served := t.served ||| 2 ^ out
    let rest := if served &&& outMask e = outMask e then ts else { t with served := served } :: ts
    let s := s.setRq (rKey p port ctrl) rest
    let s := { s with fabric.rr := SMap.set 0 s.fabric.rr (p * 5 + out) ((port + 1) % 5) }
    s.deliver p out ctrl { t with label := bits e 5 4, served := 0 } link

/-- Both channels of every input port lose an unrouted head. -/
def State.dropAllUnrouted (s : State) (p : Nat) : State :=
  [0, 1, 2, 3, 4].foldl (fun s port => (s.dropUnrouted p port true).dropUnrouted p port false) s

/-- An output of a router grants a queued flit, the control channel first (R63 to R68). -/
def State.routerHop (s : State) (p out : Nat) (link : Ecc) : State :=
  let s := s.dropAllUnrouted p
  match s.granted p out true, s.outRoom p out true with
  | some port, true => s.hop p out port true link
  | _, _ =>
    match s.granted p out false, s.outRoom p out false with
    | some port, true => s.hop p out port false link
    | _, _ => s

/-- ROUTER_HOP: an output grants a queued flit (R63 to R68). A corrected table entry counts and is used; one that cannot be
corrected is not used, and the core whose table it is gets fenced (R78; log entry 140); a parity error of the router fences
the position (R135). -/
def execRouterHop (pos : Nat) (out : Fin 5) (fault : HopFault) (s : State) : Answer :=
  let c := s.serving (pcidCluster pos) (pcidPos pos)
  match fault with
  | .none => .next (s.routerHop pos out .ok)
  | .link e => .next (s.routerHop pos out e)
  | .table .ok => .next (s.routerHop pos out .ok)
  | .table .corrected => .next ((s.routerHop pos out .ok).coreCe c)
  | .table .uncorrected => .next (if s.alive c then s.tableUe c else s)
  | .parity =>
    .next (if SMap.get false s.fabric.fencedPos pos then s else s.fencePosition (pcidCluster pos) (pcidPos pos))

/-! ### The gateway (R132, R133) -/

/-- GATEWAY_FAULT at an edge: recorded, and a repeat within 2^30 cycles fences the position (R159). -/
def State.gatewayFault (s : State) (c e : Nat) : State :=
  let again := match (s.cluster c).gwFault.find? (fun p => decide (p.1 = e)) with
    | some p => decide (s.now < p.2 + 2 ^ 30)
    | none => false
  let s := s.updCluster c fun k => { k with gwFault := SMap.put k.gwFault e s.now }
  let s := s.raise 0x000A (clusterUnit c) c
  if again then s.fencePosition c (edgePos e) else s

/-- Key of a gateway queue: from the mesh by edge, or from the truss by lane of the cluster port. -/
def gKey (c : Nat) (outbound : Bool) (port : Nat) (ctrl : Bool) : Nat :=
  (if outbound then c * 12 + port else 3072 + c * 8 + port % 8) * 2 + b2n ctrl

/-- A token enters the deck. -/
def State.toDeck (s : State) (c : Nat) (ctrl : Bool) (t : Tok) : State :=
  { s with fabric.deckQ := SMap.upd [] s.fabric.deckQ (c * 2 + b2n ctrl) fun q => q ++ [t] }

/-- Queue of an edge router's outward port, at which a token enters the mesh. -/
def edgeKey (c e : Nat) (ctrl : Bool) : Nat := rKey (mkPcid c (edgePos e)) (edgePort e) ctrl

/-- A token enters the mesh. -/
def State.toMesh (s : State) (c e : Nat) (ctrl : Bool) (t : Tok) : State :=
  s.setRq (edgeKey c e ctrl) (s.rq (edgeKey c e ctrl) ++ [t])

def trKey (c port lane : Nat) (ctrl : Bool) : Nat := ((c * 6 + port) * 8 + lane) * 2 + b2n ctrl
def State.tq (s : State) (k : Nat) : List Tok := SMap.get [] s.fabric.trussQ k
def State.setTq (s : State) (k : Nat) (q : List Tok) : State :=
  { s with fabric.trussQ := SMap.set [] s.fabric.trussQ k q }

/-- Where a head at the gateway goes (R133). -/
inductive GateDest where
  | nowhere
  | deck
  | truss (lane : Nat)
  | mesh (edge : Nat)
  deriving DecidableEq, Repr

/-- Head of a gateway queue: from the mesh by edge, from the truss by lane. -/
def State.gateHead (s : State) (c : Nat) (outbound : Bool) (port : Nat) (ctrl : Bool) : Option Tok :=
  (SMap.get [] s.fabric.gateQ (gKey c outbound port ctrl)).head?

/-- The table entry of a head (R133). -/
def State.gateEntry (s : State) (c : Nat) (outbound : Bool) (t : Tok) : Nat :=
  SMap.get 0 (if outbound then (s.cluster c).outbound else (s.cluster c).inbound) (t.label % 16)

/-- The destination an entry names, in its direction. -/
def gateDest (outbound : Bool) (e : Nat) : GateDest :=
  if bits e 0 2 = 2 then .deck
  else if outbound = true ∧ bits e 0 2 = 1 then .truss (bits e 10 3)
  else if outbound = false ∧ bits e 0 2 = 3 ∧ bits e 6 4 < 12 then .mesh (bits e 6 4)
  else .nowhere

/-! ### Words of cluster memory (R136, R138, R159) -/

def dkOp (e : Nat) : Nat := bits e 0 2
def dkIn (e : Nat) : Nat := bits e 2 4
def dkOut (e : Nat) : Nat := bits e 6 4
def dkPort (e : Nat) : Nat := bits e 10 4 % 12
def dkCount (e : Nat) : Nat := bits e 31 12
def dkDelay (e : Nat) : Nat := bits e 43 8
def dkRing (e : Nat) : Nat := 2 ^ min (bits e 51 4) 8
def dkRdofs (e : Nat) : Nat := bits e 55 8

/-- The deck entry of an operation on a label, with its number. -/
def Cluster.deckEntry (c : Cluster) (op label : Nat) : Option (Nat × Nat) :=
  c.deck.find? fun p => decide (dkOp p.2 = op ∧ dkIn p.2 = label)

/-- Word `k` of a frame slot (R138). -/
def deckAddr (e slot k : Nat) : Nat := (bits e 14 17 + slot * (dkCount e + 1) + k) % 131072

/-- Frame slot of a steering tag for READ (R138). -/
def readSlot (e stag : Nat) : Nat := (stag + 256 * 256 - dkRdofs e) % dkRing e

/-- A word's bank is out of service (R159). -/
def Cluster.bankOut (k : Cluster) (a : Nat) : Bool := bit k.banksOut (a % 16)

/-- What a read of a word sees at a cycle: four cycles after its write the new word (R138); in a bank out of service a void one
with CAUSE 0x03 (log entry 139). -/
def Cluster.wordAt (k : Cluster) (now a : Nat) : DeckWord :=
  if k.bankOut a then { data := BitVec.ofNat 64 causeMem.toNat, v := true }
  else match k.memOld.find? fun x => decide (x.1 = a ∧ now < x.2.1) with
    | some x => x.2.2
    | none => SMap.get {} k.mem a

/-- A word written at a cycle, readable four cycles later; a bank out of service takes none. -/
def Cluster.writeAt (k : Cluster) (now a : Nat) (w : DeckWord) : Cluster :=
  if k.bankOut a then k
  else { k with mem := SMap.set {} k.mem a w,
                memOld := (k.memOld.filter fun x => decide (now < x.2.1 + 4)) ++ [(a, now + 4, SMap.get {} k.mem a)] }

/-! ### READs under way (R138, R139, R147) -/

/-- The words of the slot a READ reads, as they stand at a cycle. -/
def Cluster.slotWords (k : Cluster) (now : Nat) (r : DeckRead) : List DeckWord :=
  (List.range (dkCount r.entry + 1)).map fun i => k.wordAt now (deckAddr r.entry r.slot i)

/-- The control token that a READ gives in place of its data, if it gives one (R138). -/
def Cluster.readCtl (k : Cluster) (now : Nat) (r : DeckRead) : Option (Nat × Nat) :=
  let ws := k.slotWords now r
  if r.ctrl ∧ r.flit.kind = 5 then some (5, r.flit.cause.toNat)
  else match ws.find? fun w => w.v with
    | some w => some (5, bits w.data.toNat 0 8)
    | none =>
      if r.bad then some (5, causeMem.toNat)
      else if (r.ctrl = true ∧ r.flit.kind = 4) ∨ ws.any (fun w => w.k) then some (4, 0)
      else none

/-- The next token of a READ, its channel, and what remains of the READ. -/
def Cluster.readNext (k : Cluster) (now epoch : Nat) (r : DeckRead) : Tok × Bool × Option DeckRead :=
  match (if r.next = 0 then k.readCtl now r else none) with
  | some kc =>
    ({ flit := { payload := (ctlFlit 0 kc.1 r.ftag kc.2).payload, tag := mkTag epoch 0 r.flit.stag false },
       label := dkOut r.entry }, true, none)
  | none =>
    let w := k.wordAt now (deckAddr r.entry r.slot r.next)
    ({ flit := { payload := w.data, tag := mkTag epoch w.bt.toNat r.flit.stag w.m }, label := dkOut r.entry }, false,
     if r.next = dkCount r.entry then none else some { r with next := r.next + 1 })

/-- Bank of the next access of a READ. -/
def DeckRead.bank (r : DeckRead) : Nat := deckAddr r.entry r.slot r.next % 16

/-- A WRITE waits for a bank: a data flit on its way to a WRITE entry whose word lies there (R139, R147). -/
def State.writeWaits (s : State) (c bank : Nat) : Bool :=
  let k := s.cluster c
  (SMap.get [] s.fabric.deckQ (c * 2)).any fun t =>
    match k.deckEntry 1 t.label with
    | some ne =>
      let n := ((SMap.get [] k.wr ne.1).find? fun x => decide (x.1 = t.flit.stag)).elim 0 Prod.snd
      decide (deckAddr ne.2 (t.flit.stag % dkRing ne.2) n % 16 = bank)
    | none => false

/-- The READ of each entry that is next, and whose next read is due. -/
def State.dueReads (s : State) (c : Nat) : List DeckRead :=
  let rs := (s.cluster c).reads
  rs.filter fun r => decide (r.due + r.next + 4 ≤ s.now ∧ rs.find? (fun q => decide (q.num = r.num)) = some r) &&
    !s.writeWaits c r.bank

/-- The READ granted: round-robin over the entries that ask for its bank (R139). -/
def State.grantedRead (s : State) (c : Nat) (r : DeckRead) : Bool :=
  let ptr := SMap.get 0 s.fabric.deckRr (c * 16 + r.bank)
  (s.dueReads c).all fun q => decide (q.bank ≠ r.bank ∨ (r.num + 64 - ptr) % 64 ≤ (q.num + 64 - ptr) % 64)

/-- READs that may move a flit on a channel, in the order of their entries; a flit was read four cycles before (R138). -/
def State.readyReads (s : State) (c : Nat) (ctrl : Bool) : List DeckRead :=
  (s.dueReads c).filter fun r => s.grantedRead c r && ((s.cluster c).readNext (s.now - 4) s.epoch r).2.1 == ctrl

/-! ### Gateway crossings (R132, R133, R147) -/

/-- A source asks for a truss lane or an edge: sources 0 to 11 are the edges outbound; 0 to 7 the lanes and 8 the deck
inbound. -/
def State.gateAsks (s : State) (c : Nat) (outbound : Bool) (dest : GateDest) (ctrl : Bool) (src : Nat) : Bool :=
  if outbound = false ∧ src = 8 then (s.readyReads c ctrl).any fun r => decide (dest = .mesh (dkPort r.entry))
  else match s.gateHead c outbound src ctrl with
    | some t => decide (gateDest outbound (s.gateEntry c outbound t) = dest)
    | none => false

/-- Room beyond the gateway (R63, R132). -/
def State.gateRoom (s : State) (c : Nat) (dest : GateDest) (ctrl : Bool) : Bool :=
  match dest with
  | .truss l => decide ((s.tq (trKey c 4 l ctrl)).length < 4)
  | .mesh e => decide ((s.rq (edgeKey c e ctrl)).length < 4)
  | _ => true

/-- Number of sources of a direction, and the key of an output's pointer. -/
def gateSources (outbound : Bool) : Nat := if outbound then 12 else 9
def gateRrKey (c : Nat) : GateDest → Nat
  | .truss l => c * 20 + l
  | .mesh e => c * 20 + 8 + e
  | _ => c * 20

/-- The source granted at an output: the first that asks from the pointer on. -/
def State.gateGrant (s : State) (c : Nat) (outbound : Bool) (dest : GateDest) (ctrl : Bool) : Option Nat :=
  let n := gateSources outbound
  let ptr := SMap.get 0 s.fabric.gateRr (gateRrKey c dest)
  ((List.range n).map fun i => (ptr + i) % n).find? (s.gateAsks c outbound dest ctrl)

/-- A source may move a flit to an output: there is room, it is granted, and no control flit goes first. -/
def State.gateMay (s : State) (c : Nat) (outbound : Bool) (dest : GateDest) (ctrl : Bool) (src : Nat) : Bool :=
  s.gateRoom c dest ctrl && decide (s.gateGrant c outbound dest ctrl = some src) &&
    (ctrl || !s.gateRoom c dest true || (s.gateGrant c outbound dest true).isNone)

/-- The pointer of an output moves past the source granted. -/
def State.gateTurn (s : State) (c : Nat) (outbound : Bool) (dest : GateDest) (src : Nat) : State :=
  { s with fabric.gateRr := SMap.set 0 s.fabric.gateRr (gateRrKey c dest) ((src + 1) % gateSources outbound) }

/-- A flit leaves the gateway. -/
def State.gateOut (s : State) (c : Nat) (dest : GateDest) (ctrl : Bool) (t : Tok) : State :=
  match dest with
  | .truss l => s.setTq (trKey c 4 l ctrl) (s.tq (trKey c 4 l ctrl) ++ [t])
  | .mesh e => s.toMesh c e ctrl t
  | .deck => s.toDeck c ctrl t
  | .nowhere => s

/-- A READ's next flit enters the mesh, and its bank's pointer moves past its entry. -/
def State.readMoves (s : State) (c : Nat) (r : DeckRead) : State :=
  let x := (s.cluster c).readNext (s.now - 4) s.epoch r
  let swap (q : DeckRead) : Option DeckRead := if q = r then x.2.2 else some q
  let s := s.updCluster c fun k => { k with reads := k.reads.filterMap swap }
  let s := { s with fabric.deckRr := SMap.set 0 s.fabric.deckRr (c * 16 + r.bank) ((r.num + 1) % 64) }
  (s.gateTurn c false (.mesh (dkPort r.entry)) 8).toMesh c (dkPort r.entry) x.2.1 x.1

/-- A READ's flit crosses to the mesh, where one is ready and its edge grants the deck. -/
def State.deckCrosses (s : State) (c : Nat) (ctrl : Bool) : State :=
  match (s.readyReads c ctrl).find? fun r => s.gateMay c false (.mesh (dkPort r.entry)) ctrl 8 with
  | some r => s.readMoves c r
  | none => s

/-- GATEWAY_CROSSING: the flit at the head of a source crosses by its label, where its output grants it: control flits first,
then round-robin over the sources (R132, R133, R147). Outbound, `port` is the edge the flit comes from; inbound, the truss
lane of the cluster port, or from 8 on the deck. -/
def execGatewayCrossing (cluster : Fin 256) (outbound : Bool) (port : Fin 12) (ctrl : Bool) (s : State) : Answer :=
  if outbound = false ∧ 8 ≤ port.val then .next (s.deckCrosses cluster ctrl)
  else
    match s.gateHead cluster outbound port ctrl with
    | none => .next s
    | some t =>
      let e := s.gateEntry cluster outbound t
      let dest := gateDest outbound e
      let k := gKey cluster outbound port ctrl
      let popped := { s with fabric.gateQ := SMap.upd [] s.fabric.gateQ k (List.drop 1) }
      let edge := if outbound then port.val else if bits e 6 4 < 12 then bits e 6 4 else 0
      if dest = .nowhere then .next (popped.gatewayFault cluster edge)
      else if dest = .deck then .next (popped.gateOut cluster dest ctrl { t with label := bits e 2 4 })
      else if s.gateMay cluster outbound dest ctrl port then
        .next ((popped.gateTurn cluster outbound dest port).gateOut cluster dest ctrl { t with label := bits e 2 4 })
      else .next s

/-! ### The truss (R140, R141, R152) -/

/-- A pass-through row: the disabled row of an A3584, or the row a portable image leaves unused on an A4096 (R150, R152,
R157). -/
def State.passRow (s : State) (d r : Nat) : Bool :=
  decide (s.disRow d = some r) ||
    (decide (s.grade ≠ 2 ∧ s.rd OD.PORTABLE = 1) && decide (r = if d < 2 then 7 else 0))

/-- Where a truss port leads. -/
inductive TrussEnd where
  | none
  | router (c port : Nat)
  | viaduct (via chan : Nat) (back : Bool)
  | gateway
  | hub
  deriving DecidableEq, Repr

/-- Row reached from row `r` going up or down, past pass-through rows; none past the die's edge. -/
def State.rowStep (s : State) (d : Nat) (down : Bool) : Nat → Nat → Option Nat
  | 0, _ => none
  | n + 1, r =>
    if down then (if 7 ≤ r then none else if s.passRow d (r + 1) then State.rowStep s d down n (r + 1) else some (r + 1))
    else (if r = 0 then none else if s.passRow d (r - 1) then State.rowStep s d down n (r - 1) else some (r - 1))

/-- Logical row of a physical row of a die, for the row-numbered channels (R142). -/
def State.logRow (s : State) (d r : Nat) : Nat :=
  match s.disRow d with
  | some x => if x < r then r - 1 else r
  | none => r

/-- The far end of a truss router's port (R140, R142). Viaducts: 0 D0–D1, 1 D0–D2, 2 D1–D3, 3 D2–D3, 4 to 7 to the hub. -/
def State.trussEnd (s : State) (c out : Nat) : TrussEnd :=
  let d := c / 64
  let r := c / 8 % 8
  let x := c % 8
  if out = 4 then .gateway
  else if out = 5 then .hub
  else if out = 1 then
    if x < 7 then .router (c + 1) 3
    else if d = 0 then .viaduct 0 (s.logRow d r) false else if d = 2 then .viaduct 3 (s.logRow d r) false else .none
  else if out = 3 then
    if 0 < x then .router (c - 1) 1
    else if d = 1 then .viaduct 0 (s.logRow d r) true else if d = 3 then .viaduct 3 (s.logRow d r) true else .none
  else if out = 2 then
    match s.rowStep d true 8 r with
    | some r' => .router (physCluster d r' x) 0
    | none => if d = 0 then .viaduct 1 x false else if d = 1 then .viaduct 2 x false else .none
  else
    match s.rowStep d false 8 r with
    | some r' => .router (physCluster d r' x) 2
    | none => if d = 2 then .viaduct 1 x true else if d = 3 then .viaduct 2 x true else .none

/-- Key of a viaduct queue. -/
def vKey (via chan lane : Nat) (ctrl back : Bool) : Nat := (((via * 64 + chan) * 8 + lane) * 2 + b2n ctrl) * 2 + b2n back

/-- Truss entry of a head flit (R141). -/
def State.trussEntry (s : State) (c port lane : Nat) (ctrl : Bool) (label : Nat) : Nat :=
  SMap.get 0 (s.cluster c).truss (((port * 8 + lane) * 2 + b2n ctrl) * 16 + label % 16)

/-- OUTMASK of a truss entry, 0 when it is not valid. -/
def trussMask (e : Nat) : Nat := if bit e 13 then bits e 0 6 else 0

/-- TRUSS_ROUTE_FAULT: recorded, and a repeat within 2^30 cycles makes the cluster DEGRADED (R141, R159). -/
def State.trussFaulted (s : State) (c : Nat) : State :=
  let again := match (s.cluster c).trussFault with
    | some t => decide (s.now < t + 2 ^ 30)
    | none => false
  let s := s.updCluster c fun k => { k with trussFault := some s.now }
  let s := s.raise 0x000C (dieUnit (c / 64)) (c / 64)
  if again then s.degrade c (mkPcid c 16) else s

/-- Input ports with their lanes in grant order from the pointer on (R147). -/
def trussOrder (ptr : Nat) : List (Nat × Nat) :=
  ((List.range 6).map fun i => (List.range 8).map fun l => ((ptr + i) % 6, l)).flatten

/-- Heads of a truss router that select no output are discarded. -/
def State.dropTruss (s : State) (c : Nat) (ctrl : Bool) : State :=
  (trussOrder 0).foldl (fun s pl =>
    match s.tq (trKey c pl.1 pl.2 ctrl) with
    | [] => s
    | t :: ts =>
      if trussMask (s.trussEntry c pl.1 pl.2 ctrl t.label) = 0 then (s.setTq (trKey c pl.1 pl.2 ctrl) ts).trussFaulted c
      else s) s

/-- A truss input asks for an output lane; the lane is taken modulo 4 on the hub port. -/
def State.trussAsks (s : State) (c out lane : Nat) (ctrl : Bool) (pl : Nat × Nat) : Bool :=
  match s.tq (trKey c pl.1 pl.2 ctrl) with
  | [] => false
  | t :: _ =>
    let e := s.trussEntry c pl.1 pl.2 ctrl t.label
    let ol := if out = 5 then bits e 6 3 % 4 else bits e 6 3
    bit (trussMask e) out && !bit t.served out && decide (ol = lane)

/-- Room beyond a truss output lane. -/
def State.trussRoom (s : State) (c out lane : Nat) (ctrl : Bool) : Bool :=
  match s.trussEnd c out with
  | .none => false
  | .router n port => decide ((s.tq (trKey n port lane ctrl)).length < 4)
  | .viaduct via chan back => decide ((SMap.get [] s.fabric.viaQ (vKey via chan lane ctrl back)).length < 4)
  | .gateway => decide ((SMap.get [] s.fabric.gateQ (gKey c false lane ctrl)).length < 4)
  | .hub => decide ((SMap.get [] s.fabric.viaQ (vKey (4 + c / 64) (c % 64) lane ctrl false)).length < 4)

def State.toVia (s : State) (k : Nat) (t : Tok) : State :=
  { s with fabric.viaQ := SMap.upd [] s.fabric.viaQ k fun q => q ++ [t] }

/-- A flit leaves a truss router on an output lane; a double-bit error on the link discards it as TRUSS_UE (R145). -/
def State.trussDeliver (s : State) (c out lane : Nat) (ctrl : Bool) (t : Tok) (ue : Bool) : State :=
  match s.trussEnd c out with
  | .none => s
  | .router n port =>
    if ue then (s.inc OD.TRUSS_UE_TOTAL 0).raise 0x000D (dieUnit (n / 64)) (n / 64)
    else s.setTq (trKey n port lane ctrl) (s.tq (trKey n port lane ctrl) ++ [t])
  | .viaduct via chan back => s.toVia (vKey via chan lane ctrl back) t
  | .gateway =>
    { s with fabric.gateQ := SMap.upd [] s.fabric.gateQ (gKey c false lane ctrl) fun q => q ++ [t] }
  | .hub => s.toVia (vKey (4 + c / 64) (c % 64) lane ctrl false) t

/-- An output lane is reserved by the running image (R144). -/
def State.laneReserved (s : State) (c out lane : Nat) : Bool :=
  s.act.content.reserved.any fun r => decide (s.logicalCluster c = some r.1 ∧ r.2.1 = out ∧ r.2.2 = lane)

/-- One grant at a truss output lane; a reserved lane is not arbitrated, so that its pointer stays (R147). -/
def State.trussMove (s : State) (c out lane : Nat) (ctrl : Bool) (pl : Nat × Nat) (ue : Bool) : State :=
  let k := trKey c pl.1 pl.2 ctrl
  match s.tq k with
  | [] => s
  | t :: ts =>
    let e := s.trussEntry c pl.1 pl.2 ctrl t.label
    let served := t.served ||| 2 ^ out
    let s := s.setTq k (if served &&& trussMask e = trussMask e then ts else { t with served := served } :: ts)
    let s := if s.laneReserved c out lane then s
      else { s with fabric.trussRr := SMap.set 0 s.fabric.trussRr ((c * 6 + out) * 8 + lane) ((pl.1 + 1) % 6) }
    s.trussDeliver c out lane ctrl { t with label := bits e 9 4, served := 0 } ue

/-- TRUSS_HOP (R140, R141, R147): the control channel first, then round-robin over the six input ports. A corrected error
of the link leaves the flit as it is (R58, R145). -/
def execTrussHop (cluster : Fin 256) (out : Fin 6) (lane : Fin 8) (ecc : Ecc) (s : State) : Answer :=
  let ue := decide (ecc = .uncorrected)
  let s := (s.dropTruss cluster true).dropTruss cluster false
  let order := trussOrder (SMap.get 0 s.fabric.trussRr ((cluster.val * 6 + out.val) * 8 + lane.val))
  match order.find? (s.trussAsks cluster out lane true), s.trussRoom cluster out lane true with
  | some pl, true => .next (s.trussMove cluster out lane true pl ue)
  | _, _ =>
    match order.find? (s.trussAsks cluster out lane false), s.trussRoom cluster out lane false with
    | some pl, true => .next (s.trussMove cluster out lane false pl ue)
    | _, _ => .next s

/-! ### Viaducts and the hub switch (R142, R145, R146, R159) -/

/-- The die that receives on a viaduct, or the die of a hub viaduct. -/
def viaDie (via : Nat) (back : Bool) : Nat :=
  if via = 0 then (if back then 0 else 1) else if via = 1 then (if back then 0 else 2)
  else if via = 2 then (if back then 1 else 3) else if via = 3 then (if back then 2 else 3) else via - 4

/-- VIADUCT_UE; more than 16 on one channel within 2^20 cycles raise VIADUCT_DEGRADED (R159). -/
def State.viaError (s : State) (via chan : Nat) (back : Bool) : State :=
  let d := viaDie via back
  let ch := via * 64 + chan
  let recent := ((SMap.get [] s.fabric.viaUe ch).filter fun t => decide (s.now < t + 2 ^ 20)) ++ [s.now]
  let worn := decide (16 < recent.length) && !s.fabric.viaBad.contains ch
  let s := { s with fabric.viaUe := SMap.set [] s.fabric.viaUe ch recent,
                    fabric.viaBad := if worn then ch :: s.fabric.viaBad else s.fabric.viaBad }
  let s := (s.inc OD.VIA_UE via).raise 0x000E (dieUnit d) d
  if worn then s.raisePkg 0x000F via else s

/-- The boundary truss router and port at the far end of a die-to-die channel. -/
def State.viaExit (s : State) (via chan : Nat) (back : Bool) : Nat × Nat :=
  let d := viaDie via back
  let top := if s.passRow d 0 then 1 else 0
  let bottom := if s.passRow d 7 then 6 else 7
  if via = 0 ∨ via = 3 then
    (if back then (physCluster d (s.physRow d chan) 7, 1) else (physCluster d (s.physRow d chan) 0, 3))
  else if back then (physCluster d bottom chan, 2) else (physCluster d top chan, 0)

def hKey (die chan lane : Nat) (ctrl : Bool) : Nat := ((die * 64 + chan) * 4 + lane % 4) * 2 + b2n ctrl

/-- Where the head of a channel lane goes: the queue of a boundary truss router, of a hub port's truss router, or of the hub
switch. -/
def State.viaRoom (s : State) (via chan lane : Nat) (ctrl back : Bool) : Bool :=
  if via < 4 then
    let x := s.viaExit via (chan % 8) back
    decide ((s.tq (trKey x.1 x.2 lane ctrl)).length < 4)
  else if back then decide ((s.tq (trKey (64 * (via - 4) + chan) 5 (lane % 4) ctrl)).length < 4)
  else decide ((SMap.get [] s.fabric.hubQ (hKey (via - 4) chan lane ctrl)).length < 4)

/-- A flit arrives at the far end of a viaduct. -/
def State.viaLand (s : State) (via chan lane : Nat) (ctrl back : Bool) (t : Tok) : State :=
  if via < 4 then
    let x := s.viaExit via (chan % 8) back
    s.setTq (trKey x.1 x.2 lane ctrl) (s.tq (trKey x.1 x.2 lane ctrl) ++ [t])
  else if back then
    let q := trKey (64 * (via - 4) + chan) 5 (lane % 4) ctrl
    s.setTq q (s.tq q ++ [t])
  else { s with fabric.hubQ := SMap.upd [] s.fabric.hubQ (hKey (via - 4) chan lane ctrl) fun l => l ++ [t] }

/-- VIADUCT_CROSSING: the head flit of a channel lane crosses, counted where it was corrected, or is lost to a double-bit error
(R58, R142, R145, R158). -/
def execViaductCrossing (via : Fin 8) (chan : Fin 64) (lane : Fin 8) (ctrl back : Bool) (ecc : Ecc) (s : State) : Answer :=
  let k := vKey via chan lane ctrl back
  match SMap.get [] s.fabric.viaQ k with
  | [] => .next s
  | t :: ts =>
    let popped := { s with fabric.viaQ := SMap.set [] s.fabric.viaQ k ts }
    if ecc = .uncorrected then .next (popped.viaError via chan back)
    else if s.viaRoom via chan lane ctrl back then
      let popped := if ecc = .corrected then popped.inc OD.VIA_CE via else popped
      .next (popped.viaLand via chan lane ctrl back t)
    else .next s

/-- Flits of a hub block, on a lane and label, towards the relays of the hub switch (R146). -/
def State.hubSend (s : State) (block lane label : Nat) (ctrl : Bool) (fs : List Flit) : State :=
  { s with fabric.hubQ := SMap.upd [] s.fabric.hubQ (hKey 4 block lane ctrl) fun q =>
      q ++ fs.map fun f => { flit := f, label := label } }

/-- The relay of the running image for a flit at the hub switch (R146). -/
def State.relayOf (s : State) (src chan lane label : Nat) : Option Relay :=
  s.act.content.relays.find? fun r => decide (r.die = src ∧ r.chan = chan ∧ r.lane = lane ∧ r.label = label)

/-- Where the head of a hub switch queue goes. -/
def State.hubDest (s : State) (src chan lane : Nat) (ctrl : Bool) : Option Relay :=
  ((SMap.get [] s.fabric.hubQ (hKey src chan lane ctrl)).head?).bind fun t => s.relayOf src chan lane t.label

/-- A source of the hub switch, a die or the hub blocks, has a head for a die; those on reserved relay lanes are not
arbitrated (R147). -/
def State.hubAsks (s : State) (out src : Nat) (ctrl : Bool) : Bool :=
  (List.range 64).any fun chan => (List.range 4).any fun lane =>
    match s.hubDest src chan lane ctrl with
    | some r => !r.reserved && match r.dest with
      | .die d _ _ => decide (d = out)
      | .block _ => false
    | none => false

/-- The source granted towards a die: control flits first, then round-robin over the four dies and the hub blocks (R147). -/
def State.hubGrant (s : State) (out : Nat) (ctrl : Bool) : Option Nat :=
  let ptr := SMap.get 0 s.fabric.hubRr out
  ((List.range 5).map fun i => (ptr + i) % 5).find? fun src => s.hubAsks out src ctrl

/-- A flit may leave the hub switch for a die. -/
def State.hubMay (s : State) (r : Relay) (out src : Nat) (ctrl : Bool) : Bool :=
  r.reserved || (decide (s.hubGrant out ctrl = some src) && (ctrl || (s.hubGrant out true).isNone))

/-- HUB_RELAY: the flit at the head of a hub switch queue goes where the image's relays say: to another die's viaduct, or into
a hub block, which takes it from the fabric (R146, R147). Source 4 is the hub blocks, with a block's number for its channel;
a flit without a relay stays (log entry 141). -/
def execHubRelay (src : Fin 5) (chan : Fin 64) (lane : Fin 4) (ctrl : Bool) (s : State) : Answer :=
  let k := hKey src chan lane ctrl
  match SMap.get [] s.fabric.hubQ k, s.hubDest src chan lane ctrl with
  | t :: ts, some r =>
    let popped := { s with fabric.hubQ := SMap.set [] s.fabric.hubQ k ts }
    match r.dest with
    | .block _ => .next popped
    | .die d dchan dlane =>
      let v := vKey (4 + d % 4) dchan (dlane % 4) ctrl true
      if (SMap.get [] s.fabric.viaQ v).length < 4 ∧ s.hubMay r (d % 4) src ctrl then
        let popped := if r.reserved then popped
          else { popped with fabric.hubRr := SMap.set 0 popped.fabric.hubRr (d % 4) ((src.val + 1) % 5) }
        .next (popped.toVia v t)
      else .next s
  | _, _ => .next s

/-! ### The deck (R136 to R138) -/

/-- A token leaves the deck's flight list. -/
def State.deckLanded (s : State) (c : Nat) (ctrl : Bool) (t : Tok) : State :=
  { s with fabric.deckQ := SMap.upd [] s.fabric.deckQ (c * 2 + b2n ctrl) fun q => q.erase t }

/-- Every word of a frame slot written alike. -/
def Cluster.fillSlot (c : Cluster) (now e slot : Nat) (w : DeckWord) : Cluster :=
  (List.range (dkCount e + 1)).foldl (fun c k => c.writeAt now (deckAddr e slot k) w) c

/-- Data flits of a frame that an entry has written so far. -/
def Cluster.writtenOf (c : Cluster) (n stag : Nat) : Nat :=
  ((SMap.get [] c.wr n).find? fun x => decide (x.1 = stag)).elim 0 Prod.snd

/-- That count set, or forgotten; counts of frames whose slot has come round again are forgotten too. -/
def Cluster.setWritten (c : Cluster) (n stag ring : Nat) (k : Option Nat) : Cluster :=
  let others := (SMap.get [] c.wr n).filter fun x =>
    decide (x.1 ≠ stag ∧ ((stag + 256 - x.1) % 256 < ring ∨ 128 ≤ (stag + 256 - x.1) % 256))
  { c with wr := SMap.set [] c.wr n ((k.map fun k => (stag, k)).toList ++ others) }

/-- Stream whose handoff ring a deck entry of a cluster feeds (R204). -/
def State.handoffOf (s : State) (c n : Nat) : Option Nat :=
  (s.deepCfg.handoff.find? fun h => decide (s.logicalCluster c = some h.2.1 ∧ h.2.2 = n)).map Prod.fst

/-- A handoff entry enters its ring; a full ring loses its oldest entry, with HANDOFF_OVERRUN once per stream and deep slot
(R205, R215). -/
def State.handoffPush (s : State) (st : Nat) (h : Handoff) : State :=
  let q := s.ring st
  let full := decide (s.deepCfg.hqDepth ≤ q.length)
  let s := { s with deep.rings := SMap.set [] s.deep.rings st ((if full then q.drop 1 else q) ++ [h]) }
  if full then
    let s := s.inc OD.HANDOFF_OVR st
    let s := if (q.headD h).bit 395 then s.inc OD.CAND_LOST st else s
    if s.deep.ovrSeen.contains st then s
    else { s with deep.ovrSeen := st :: s.deep.ovrSeen }.raisePkg 0x0402 st
  else s

/-- The words of a frame slot as one number, word 0 lowest. -/
def Cluster.slotBits (c : Cluster) (e slot : Nat) : BitVec 512 :=
  BitVec.ofNat 512 ((List.range 8).foldl (fun n k => n + (SMap.get {} c.mem (deckAddr e slot k)).data.toNat * 2 ^ (64 * k)) 0)

/-- A frame of a handoff entry is complete, or void (R204, R206); R marks a stream under repair. -/
def State.handoffDone (s : State) (c n e slot tick : Nat) (void : Bool) : State :=
  match s.handoffOf c n with
  | none => s
  | some st =>
    let r := if s.repairing st tick s.now then 2 ^ 394 else 0
    let w := if void then BitVec.ofNat 512 (2 ^ 392) else (s.cluster c).slotBits e slot
    { s with deep.handTag := SMap.set 0 s.deep.handTag st (tick % 2 ^ 16 + 1) }.handoffPush st { bits := w ||| BitVec.ofNat 512 r, tick := tick }

/-- Frame tag of the next handoff entry of a stream with the low byte that its flits carry: the first from the entry before on,
since every tick gives one entry (R204, R206). -/
def State.nextHandTag (s : State) (st stag : Nat) : Nat :=
  let last := SMap.get 0 s.deep.handTag st
  let from_ := if last = 0 then s.act.tr % 2 ^ 16 else last
  (from_ + (stag + 2 ^ 16 - from_ % 256) % 256) % 2 ^ 16

/-- The tick of a data frame written to a deck entry (R206). -/
def State.handTick (s : State) (c n stag : Nat) : Nat :=
  match s.handoffOf c n with
  | some st => s.tickOfTag (s.nextHandTag st stag)
  | none => s.tickOfTag stag

/-- DECK_WRITE: the k-th data flit of a frame to word k, a VOID or SKIP token to every word of the slot (R136, R138); a
frame written to a handoff entry enters its stream's ring (R204). Any other control token ends the count of its own frame at
most (EOF), and writes nothing. -/
def execDeckWrite (cluster : Fin 256) (label : Fin 16) (ctrl : Bool) (flit : Flit) (s : State) : Answer :=
  let s := s.deckLanded cluster ctrl { flit := flit, label := label.val }
  match (s.cluster cluster).deckEntry 1 label with
  | none => .next s
  | some (n, e) =>
    let slot := flit.stag % dkRing e
    if ctrl then
      let s := if 2 ≤ flit.kind ∧ flit.kind ≠ 3 then s.updCluster cluster fun c => c.setWritten n flit.stag (dkRing e) none else s
      if flit.kind = 5 then
        let w : DeckWord := { data := BitVec.ofNat 64 flit.cause.toNat, v := true }
        let s := s.updCluster cluster fun c => c.fillSlot s.now e slot w
        .next (s.handoffDone cluster n e slot (s.tickOfTag flit.ftag) true)
      else if flit.kind = 4 then .next (s.updCluster cluster fun c => c.fillSlot s.now e slot { k := true })
      else .next s
    else
      let k := (s.cluster cluster).writtenOf n flit.stag
      if dkCount e < k then .next s
      else
        let w : DeckWord := { data := flit.payload, bt := BitVec.ofNat 4 flit.btag, m := flit.m }
        let s := s.updCluster cluster fun c => (c.writeAt s.now (deckAddr e slot k) w).setWritten n flit.stag (dkRing e) (some (k + 1))
        if k = dkCount e then .next (s.handoffDone cluster n e slot (s.handTick cluster n flit.stag) false) else .next s

/-- A word of cluster memory as the running image holds it, where it does (R159). -/
def State.imageWord (s : State) (c word : Nat) : Option DeckWord :=
  match s.logicalCluster c with
  | none => none
  | some l => ((s.act.content.clusters.find? fun k => decide (k.num = l)).bind fun k =>
      k.mem.find? fun p => decide (p.1 = word)).map fun p => deckWordOf p.2

/-- DECK_UE: the word is written again where the image holds it; a second failure of a word within 2^30 cycles takes its bank
out of service and makes the cluster DEGRADED (R138, R159). -/
def State.deckUe (s : State) (c word : Nat) : State :=
  let again := match (s.cluster c).wordFail.find? (fun p => decide (p.1 = word)) with
    | some p => decide (s.now < p.2 + 2 ^ 30)
    | none => false
  let s := s.updCluster c fun k => { k with
    wordFail := SMap.put k.wordFail word s.now, banksOut := if again then k.banksOut ||| 2 ^ (word % 16) else k.banksOut }
  let s := match s.imageWord c word with
    | some w => s.updCluster c fun k => { k with mem := SMap.set {} k.mem word w }
    | none => s
  let s := (s.inc OD.DECK_UE c).raise 0x000B (clusterUnit c) c
  if again then s.degrade c (mkPcid c 16) else s

/-- DECK_READ: a trigger token starts the READ of its frame slot, or of one VOID or SKIP in its place; its flits reach the mesh
by gateway crossings from DELAY + 4 cycles on (R138). `ue` is the word of the slot that cannot be corrected, `ce` tells of one
that was. A data trigger carries only STAG, so FTAG[15:8] of a control token it gives is a free value (log entry 6). -/
def execDeckRead (cluster : Fin 256) (label : Fin 16) (ctrl : Bool) (flit : Flit) (ue : Option (Fin 4096)) (ce : Bool)
    (s : State) : Answer :=
  let s := s.deckLanded cluster ctrl { flit := flit, label := label.val }
  match (s.cluster cluster).deckEntry 2 label with
  | none => .next s
  | some (n, e) =>
    let slot := readSlot e flit.stag
    let bad := ue.filter fun k => decide (k.val ≤ dkCount e)
    let hs := if ctrl then (flit.ftag / 256, s) else s.draw
    let r : DeckRead := { num := n, entry := e, slot := slot, flit := flit, ctrl := ctrl, ftag := hs.1 % 256 * 256 + flit.stag,
                          bad := bad.isSome, due := s.now + dkDelay e }
    let s := hs.2.updCluster cluster fun k => { k with reads := k.reads ++ [r] }
    let s := if ce then s.inc OD.DECK_CE cluster else s
    match bad with
    | some k => .next (s.deckUe cluster (deckAddr e slot k))
    | none => .next s

end Sys2Proof.Machine
end

