-- ==== Sys2Proof/Machine/Adapt.lean ====
section
/-! DEFINITION. In-stream adaptation: labels and samples (R230 to R232), the period schedule (R233, R234), the update
arithmetic (R235 to R240), banks and swap (R241, R242), rollback (R243 to R245) and the update record (R246). -/

namespace Sys2Proof.Machine

/-! ### History entries (R206, R207) -/

/-- Exponent of a stream's history ring. -/
def State.rlog (s : State) (st : Nat) : Option Nat := (s.deepCfg.rlog.find? fun p => decide (p.1 = st)).map Prod.snd

/-- HBM address of the history entry of a tick (R207). -/
def State.histAddr (s : State) (st tick : Nat) : Nat :=
  histBase + st * 2 ^ 27 + tick % 2 ^ (s.rlog st).getD 0 * 64

/-- The 512 bits of the ring entry at a tick's place. -/
def State.histEntry (s : State) (st tick : Nat) : Nat := leNat (s.hbm.reads (s.histAddr st tick) 64)

/-- The entry is present for a tick (R207). -/
def State.present (s : State) (st tick : Nat) : Bool :=
  (s.rlog st).isSome && decide (bits (s.histEntry st tick) 400 48 = tick % 2 ^ 48 ∧ s.rd OD.VALID_FROM st ≤ tick)

/-! ### Labels (R230, R231) -/

/-- Group a stream's labels train (R226). -/
def State.groupOf (s : State) (st : Nat) : Option Nat :=
  (List.range s.groupCount).find? fun g => (s.adaptCfg g).streams.contains st

/-- Period of a tick in a group (R233). -/
def State.periodOf (s : State) (g tick : Nat) : Nat := s.slotOf tick / (s.adaptCfg g).period

/-- First tick after deep slot L + n of period j (R233), with L its last. -/
def State.periodTick (s : State) (g j n : Nat) : Nat :=
  s.act.tr + (j * (s.adaptCfg g).period + (s.adaptCfg g).period - 1 + n + 1) * s.dslotTicks

/-- Counts of a period changed. -/
def State.stat (s : State) (g j : Nat) (f : PeriodStats → PeriodStats) : State :=
  s.updGrp g fun x => { x with stats := SMap.upd {} x.stats j f }

/-- Order of the set of R231: ascending tick, then stream. -/
def Label.key (l : Label) : Nat := l.tick * 64 + l.stream

/-- A label enters a set: of two for the same stream and tick the lowest KIND is kept; a full set loses its highest. -/
def enterLabel (cap : Nat) (set : List Label) (l : Label) : List Label × Bool :=
  match set.find? (fun x => decide (x.key = l.key)) with
  | some x => (if l.kind < x.kind then set.map fun y => if y.key = l.key then l else y else set, false)
  | none =>
    let set := insertBy Label.key l set
    if cap < set.length then (set.dropLast, true) else (set, false)

/-- A label event (R230 to R232). -/
def State.labelEvent (s : State) (l : Label) : State :=
  match s.groupOf l.stream with
  | none => s
  | some g =>
    if ¬ s.deepOn ∨ l.tick < s.act.tr then s
    else
      let j := s.periodOf g l.tick
      if j < (s.grp g).cutTo ∨ s.periodTick g j 2 ≤ s.tickNo then
        (s.inc OD.LABEL_LATE g).stat g j fun p => { p with late := p.late + 1 }
      else
        let (set, lost) := enterLabel (s.adaptCfg g).batchMax (SMap.get [] (s.grp g).sets j) l
        let s := s.updGrp g fun x => { x with sets := SMap.set [] x.sets j set }
        if lost then (s.inc OD.LABEL_EXCESS g).stat g j fun p => { p with excess := p.excess + 1 } else s

/-! ### Cutoff (R232, R233) -/

/-- A member's sample, if its entry is present and carries none of V, S and R. -/
def State.sampleOf (s : State) (l : Label) : Option Sample :=
  let e := s.histEntry l.stream l.tick
  if s.present l.stream l.tick && decide (bits e 392 3 = 0) then
    some { label := l.label, value := BitVec.ofNat 256 (bits e 128 256), vscale := bits e 384 8 }
  else none

/-- The label set of a period as its recording entry (R330). -/
def batchEntry (g j tick : Nat) (ls : List Label) : RecEnt :=
  { rtype := 7, tick := tick,
    payload := leBytes 1 g ++ leBytes 7 j ++ ls.flatMap fun l => leBytes 8 (l.stream + l.label * 2 ^ 8 + l.tick % 2 ^ 48 * 2 ^ 16) }

/-- The batch that the recording's ADAPT_BATCH entry names (R330, R334). -/
def State.batchList (s : State) (g j tick : Nat) : List Label :=
  match (s.tapeAt 7 tick).find? fun e => decide ((e.payload.getD 0 0).toNat = g ∧ leNat ((e.payload.drop 1).take 7) = j) with
  | some e => (List.range (e.payload.length / 8 - 1)).map fun i =>
      let w := leNat ((e.payload.drop (8 + 8 * i)).take 8)
      { tick := s.tickOf48 (bits w 16 48), stream := bits w 0 6, label := bits w 8 8, kind := 0 }
  | none => []

/-- A sample goes to the group's adaptation cores, from the hub controller's block on the lane and label that the image declares: the
VALUE block's four data flits, then one with VSCALE in bits [7:0] and the label in bits [15:8] (R232, R235; log entry 149). -/
def State.sendSample (s : State) (g tag : Nat) (x : Sample) : State :=
  match (s.adaptCfg g).feed with
  | none => s
  | some r =>
    let words := (List.range 4).map fun k => BitVec.ofNat 64 (bits x.value.toNat (64 * k) 64)
    s.hubSend 3 r.1 r.2 false ((words ++ [BitVec.ofNat 64 (x.vscale % 256 + x.label % 256 * 2 ^ 8)]).map fun w =>
      { payload := w, tag := mkTag s.epoch 0 tag false })

/-- LABEL_CUTOFF: the next period of a group is cut at the end of its deep slot L + 2 (R232, R233). -/
def execLabelCutoff (group : Fin 8) (s : State) : Answer :=
  let g := group.val
  let j := (s.grp g).cutTo
  if ¬ s.deepOn ∨ s.groupCount ≤ g ∨ s.nextTick < s.periodTick g j 2 then .next s
  else
    let ls := if s.tape.replaying && !s.strict then s.batchList g j (s.nextTick - 1) else SMap.get [] (s.grp g).sets j
    let smp := ls.filterMap s.sampleOf
    let skip := ls.length - smp.length
    let s := s.inc OD.LABEL_SKIP g skip
    let s := s.stat g j fun p => { p with samples := smp.length, skip := skip }
    let s := s.updGrp g fun x => { x with sets := SMap.erase x.sets j, cutTo := j + 1, samples := smp }
    let s := (smp.zipIdx).foldl (fun s x => s.sendSample g x.2 x.1) s
    .next (if s.strict then s else s.recQueue (batchEntry g j (s.nextTick - 1) ls))

/-! ### Tables and generator (R237, R239) -/

/-- Integer square root by bits from `k` down. -/
def isqrt (n : Nat) : Nat → Nat → Nat
  | 0, r => r
  | k + 1, r => isqrt n k (if (r + 2 ^ k) * (r + 2 ^ k) ≤ n then r + 2 ^ k else r)

/-- 2^15 × √(a / b) to the nearest integer. -/
def rsEntry (a b : Nat) : Nat := (isqrt (2 ^ 32 * a / b) 17 0 + 1) / 2

/-- RS0 and RS1 (R237). -/
def rs0 (j : Nat) : Nat := rsEntry 128 (128 + j)
def rs1 (j : Nat) : Nat := rsEntry 64 (128 + j)

/-- The generator (R239). -/
def draw16 (seed j idx : Nat) : Nat :=
  let z := (seed + ((j % 2 ^ 40 * 2 ^ 24 + idx) + 1) * 0x9E3779B97F4A7C15) % 2 ^ 64
  let z := ((z ^^^ (z >>> 30)) * 0xBF58476D1CE4E5B9) % 2 ^ 64
  let z := ((z ^^^ (z >>> 27)) * 0x94D049BB133111EB) % 2 ^ 64
  let z := z ^^^ (z >>> 31)
  z >>> 48

/-! ### Moments and step (R236, R238) -/

/-- New moments of one block: (first, second), each scale and elements, and whether an encoding clamped (R236). -/
def moments (b1 b2 : Nat) (g : Nat × List Int) (m v : Nat × List Int) : (Nat × List Int) × (Nat × List Int) × Bool :=
  let k32 := List.range 32
  let x : Int := (max g.1 m.1 : Nat) - 149
  let m1 := k32.map fun k =>
    let gx := rnd (laneOf g.2 k) (x - ((g.1 : Int) - 133)) false
    let mx := rnd (laneOf m.2 k) (x - ((m.1 : Int) - 133)) false
    mx - rnd mx b1 false + rnd gx b1 false
  let (em, am, sm) := encodeBlock 4 m1 x (k32.map fun _ => false)
  let y : Int := max (2 * (g.1 : Int) - 266) ((v.1 : Int) - 134) - 16
  let v1 := k32.map fun k =>
    let gy := rnd (laneOf g.2 k * laneOf g.2 k) (y - (2 * (g.1 : Int) - 266)) false
    let vy := rnd (laneOf v.2 k) (y - ((v.1 : Int) - 134)) false
    vy - rnd vy b2 false + rnd gy b2 false
  let (ev, bv, sv) := encodeBlock 6 v1 y (k32.map fun _ => false)
  ((em, am), (ev, bv), (sm ++ sv).any id)

/-- floor(p × 2^z). -/
def shl (p z : Int) : Int := if 0 ≤ z then p * 2 ^ z.toNat else p / 2 ^ (-z).toNat

/-- What a weight's step needs besides its moments: settings in force of its group and layer. -/
structure StepCfg where
  lrM : Nat
  lrS : Nat
  epsE : Int
  wexp : Int
  envStep : Int
  envDrift : Int
  deriving DecidableEq, Repr

/-- One weight's step: new master, update saturation, envelope clamps (R238). -/
def stepWeight (c : StepCfg) (a1 : Int) (em1 : Nat) (bv : Int) (ev1 : Nat) (w base : Int) (r : Nat) : Int × Bool × Nat :=
  let (t, q) : Int × Int :=
    if bv = 0 then (128, c.epsE)
    else
      let ld := leadBit bv.toNat
      let q : Int := (ld : Int) + ev1 - 134
      if q < c.epsE then (128, c.epsE) else (bv * 2 ^ (7 - ld), q)
  let j := (t - 128).toNat
  let (rs, ex) : Nat × Int := if q % 2 = 0 then (rs0 j, -q / 2) else (rs1 j, -((q - 1) / 2))
  let p : Int := -((c.lrM : Int) * a1 * rs)
  let z : Int := (em1 : Int) - 133 + ex - 15 - c.lrS - c.wexp + 16
  let d0 := shl p z
  let d := clampTo (-2147483648) 2147483647 d0
  let dw := (d + r) / 65536
  let dc := clampTo (-c.envStep) c.envStep dw
  let w1 := w + dc
  let wc := clampTo (base - c.envDrift) (base + c.envDrift) w1
  (wc, decide (d ≠ d0) || decide (32767 < wc ∨ wc < -32768), b2n (decide (dc ≠ dw)) + b2n (decide (wc ≠ w1)))

/-! ### The update (R235, R240) -/

/-- Weights of a group. -/
def adaptWeights (c : AdaptCfg) : Nat := c.layers.foldl (fun n l => max n (l.first + l.count)) 0

/-- The layer of a weight. -/
def adaptLayerAt (c : AdaptCfg) (idx : Nat) : Option AdaptLayer :=
  c.layers.find? fun l => decide (l.first ≤ idx ∧ idx < l.first + l.count)

/-- An update in the making: masters, moments, update saturation and envelope clamps so far. -/
structure Update where
  masters : SMap Int
  m : SMap (Nat × List Int)
  v : SMap (Nat × List Int)
  sat : Bool := false
  clips : Nat := 0
  deriving DecidableEq, Repr

/-- One weight of a block stepped. -/
def State.updWeight (s : State) (g j blk : Nat) (m v : Nat × List Int) (u : Update) (k : Nat) : Update :=
  let c := s.adaptCfg g
  let idx := 32 * blk + k
  match adaptLayerAt c idx with
  | none => u
  | some l =>
    let base := c.base idx
    let cfg : StepCfg := { lrM := c.lrM, lrS := c.lrS, epsE := c.epsE, wexp := l.wexp, envStep := s.rd OD.ENV_STEP g,
                           envDrift := s.rd OD.ENV_DRIFT g }
    let (w1, sat, clips) := stepWeight cfg (laneOf m.2 k) m.1 (laneOf v.2 k) v.1 (SMap.get base u.masters idx) base
      (draw16 (s.rd OD.GRP_SEED g) j idx)
    { u with masters := SMap.put u.masters idx w1, sat := u.sat || sat || (derive8 w1 l.sh8).2, clips := u.clips + clips }

/-- One block of 32 weights updated (R236, R238). -/
def State.updBlock (s : State) (g j : Nat) (grads : List GradBlock) (u : Update) (blk : Nat) : Update :=
  let c := s.adaptCfg g
  let gr := ((grads.find? fun b => decide (b.block = blk)).map fun b => (b.scale, b.elems)).getD (0, [])
  let (m, v, sat) := moments c.b1 c.b2 gr (SMap.get (0, []) u.m blk) (SMap.get (0, []) u.v blk)
  let u := { u with m := SMap.put u.m blk m, v := SMap.put u.v blk v, sat := u.sat || sat }
  (List.range 32).foldl (s.updWeight g j blk m v) u

/-- The whole update of a period. -/
def State.computeUpdate (s : State) (g j : Nat) (grads : List GradBlock) : Update :=
  let x := s.grp g
  (List.range (ceilDiv (adaptWeights (s.adaptCfg g)) 32)).foldl (s.updBlock g j grads)
    { masters := x.masters, m := x.m, v := x.v }

/-- Every core that holds an adaptable pair of a group. -/
def State.groupCores (s : State) (g : Nat) : List Nat :=
  (s.fabric.cores.filter fun p => p.2.loaded && p.2.ctrl.adaptable && decide (p.2.ctrl.group = some g)).map Prod.fst

/-- The inactive banks of a group may be written: no swap before awaits its release (R241). -/
def State.banksFree (s : State) (g : Nat) : Bool := decide ((s.grp g).armed = none)

/-- The images of a computed update reach the inactive banks, and its swap is due (R241, R242). -/
def State.bankImages (s : State) (g j : Nat) : State :=
  (s.writeBanks g).updGrp g fun x => { x with unwritten := none, ready := some j }

/-- Deep slot L + 3 of a period runs, with L its last (R233). -/
def State.updateSlot (s : State) (g j : Nat) : Bool :=
  s.deep.active && decide (s.deep.startTick = s.periodTick g j 2)

/-- ADAPT_UPDATE: in its deep slot L + 3, the update of the period last cut (R233); `grads` are the gradient blocks that the group's
adaptation cores have computed and encoded, and `banksWritten` says that the writes end within the deep slot (R235 to R241). -/
def execAdaptUpdate (group : Fin 8) (grads : List GradBlock) (banksWritten : Bool) (s : State) : Answer :=
  let g := group.val
  let x := s.grp g
  let n := x.samples.length
  if x.cutTo = 0 ∨ n = 0 ∨ ¬ s.updateSlot g (x.cutTo - 1) then .next s
  else
    let j := x.cutTo - 1
    let s := s.updGrp g fun x => { x with samples := [] }
    if s.rd OD.ADAPT_ENABLE = 0 ∨ s.faults.safe then .next s
    else if grads.any GradBlock.v then .next (s.inc OD.ADAPT_DISCARD g)
    else
      let s := s.inc OD.LABELS_USED g n
      let u := s.computeUpdate g j grads
      let s := (s.inc OD.ENV_CLIPS g u.clips).stat g j fun p => { p with clips := u.clips }
      let s := if u.sat then s.noteCause g 1 else s
      let s := if grads.any GradBlock.s then s.noteCause g 2 else s
      let s := if s.rd OD.ENV_MODE g = 1 ∧ 0 < u.clips then s.noteCause g 3 else s
      if u.sat ∨ grads.any GradBlock.s ∨ (s.rd OD.ENV_MODE g = 1 ∧ 0 < u.clips) then .next s
      else
        let c := s.adaptCfg g
        let masters := if u.masters.all fun p => decide (p.2 = c.base p.1) then [] else u.masters
        let s := s.updGrp g fun x => { x with masters := masters, m := u.m, v := u.v, unwritten := some j }
        .next (if banksWritten && s.banksFree g then s.bankImages g j else s)

/-- A core's arm clears: the new bank is the one in use (R241, R242). -/
def Core.releaseBank (c : Core) : Core :=
  match c.arm with
  | none => c
  | some _ => { c with arm := none, bankB := !c.bankB, ftab := c.ftab.map fun f => { f with newBank := false } }

/-- Every body of a core for a frame before the swap has ended. -/
def Core.pastSwap (c : Core) : Bool := !c.running || (c.frameAt 0).newBank

/-- ADAPT_BANK_RELEASE: every core of the group has ended its bodies for frames before the previous swap; images that wait
are written (R241). -/
def execAdaptBankRelease (group : Fin 8) (s : State) : Answer :=
  let g := group.val
  let cs := s.groupCores g
  if (s.grp g).armed = none ∨ ¬ cs.all (fun p => (s.core p).pastSwap) then .next s
  else
    let s := cs.foldl (fun s p => s.updCore p Core.releaseBank) s
    let s := s.updGrp g fun x => { x with armed := none }
    match (s.grp g).unwritten with
    | some j => .next (s.bankImages g j)
    | none => .next s

/-- ADAPT_LATE: images not written by the end of their update deep slot make no swap (R241, R248). -/
def State.adaptLate (s : State) (g : Nat) : State :=
  match (s.grp g).unwritten with
  | none => s
  | some j =>
    if s.periodTick g j 3 ≤ s.nextTick then
      ((s.updGrp g fun x => { x with unwritten := none }).inc OD.ADAPT_LATE g).raisePkg 0x0502 g
    else s

/-! ### Swap and rollback (R242 to R246) -/

/-- Both CRC-64 of an update record: the INT8 images in layer and copy order, and the masters (R246). -/
def State.imageCrc (s : State) (g : Nat) : Nat :=
  (s.adaptCfg g).layers.foldl (fun c l => l.copies.foldl (fun c _ => crc64Run c (s.image8 g l)) c) 0
def State.masterCrc (s : State) (g : Nat) : Nat :=
  crc64 ((List.range (adaptWeights (s.adaptCfg g))).flatMap fun i => leBytes 2 (ofSigned 16 (s.master g i)))

/-- The update record of a swap (R246, R323). -/
def State.updateRecord (s : State) (g j tick code : Nat) : State :=
  let p := SMap.get {} (s.grp g).stats j
  let ic := s.imageCrc g
  let pay := leBytes 1 g ++ leBytes 5 j ++ leBytes 2 p.samples ++ leBytes 2 p.late ++ leBytes 2 p.skip ++
    leBytes 2 p.excess ++ leBytes 4 (min p.clips (2 ^ 32 - 1)) ++ leBytes 1 code ++ leBytes 8 ic ++ leBytes 8 (s.masterCrc g)
  (s.auditEvent { etype := 2, tick := tick, payload := pay }).wr OD.LAST_CRC g ic

/-- A state-reset event (R323): kind, core or quad, group. -/
def State.stateReset (s : State) (tick kind unit g : Nat) : State :=
  s.auditEvent { etype := 3, tick := tick, payload := leBytes 1 kind ++ leBytes 2 unit ++ leBytes 1 g }

/-- Every core of a group is armed with the swap tick (R242). -/
def State.armGroup (s : State) (g tick : Nat) : State :=
  let s := (s.groupCores g).foldl (fun s p => s.updCore p fun c => { c with arm := some (BitVec.ofNat 16 tick) }) s
  (s.updGrp g fun x => { x with armed := some tick }).inc OD.GRP_SWAPS g

/-- Period whose swap tick a tick is, if it lies on the grid of R233. -/
def State.swapPeriod (s : State) (g tick : Nat) : Option Nat :=
  let p := (s.adaptCfg g).period
  let d := tick - s.act.tr
  let slot := d / s.dslotTicks
  if d % s.dslotTicks = 0 ∧ p + 3 ≤ slot ∧ (slot - p - 3) % p = 0 then some ((slot - p - 3) / p) else none

/-- A rollback is applied at a tick (R244). -/
def State.rollbackAt (s : State) (g code tick : Nat) : State :=
  let s := (s.resetGroup g).writeBanks g
  let s := s.inc OD.ROLLBACK_COUNT g
  let s := s.wr OD.LAST_ROLLBACK g (code + tick % 2 ^ 48 * 2 ^ 8)
  (s.stateReset tick 3 0 g).raisePkg 0x0501 g

/-- The swap of a group at the next tick, with the rollback that waits for it (R242 to R246). -/
def State.swapGroup (s : State) (g : Nat) : State :=
  let t := s.nextTick
  let x := s.grp g
  let code := x.cause.getD 0
  let j := ((s.swapPeriod g t).orElse fun _ => x.ready).getD (s.periodOf g t)
  let s := if x.cause.isSome then s.rollbackAt g code t else s
  let s := s.updGrp g fun x => { x with ready := none, cause := none }
  let s := s.armGroup g t
  let s := s.updateRecord g j t code
  s.updGrp g fun x => { x with stats := SMap.erase x.stats j }

/-- A core of the group lies in a DEGRADED cluster, so that it makes no further swap (R481). -/
def State.groupStuck (s : State) (g : Nat) : Bool :=
  s.fabric.cores.any fun p => p.2.loaded && (p.2.ctrl.adaptable || p.2.ctrl.adaptCore) && decide (p.2.ctrl.group = some g) &&
    (s.cluster (pcidCluster p.1)).degraded

/-- ADAPT_SWAP: at a swap tick of the grid for an update or a rollback of a period, and at any tick boundary for the causes
that do not wait, once the banks are free (R242 to R245). A period whose swap tick comes while adaptation is suspended is not
swapped (R234). -/
def execAdaptSwap (group : Fin 8) (s : State) : Answer :=
  let g := group.val
  let x := s.grp g
  let grid := (s.swapPeriod g s.nextTick).isSome
  let now := decide (x.cause = some 6 ∨ x.cause = some 7)
  if s.faults.safe ∨ ¬ s.deepOn ∨ s.groupCount ≤ g ∨ s.groupStuck g then .next s
  else if grid ∧ s.rd OD.ADAPT_ENABLE = 0 ∧ x.cause = none then .next (s.updGrp g fun x => { x with ready := none })
  else if (grid && (x.ready.isSome || x.cause.isSome) || now) && s.banksFree g then .next (s.swapGroup g)
  else .next s

/-- ROLLBACK_CMD: cause 5 for the selected group (R243, R247). -/
def State.rollbackCmd (s : State) (g : Nat) : State := if g < s.groupCount then s.noteCause g 5 else s

def execRollbackCmd (s : State) : Answer :=
  if s.hostMay then .next ((s.noteWrites [(OD.ROLLBACK_CMD, s.rd OD.ADAPT_SEL, 1)]).rollbackCmd (s.rd OD.ADAPT_SEL)) else .next s

/-! ### Saturation reports and drift windows (R111, R112, R243) -/

/-- SAT_REPORT: counts a core has gathered for a layer reach the hub. -/
def execSatReport (core : Nat) (layer : Fin 1088) (count : Word32) (s : State) : Answer :=
  let n := min count.toNat (SMap.get 0 (s.core core).satPend layer)
  let s := s.updCore core fun c => { c with satPend := SMap.upd 0 c.satPend layer (· - n) }
  .next (s.layerSat layer n)

/-- Groups with an adapted layer whose count in the window exceeds the threshold are rolled back (R243). -/
def State.satRollback (s : State) : State :=
  (List.range s.groupCount).foldl (fun s g =>
    let thr := s.rd OD.SAT_ROLL_THRESH g
    if thr ≠ 0xFFFFFFFF ∧ (s.adaptCfg g).layers.any (fun l => decide (thr < s.rd OD.LAYER_SAT_WIN l.layer)) then
      s.noteCause g 4 else s) s

/-- Every count still held by a core reaches the window it belongs to (R111, log entry 27). -/
def State.flushSat (s : State) : State :=
  s.fabric.cores.foldl (fun s p =>
    if p.2.satPend = [] then s
    else
      let s := p.2.satPend.foldl (fun s q => s.layerSat q.1 q.2) s
      s.updCore p.1 fun c => { c with satPend := [] }) s

/-- A drift window ends and the next begins, once at a tick (R112). -/
def State.newDriftWindow (s : State) : State :=
  if s.act.driftAt = some s.nextTick then s
  else
    let s := s.flushSat.satRollback.clrAll OD.LAYER_SAT_WIN
    { s with act.driftWin := s.act.driftWin + 1, act.driftAt := some s.nextTick, act.satSeen := [], act.driftSeen := [] }

/-- SAT_WIN: the window in progress ends at the tick at which the write applies (R112). -/
def State.satWin (s : State) (v : Nat) : State := s.newDriftWindow.wr OD.SAT_WIN 0 v

/-- DRIFT_WINDOW_BOUNDARY: at a tick that is a multiple of SAT_WIN (R112). -/
def execDriftWindowBoundary (s : State) : Answer :=
  if s.nextTick % s.rd OD.SAT_WIN = 0 then .next s.newDriftWindow else .next s

/-- ADAPT_CNT_CLEAR for a group (R247). -/
def adaptCounters : List Entry :=
  [OD.LABELS_USED, OD.LABEL_LATE, OD.LABEL_SKIP, OD.LABEL_EXCESS, OD.ENV_CLIPS, OD.ADAPT_LATE, OD.ADAPT_DISCARD]

end Sys2Proof.Machine
end

