-- ==== Sys2Proof/Machine/DeepPath.lean ====
section
/-! DEFINITION. The deep path: deep slots with their work, skips and frequency steps (R199 to R203, R215 to R219, R452, R453,
R457), the history writer (R205 to R208), recall (R211 to R213), results and their delivery (R220 to R223). -/

namespace Sys2Proof.Machine

/-! ### Results (R220 to R222) -/

/-- Cycle of the boundary of a tick already begun, at the TICKDIV in force. -/
def State.cycleOf (s : State) (tick : Nat) : Nat := s.clock.bnd - (s.tickNo - tick) * s.tickdiv

/-- Lanes that carry deep records (R268). -/
def State.deepLanes (s : State) : List Nat :=
  (List.range 64).filter fun l => decide (s.rd OD.TX_KIND l = 2 ∨ s.rd OD.TX_KIND l = 4)

/-- The longest tick-to-release time seen (R224). -/
def State.deepLatency (s : State) (st tick : Nat) : State :=
  let lat := s.now - s.cycleOf tick
  if s.rd OD.DEEP_LAT_MAX st < lat then s.wr OD.DEEP_LAT_MAX st (min lat 0xFFFFFFFF) else s

/-- A record that is not void acts on the capture gate and the label gatherer (R221). -/
def State.deepActs (s : State) (st tick kind readout label : Nat) : State :=
  let s := s.gateVerdict st tick readout
  if label = 0xFF then s else s.labelEvent { tick := tick, stream := st, label := label, kind := kind }

/-- A record reaches its three destinations (R221): lanes that carry deep records, the capture gate and the label gatherer. -/
def State.deliverDeep (s : State) (w : BitVec 128) : State :=
  let n := w.toNat
  let st := bits n 48 6
  let tick := s.tickOf48 (bits n 0 48)
  let s := s.deepLatency st tick
  let s := { s with deep.lastResult := some w }
  let s := s.deepLanes.foldl (fun s l => s.queueDeep l w) s
  if bit n 56 then s else s.deepActs st tick (bits n 54 2) (bits n 96 2) (bits n 88 8)

/-- A record leaves at once, or is held for its STRICT release (R222). -/
def State.deepRecord (s : State) (w : BitVec 128) : State :=
  if s.strict then { s with deep.held := s.deep.held ++ [(s.strictDue, w)] } else s.deliverDeep w

/-- A cluster of a deep quad of the running image. -/
def State.deepCluster (s : State) (c : Nat) : Bool := s.deepCfg.quads.any fun e => decide (e.1 = quadOf c)

/-- A deep cluster under repair makes the deep results of a stream void: of every stream when the cluster is DEGRADED, else of
the streams the fenced core serves, until its stand-in has connected (R480, R481). -/
def State.deepRepair (s : State) (st : Nat) : Bool :=
  s.faults.repairs.any fun r => s.deepCluster (pcidCluster r.core) && decide (r.connect = none) && (r.degraded || bit r.mask st)

/-- A stream's deep results are built on recurrence state of a quad that has not processed 2^k ticks since its reset (R210). -/
def State.zOf (s : State) (st : Nat) : Bool :=
  s.fabric.cores.any fun p => p.2.loaded && p.2.ctrl.stateful && bit p.2.ctrl.streamMask st &&
    decide ((SMap.get {} s.deep.quads (quadOf (pcidCluster p.1))).zLeft ≠ 0)

/-- DEEP_RESULT: the item in service yields its record (R220). -/
def execDeepResult (payload : Word64) (sat hist reset repair programVoid : Bool) (s : State) : Answer :=
  match s.deep.serving with
  | none => .next s
  | some i =>
    let n := payload.toNat
    let z := reset || s.zOf i.stream
    let r : DeepRec :=
      if programVoid || s.deepRepair i.stream then { item := i, v := true, s := sat, h := hist, z := z, r := repair, dcause := 4 }
      else { item := i, s := sat, h := hist, z := z, r := repair, score := bits n 0 16, accept := bits n 16 8,
             label := bits n 24 8, readout := bits n 32 2 }
    let s := { s with deep.serving := none }
    .next (s.deepRecord r.bits)

/-- Order of STRICT release: ascending stream, then tick (R222). -/
def strictKey (w : BitVec 128) : Nat := bits w.toNat 48 6 * 2 ^ 48 + bits w.toNat 0 48

/-- DEEP_STRICT_RELEASE: the records of the earliest release time leave, one per cycle (R222). -/
def execDeepStrictRelease (s : State) : Answer :=
  match s.deep.held with
  | [] => .next s
  | h :: hs =>
    let due := hs.foldl (fun m x => min m x.1) h.1
    let ws := sortBy strictKey ((s.deep.held.filter fun x => decide (x.1 = due)).map Prod.snd)
    let s := { s with deep.held := s.deep.held.filter fun x => decide (x.1 ≠ due) }
    .next ((List.range ws.length).foldl (fun s k => (s.advanceTo (due + k)).deliverDeep (ws.getD k 0)) s)

/-! ### The history writer (R205 to R208, R215) -/

/-- Ascending tick, then stream (R217). -/
def Item.key (i : Item) : Nat := i.tick * 64 + i.stream

/-- A candidate waits one deep slot more (R220). -/
def Item.later (i : Item) : Item := { i with delay := i.delay + 1 }

/-- A candidate joins the spill queue; a full one makes its result void with DCAUSE 3 (R217). -/
def State.spillOne (s : State) (i : Item) : State :=
  if s.deep.spill.length < s.deepCfg.spillCap then
    { s with deep.spill := s.deep.spill ++ [i] }.inc OD.CAND_SPILL i.stream
  else ((s.inc OD.SPILL_VOID i.stream).raisePkg 0x0404 i.stream).deepRecord (voidDeep i 3)

/-- What a skip in normal mode removes: a void record says so (R220; log entry 148). -/
def State.skipVoid (s : State) (i : Item) : State :=
  (if i.kind = 0 then s.inc OD.CAND_DROP i.stream else s).deepRecord (voidDeep i 1)

/-- The deep slot in progress is skipped (R203, R218). -/
def State.slotSkipped (s : State) : Bool := s.deepCfg.quads.any fun e => (SMap.get {} s.deep.quads e.1).skipped

/-- A candidate of the slot before joins the STRICT work of the deep slot in progress at its place; what then exceeds the budget,
the last in order not yet started, spills (R217). -/
def State.joinStrict (s : State) (i : Item) : State :=
  let fresh (x : Item) : Bool := decide (x.kind = 0 ∧ x.delay = 0)
  let list := sortBy Item.key (i :: s.deep.work.filter fresh)
  let rest := s.deep.work.filter fun x => !fresh x
  if s.deep.allotted < s.deepCfg.candBudget then
    { s with deep.work := rest ++ list, deep.allotted := s.deep.allotted + 1 }
  else { s with deep.work := rest ++ list.dropLast }.spillOne ((list.getLastD i).later)

/-- A candidate drained after its deep slot has ended, in the slot that serves it (R215 to R218). -/
def State.lateCandidate (s : State) (i : Item) : State :=
  let s := { s with deep.prevCount := s.deep.prevCount + 1 }
  if s.slotSkipped then (if s.strict then s.spillOne i.later else s.skipVoid i)
  else if s.strict then s.joinStrict i
  else if s.tape.replaying then
    (if s.deep.served.contains (i.stream, i.tick) || s.deep.work.any (fun x => decide (x.stream = i.stream ∧ x.tick = i.tick ∧ x.kind = 0)) ||
        s.deep.serving.any (fun x => decide (x.stream = i.stream ∧ x.tick = i.tick ∧ x.kind = 0)) then s
     else s.inc OD.CAND_DROP i.stream)
  else { s with deep.work := s.deep.work ++ [i] }

/-- A candidate enters the list of the deep slot its tick falls in, or is lost; while an activation drains it is discarded (R182,
R215). -/
def State.markCandidate (s : State) (i : Item) : State :=
  let cur := s.slotOf s.deep.startTick
  if ¬ s.act.admitOn then s.inc OD.DEEP_DAMP_DISCARD 0
  else if s.slotOf i.tick = cur then
    if s.deep.candCount < s.deepCfg.candCap then
      { s with deep.cands := s.deep.cands ++ [i], deep.candCount := s.deep.candCount + 1 }
    else s.inc OD.CAND_LOST i.stream
  else if s.slotOf i.tick + 1 = cur ∧ s.deep.prevCount < s.deepCfg.candCap then s.lateCandidate i
  else s.inc OD.CAND_LOST i.stream

/-- Mean of element `j` of KEY over entries, rounded half to even, as a byte. -/
def keyMean (es : List Nat) (j : Nat) : Nat :=
  let n := es.length
  let t := es.foldl (fun a e => a + toSigned 8 (bits e (8 * j) 8)) 0
  let q := t / (n : Int)
  let r := t - q * n
  let q := if (n : Int) < 2 * r ∨ (2 * r = n ∧ q % 2 = 1) then q + 1 else q
  ofSigned 8 q

/-- Summary of the block whose last tick is `last`, its 64 bytes (R208). -/
def State.summaryOf (s : State) (st last : Nat) : List Byte :=
  let first := last - 1023
  let es := ((List.range 1024).map fun i => first + i).filter fun t =>
    s.present st t && !bit (s.histEntry st t) 392
  let es := es.map (s.histEntry st)
  let mean := if es = [] then 0 else (List.range 16).foldl (fun n j => n + keyMean es j * 2 ^ (8 * j)) 0
  let or (b : Nat) : Nat := b2n (es.any fun e => bit e b)
  leBytes 64 (mean + bits (s.histEntry st first) 400 48 * 2 ^ 128 + es.length * 2 ^ 176 + or 393 * 2 ^ 187 + or 394 * 2 ^ 188)

/-- Address of the summary of the block that holds a tick (R208). -/
def State.summaryAddr (s : State) (st tick : Nat) : Nat :=
  histBase + 8 * giB + st * 2 ^ 17 + tick % 2 ^ (s.rlog st).getD 0 / 1024 * 64

/-- The history writer stores an entry, and at a block's last entry the block's summary (R206 to R208). -/
def State.writeHistory (s : State) (st : Nat) (h : Handoff) : State :=
  match s.rlog st with
  | none => s
  | some _ =>
    let n := h.bits.toNat
    let e := n - bits n 400 48 * 2 ^ 400 + h.tick % 2 ^ 48 * 2 ^ 400
    let s := (s.hbmWrites (s.histAddr st h.tick) (leBytes 64 e)).inc OD.HIST_WRITTEN st
    let s := { s with deep.writtenTo := SMap.set 0 s.deep.writtenTo st (h.tick + 1) }
    if h.tick % 1024 = 1023 then s.hbmWrites (s.summaryAddr st h.tick) (s.summaryOf st h.tick) else s

/-- Words of a handoff entry, lowest first. -/
def Handoff.words (h : Handoff) : List Word64 := (List.range 8).map fun k => BitVec.ofNat 64 (Sys2Proof.bits h.bits.toNat (64 * k) 64)

/-- One drained entry goes to a recurrence layer: its eight words as a frame of data flits, or VOID (R209; log entry 149). -/
def State.feedOne (s : State) (r : RecurFeed) (h : Handoff) : State :=
  if h.bit 392 then s.hubSend 0 r.lane r.label true [ctlFlit s.epoch 5 h.tick 1]
  else s.hubSend 0 r.lane r.label false (h.words.map fun w => { payload := w, tag := mkTag s.epoch 0 h.tick (h.bit 393) })

/-- The entries held for a layer whose ticks lie before a tick go to it, oldest first; those of a slot its quad skips are never
applied (R209, R210). -/
def State.feedLayer (s : State) (before : Nat) (r : RecurFeed) : State :=
  if (SMap.get {} s.deep.quads r.quad).skipped then s
  else ((SMap.get [] s.deep.feed r.stream).filter fun h => decide (h.tick < before)).foldl (fun s h => s.feedOne r h) s

/-- Every recurrence layer; what has been fed, or never will be, is not held on. -/
def State.feedAll (s : State) (before : Nat) : State :=
  let s := s.deepCfg.feeds.foldl (fun s r => s.feedLayer before r) s
  { s with deep.feed := SMap.mapVals [] (fun _ l => l.filter fun h => decide (before ≤ h.tick)) s.deep.feed }

/-- A drained entry waits for the deep slot after the one its tick falls in, or goes to its layers at once when that slot already
runs (R209). -/
def State.feedDrained (s : State) (st : Nat) (h : Handoff) : State :=
  if s.deepOn && s.deepCfg.feeds.any (fun r => decide (r.stream = st)) then
    let s := { s with deep.feed := SMap.upd [] s.deep.feed st fun l => l ++ [h] }
    if s.deep.active then s.feedAll s.deep.startTick else s
  else s

/-- HANDOFF_DRAIN: the oldest entry of a stream's ring goes to the history writer, the candidate list and the recurrence stages
(R205). -/
def execHandoffDrain (stream : Fin 64) (s : State) : Answer :=
  let st := stream.val
  match s.ring st with
  | [] => .next s
  | h :: q =>
    let s := { s with deep.rings := SMap.set [] s.deep.rings st q }
    let s := (s.writeHistory st h).feedDrained st h
    if h.bit 395 && s.deepOn then
      .next (s.markCandidate { tick := h.tick, stream := st, kind := 0, score := toSigned 16 (bits h.bits.toNat 448 16) })
    else .next s

/-- VALID_FROM of every stream takes a tick (R207). -/
def State.validFrom (s : State) (tick : Nat) : State := streams.foldl (fun s st => s.wr OD.VALID_FROM st tick) s

/-- HIST_CLEAR: at its tick of application (R207). -/
def execHistClear (s : State) : Answer :=
  if s.hostMay then .next ((s.noteWrites [(OD.HIST_CLEAR, 0, 1)]).validFrom s.nextTick) else .next s

/-! ### Recall (R211 to R214) -/

/-- RECALL_REQUEST: three flits of a deep core (R211). -/
def execRecallRequest (core : Nat) (f0 q0 q1 : Word64) (s : State) : Answer :=
  let n := f0.toNat
  let q := (List.range 16).map fun j => toSigned 8 (bits (if j < 8 then q0 else q1).toNat (8 * (j % 8)) 8)
  let r : Recall := { core := core, stream := bits n 0 6, flat := bit n 6, k := bits n 7 5 + 1, n48 := bits n 16 48, q := q }
  if (s.core core).loaded then .next { s with deep.requests := s.deep.requests ++ [r] } else .next s

/-- Exact dot product of a query with 16 INT8 elements held in the low 128 bits of a number. -/
def dot16 (q : List Int) (e : Nat) : Int := sumTo 16 fun j => laneOf q j * toSigned 8 (bits e (8 * j) 8)

/-- Ticks of the recall range of a reference tick: lowest and highest (R212). -/
def State.recallRange (s : State) (st n : Nat) : Nat × Nat :=
  (n + s.deepCfg.guardTicks + 1 - 2 ^ (s.rlog st).getD 0, n)

/-- Score of a block from its summary; none when it is stale, empty or uncorrected (R208, R212). -/
def State.blockScore (s : State) (st : Nat) (q : List Int) (ue : List Nat) (b : Nat) : Option Int :=
  let a := s.summaryAddr st (1024 * b)
  let e := leNat (s.hbm.reads a 64)
  if ue.contains a ∨ bits e 128 48 ≠ 1024 * b % 2 ^ 48 ∨ bits e 176 11 = 0 then none else some (dot16 q e)

/-- The better of two scored things: the higher score, ties to the later (R212). -/
def better (x y : Int × Nat) : Bool := decide (x.1 > y.1 ∨ (x.1 = y.1 ∧ x.2 > y.2))

/-- Insertion in descending score, ties to the later. -/
def insertBest (x : Int × Nat) : List (Int × Nat) → List (Int × Nat)
  | [] => [x]
  | y :: ys => if better x y then x :: y :: ys else y :: insertBest x ys

/-- Blocks a request selects (R212). -/
def State.recallBlocks (s : State) (r : Recall) (n : Nat) (ue : List Nat) : List Nat :=
  let (lo, hi) := s.recallRange r.stream n
  let all := (List.range (hi / 1024 + 1 - lo / 1024)).map fun i => lo / 1024 + i
  if r.flat then all
  else
    let whole := all.filter fun b => decide (lo ≤ 1024 * b ∧ 1024 * b + 1023 ≤ hi ∧ b ≠ n / 1024)
    let scored := whole.filterMap fun b => (s.blockScore r.stream r.q ue b).map fun x => (x, b)
    (n / 1024) :: ((scored.foldl (fun l x => insertBest x l) []).take 7).map Prod.snd

/-- Every tick of the selected blocks in range. -/
def State.recallTicks (s : State) (r : Recall) (n : Nat) (ue : List Nat) : List Nat :=
  let (lo, hi) := s.recallRange r.stream n
  (s.recallBlocks r n ue).flatMap fun b => ((List.range 1024).map fun i => 1024 * b + i).filter fun t => decide (lo ≤ t ∧ t ≤ hi)

/-- One hit's header fields and value (R213). -/
def State.hitOf (s : State) (st n : Nat) (x : Int × Nat) : RecallHit :=
  let e := s.histEntry st x.2
  { score := x.1, age := n - x.2, vscale := bits e 384 8, flags := bits e 392 4, value := BitVec.ofNat 256 (bits e 128 256) }

/-- RECALL_START: the oldest request, once tick n is written (R212). `ueAddrs` are the addresses of entries and summaries
that return uncorrected, `ce` the number of reads that return corrected (R196). -/
def execRecallStart (ueAddrs : List Nat) (ce : Nat) (s : State) : Answer :=
  match s.deep.requests with
  | [] => .next s
  | r :: rest =>
    let st := r.stream
    let n := s.tickOf48 r.n48
    if SMap.get 0 s.deep.writtenTo st ≤ n then .next s
    else
      let ts := s.recallTicks r n ueAddrs
      let isBad (t : Nat) : Bool := ueAddrs.contains (s.histAddr st t) || !s.present st t
      let bad := ts.countP isBad
      let good := ts.filter fun t => !isBad t && !bit (s.histEntry st t) 392
      let hits := (good.map fun t => (dot16 r.q (s.histEntry st t), t)).foldl (fun l x => insertBest x l) []
      let res := (hits.take r.k).map (s.hitOf st n)
      let s := { s with deep.requests := rest, deep.results := s.deep.results ++ [(r, res, decide (0 < bad))] }
      let s := (s.inc OD.RECALL_CNT st).inc OD.HIST_STALE st bad
      let s := if ce = 0 then s else s.inc OD.HBM_CE 0 ce
      .next (ueAddrs.foldl (fun s _ => s.hbmUe) s)

/-- A header flit (R213). -/
def hitHeader (h : RecallHit) (stale : Bool) : Word64 :=
  BitVec.ofNat 64 (ofSigned 20 h.score + h.age % 2 ^ 21 * 2 ^ 20 + h.vscale % 256 * 2 ^ 41 + h.flags % 16 * 2 ^ 49 +
    b2n stale * 2 ^ 53)

/-- What fills the places of entries that do not qualify: V, and a zero value block of scale 0x00 (R213). -/
def noHit : RecallHit := { score := 0, age := 0, vscale := 0, flags := 1, value := 0 }

/-- The route of a core's recall answers: what the image declares, or lane 0 with labels 0 and 1 (log entry 68). -/
def State.recallRoute (s : State) (core : Nat) : RecallRoute :=
  let xy := s.logicalOf (pcidCluster core) ((s.positionOf core).getD 0)
  (s.deepCfg.routes.find? fun r => decide (xy = some (r.core % 256, r.core / 256))).getD
    { core := 0, lane := 0, label := 0, vlane := 0, vlabel := 1 }

/-- RECALL_RESPONSE: K header flits on the response route, then on the value route the VALUE blocks in rank order, numbered from 0,
with their scale flits (R101, R125, R213). -/
def execRecallResponse (s : State) : Answer :=
  match s.deep.results with
  | [] => .next s
  | (r, hits, stale) :: rest =>
    let hs := padTo noHit r.k hits
    let heads := hs.map fun h => hitHeader h stale
    let vals := hs.flatMap fun h => (List.range 4).map fun k => BitVec.ofNat 64 (bits h.value.toNat (64 * k) 64)
    let scales := (List.range (ceilDiv r.k 8)).map fun m =>
      BitVec.ofNat 64 ((List.range 8).foldl (fun n j => n + (hs.getD (8 * m + j) noHit).vscale % 256 * 2 ^ (8 * j)) 0)
    let flit (bt : Nat) (w : Word64) : Flit := { payload := w, tag := mkTag s.epoch bt r.n48 false }
    let route := s.recallRoute r.core
    let s := s.hubSend 0 route.lane route.label false (heads.map (flit 0))
    let s := s.hubSend 0 route.vlane route.vlabel false
      ((vals.zipIdx.map fun x => flit (x.2 / 4) x.1) ++ scales.zipIdx.map fun x => flit (8 * x.2) x.1)
    .next { s with deep.results := rest, deep.response := heads ++ vals ++ scales }

/-! ### Refresh (R200, R201) -/

/-- Cycle of the next refresh window: on the grid of the deep slot, or with no deep image on one of 1,024 cycles counted with the
Drone counter (R200). -/
def State.nextWindow (s : State) : Nat :=
  let from_ := if s.deep.lastWindow = 0 then s.now else max s.now (s.deep.lastWindow + 1)
  let sp := if s.deepOn then max 1 (s.rd OD.REF_SPACING) else 1024
  let origin : Int := if s.deepOn ∧ s.deep.active then s.deep.start else (s.clock.bnd : Int) - s.drone * s.tickdiv
  from_ + ((origin - from_) % sp).toNat

/-- REFRESH_WINDOW: at its place on the grid the stacks' temperatures are read; the refreshes of the window follow the time between
windows below 400 MHz, and are doubled above 85 °C (R193, R201). `corrected` and `reissued` count reads corrected elsewhere and
commands reissued since the last window (R195, R196). -/
def execRefreshWindow (t0 t1 : Byte) (corrected reissued : Nat) (s : State) : Answer :=
  let s := s.advanceTo s.nextWindow
  let hot := decide (85 < t0.toNat ∨ 85 < t1.toNat)
  let s := s.wr OD.HBM_TEMP 0 (t0.toNat + 256 * t1.toNat)
  let s := if corrected = 0 then s else s.inc OD.HBM_CE 0 corrected
  let s := if reissued = 0 then s else s.inc OD.HBM_REISSUE 0 reissued
  .next { s with deep.hot := hot, deep.lastWindow := s.now,
                 deep.refresh := ((if hot then 2 else 1) * 400, min 400 s.mhz) }

/-! ### Deep slots: quads (R202, R203, R210, R229, R453, R457) -/

/-- A quad holds adaptation cores of the running image. -/
def State.adaptQuad (s : State) (q : Nat) : Bool :=
  s.fabric.cores.any fun p => p.2.loaded && p.2.ctrl.adaptCore && decide (quadOf (pcidCluster p.1) = q)

/-- Throttle level that applies to a quad: level 1 at most where R229 protects it. -/
def State.quadLevel (s : State) (q : Nat) : Nat :=
  let l := s.rd OD.THROTTLE_LVL
  if s.adaptQuad q || (s.strict && s.deepCfg.labelQuads.contains q) then min l 1 else l

/-- The throttle skips deep slot `j` of a quad (R457). -/
def skips (level : Nat) (continuous : Bool) (j : Nat) : Bool :=
  let s := if continuous then (if 10 ≤ level then level - 9 else 0) else if 10 ≤ level then 8 else level - 1
  decide (j * s / 8 < (j + 1) * s / 8)

/-- A power domain holds clusters in use of both roles: it runs as a fast quad (R154). -/
def State.mixedDomain (s : State) (q : Nat) : Bool :=
  (List.range 256).any fun c => decide (quadOf c = q) && s.mixedQuad c

/-- The step the throttle level asks for: the lowest that R452 allows from level 1 on, else step 8; a mixed quad is never stepped
(R154). -/
def State.wantStep (s : State) (q fcyc : Nat) : Nat :=
  if s.quadLevel q = 0 ∨ s.mixedDomain q then 8
  else ([4, 5, 6, 7].find? fun n => decide (fcyc * 200 ≤ s.rd OD.DSLOT_CYC * n * 24)).getD 8

/-- Dies of the stretch group of a quad (R451). -/
def State.groupDies (s : State) (q : Nat) : List Nat :=
  (s.act.content.stretchGroups.find? fun g => g.contains (q / 16)).getD [q / 16]

/-- A die of a quad's stretch group has stretched in the 64 cycles before a cycle, or stretches now (R453). -/
def State.stretchedNear (s : State) (q cycle : Nat) : Bool :=
  (s.groupDies q).any fun d => (s.die d).stretch.isSome || (s.die d).lastEnd.any fun e => decide (cycle < e + 64)

def State.quad (s : State) (q : Nat) : QuadSt := SMap.get {} s.deep.quads q
def State.updQuad (s : State) (q : Nat) (f : QuadSt → QuadSt) : State :=
  { s with deep.quads := SMap.upd {} s.deep.quads q f }

/-- QUAD_FREQ_STEP: a change of step is made, deferred or, at the eighth deferral, abandoned (R453). -/
def State.quadFreq (s : State) (q fcyc : Nat) : State :=
  let x := s.quad q
  let w := s.wantStep q fcyc
  if w = x.step then s.updQuad q fun x => { x with want := w, defer := 0 }
  else
    let d := if x.want = w then x.defer else 0
    if d = 8 ∨ (x.step < w ∧ (s.die (q / 16)).frozen) then s
    else if s.stretchedNear q s.nextBoundary then
      let s := (s.updQuad q fun x => { x with want := w, defer := d + 1 }).inc OD.FREQ_DEFER 0
      if d + 1 = 8 then (s.inc OD.FREQ_ABANDON 0).raisePkg 0x0A06 q else s
    else s.updQuad q fun x => { x with step := w, want := w, defer := 0 }

/-- A recurrence layer's state is zeroed (R210). -/
def State.resetRecurrence (s : State) (q : Nat) : State :=
  let s := s.fabric.cores.foldl (fun s p =>
    if p.2.loaded && p.2.ctrl.stateful && decide (quadOf (pcidCluster p.1) = q) then s.updCore p.1 fun c => { c with act := [] }
    else s) s
  (s.updQuad q fun x => { x with resetDue := false, zLeft := s.dslotTicks }).stateReset s.nextTick 2 q 0xFF

/-- A quad's deep slot is skipped: by the throttle, or in a replay where the recording says so (R334, R457). -/
def State.skipsNow (s : State) (q : Nat) (cont : Bool) (j : Nat) : Bool :=
  if s.tape.replaying then
    (s.tapeAt 4 s.nextTick).any fun e => decide (e.payload.getD 0 0 = 8 ∧ (e.payload.getD 8 0).toNat = q)
  else skips (s.quadLevel q) cont j

/-- One quad at a deep-slot boundary: skipped or run, with its frequency step (R203, R210, R453, R457). -/
def State.quadSlot (s : State) (j : Nat) (e : Nat × Bool × Nat) : State :=
  let (q, cont, fcyc) := e
  let s := s.quadFreq q fcyc
  if s.skipsNow q cont j then
    let s := s.updQuad q fun x => { x with skipped := true, resetDue := x.resetDue || cont }
    let s := s.inc OD.DSLOT_SKIP 0
    s.auditEvent { etype := 8, tick := s.nextTick, payload := leBytes 1 q ++ leBytes 1 (b2n cont) }
  else
    let s := s.updQuad q fun x => { x with zLeft := if x.skipped then x.zLeft else x.zLeft - s.dslotTicks, skipped := false }
    let s := { s with power.gates := SMap.erase s.power.gates (8192 + q) }
    if (s.quad q).resetDue then s.resetRecurrence q else s

/-! ### Deep slots: work (R215 to R219) -/

/-- Order in which normal mode serves work: periodic runs (KIND 1) first, then candidates by descending score, then earlier tick,
then lower stream (R216). -/
def normalBefore (x y : Item) : Bool :=
  decide (y.kind < x.kind) ||
    (decide (x.kind = y.kind) && (decide (y.score < x.score) ||
      (decide (x.score = y.score) && decide (x.tick * 64 + x.stream < y.tick * 64 + y.stream))))

/-- The item normal mode serves next. -/
def pickNormal : List Item → Option Item
  | [] => none
  | x :: xs => match pickNormal xs with
    | none => some x
    | some y => if normalBefore y x then some y else some x

/-- Work left over when a deep slot ends: in STRICT void with DCAUSE 2; in normal mode candidates not started are dropped, and a
periodic run or an item still in service, whose record may leave only within its slot, is void with DCAUSE 2 as well (R216, R219,
R220, R222; log entry 148). -/
def State.settleSlot (s : State) : State :=
  let d := s.deep
  let s := { s with deep.serving := none, deep.work := [] }
  if s.strict then
    let left := d.serving.toList ++ d.work
    if left = [] then s
    else
      let s := left.foldl (fun s i => s.deepRecord (voidDeep i 2)) s
      (s.inc OD.DEEP_OVERRUN_CNT 0).raisePkg 0x0403
  else
    let left := d.serving.toList ++ d.work.filter fun i => decide (i.kind ≠ 0)
    let s := left.foldl (fun s i => s.deepRecord (voidDeep i 2)) s
    (d.work.filter fun i => decide (i.kind = 0)).foldl (fun s i => s.inc OD.CAND_DROP i.stream) s

/-- The recording entry of the candidates served in a slot of normal mode (R330). -/
def State.recordServed (s : State) : State :=
  let l := s.deep.served
  let s := { s with deep.served := [] }
  if s.strict ∨ l = [] then s
  else s.recQueue { rtype := 6, tick := s.nextTick - 1, payload := l.flatMap fun p => leBytes 8 (p.1 + p.2 % 2 ^ 48 * 2 ^ 16) }

/-- Periodic runs due in deep slot `j` (R215). -/
def State.periodics (s : State) (j : Nat) : List Item :=
  if 0 < j ∧ j % max 1 s.deepCfg.periodSlots = 0 then
    s.deepCfg.periodicSet.map fun st => { tick := s.nextTick - 1, stream := st, kind := 1, slot := j }
  else []

/-- Candidates that the recording's DEEP_SERVE entry of a deep slot names, by its last tick: (stream, tick) (R330, R334). -/
def State.servedList (s : State) (last : Nat) : List (Nat × Nat) :=
  (s.tapeAt 6 last).flatMap fun e => (List.range (e.payload.length / 8)).map fun i =>
    let w := leNat ((e.payload.drop (8 * i)).take 8)
    (bits w 0 6, s.tickOf48 (bits w 16 48))

/-- Work of the deep slot that begins, where it is not skipped (R216, R217); a replay in normal mode serves exactly what the
recording names (R334). -/
def State.slotWork (s : State) (j : Nat) : State :=
  let cands := s.deep.cands
  let per := s.periodics j
  let s := { s with deep.cands := [], deep.prevCount := s.deep.candCount, deep.candCount := 0, deep.allotted := 0 }
  if s.strict then
    let waiting := s.deep.spill
    let fresh := sortBy Item.key cands
    let n := s.deepCfg.candBudget
    let now := (waiting ++ fresh).take n
    let s := { s with deep.work := per ++ now, deep.allotted := now.length, deep.spill := (waiting.drop n).map Item.later }
    (fresh.drop (n - waiting.length)).foldl (fun s i => s.spillOne i.later) s
  else if s.tape.replaying then
    let served := s.servedList (s.nextTick + s.dslotTicks - 1)
    let item (p : Nat × Nat) : Item := (cands.find? fun i => decide (i.stream = p.1 ∧ i.tick = p.2)).getD
      { tick := p.2, stream := p.1, kind := 0 }
    let s := { s with deep.work := per ++ served.map item }
    (cands.filter fun i => !(served.contains (i.stream, i.tick))).foldl (fun s i => s.inc OD.CAND_DROP i.stream) s
  else { s with deep.work := per ++ cands }

/-- A skipped deep slot `j` serves nothing: in normal mode its candidates are dropped and its periodic runs not run, each with a void
record of DCAUSE 1; in STRICT its candidates are spilled (R218, R220). -/
def State.skipWork (s : State) (j : Nat) : State :=
  let cands := s.deep.cands
  let per := s.periodics j
  let s := { s with deep.cands := [], deep.prevCount := s.deep.candCount, deep.candCount := 0, deep.allotted := 0, deep.work := [],
                    deep.spill := s.deep.spill.map Item.later }
  if s.strict then (sortBy Item.key cands).foldl (fun s i => s.spillOne i.later) s
  else (per ++ cands).foldl State.skipVoid s

/-- Load hints of the image for the deep slot after this one; the first deep slot announces its own as well (R449). -/
def State.slotHints (s : State) (j : Nat) : State :=
  let d := s.nextDrone
  let at_ (base : Nat) : List (Nat × Nat) := s.deepCfg.hints.map fun h => (h.2, base + h.1)
  { s with power.hints := s.power.hints ++ (if j = 0 then at_ d else []) ++ at_ (d + s.dslotTicks) }

/-- What the end of a deep slot settles (R216, R219, R241, R330). -/
def State.endSlot (s : State) : State :=
  ((List.range s.groupCount).foldl (fun s g => s.adaptLate g) s).settleSlot.recordServed

/-- A deep slot begins at the next tick boundary (R199). -/
def State.beginSlot (s : State) : State :=
  let t := s.nextTick
  let j := s.slotOf t
  let s := s.endSlot.slotHints j
  let s := { s with deep.ovrSeen := [] }
  let s := s.deepCfg.quads.foldl (fun s e => s.quadSlot j e) s
  let s := { s with deep.start := s.nextBoundary, deep.startTick := t, deep.active := true }
  let s := (s.inc OD.DSLOT_COUNT 0).feedAll t
  let s := if s.slotSkipped then s.skipWork j else s.slotWork j
  (List.range s.groupCount).foldl (fun s g => s.wr OD.GRP_PERIOD g (j / max 1 (s.adaptCfg g).period)) s

/-- The next tick boundary is one of the deep-slot grid at which nothing has begun yet (R199). -/
def State.slotDue (s : State) : Bool :=
  let t := s.nextTick
  s.deepOn && decide (s.act.tr ≤ t ∧ (t - s.act.tr) % s.dslotTicks = 0) && !(s.deep.active && decide (s.deep.startTick = t))

/-- DEEP_SLOT_BOUNDARY: at a tick boundary whose count from T_r is a multiple of 2^k (R199); while admission is stopped the slot in
progress ends and no other begins (R182). -/
def execDeepSlotBoundary (s : State) : Answer :=
  if ¬ s.slotDue ∨ s.faults.safe then .next s
  else if s.act.admitOn then .next s.beginSlot
  else if s.deep.active then .next { s.endSlot with deep.active := false }
  else .next s

/-- The item the schedule starts next: in normal mode by R216, a candidate only while CAND_CYC cycles of the slot remain;
in STRICT in the order of R217. -/
def State.nextItem (s : State) : Option Item :=
  if s.strict then s.deep.work.head?
  else match pickNormal s.deep.work with
    | none => none
    | some i =>
      if i.kind = 1 ∨ s.tape.replaying ∨ s.now + s.deepCfg.candCyc ≤ s.deep.start + s.rd OD.DSLOT_CYC then some i else none

/-- DEEP_ITEM_START (R216, R217). -/
def execDeepItemStart (s : State) : Answer :=
  if s.deep.serving.isSome then .next s
  else match s.nextItem with
    | none => .next s
    | some i =>
      .next { s with deep.serving := some i, deep.work := s.deep.work.erase i,
                     deep.served := if i.kind = 0 then s.deep.served ++ [(i.stream, i.tick)] else s.deep.served }

end Sys2Proof.Machine
end

