-- ==== Sys2Proof/Machine/Images.lean ====
section
/-! DEFINITION. Program images and slots: what the loader reads (R160 to R166), the digests (R168), slot states and commands
(R169 to R173), the loader's checks (R174) and the BAR2 window (R398). -/

namespace Sys2Proof

/-- A section-table entry (R163). -/
structure Sect where
  typ : Nat
  flags : Nat
  target : Nat
  ofs : Nat
  size : Nat
  rsv : Nat
  deriving DecidableEq, Repr

/-- The section is in the weight digest (R163). -/
def Sect.weight (c : Sect) : Bool := bit c.flags 0

end Sys2Proof

namespace Sys2Proof.Machine

/-! ### What the loader reads (R160 to R166) -/

/-- An entry of slot A or of slot B. -/
def slotEnt (slot : Nat) (a b : Entry) : Entry := if slot = 0 then a else b

/-- Slot entries by slot (R191). -/
def odState (slot : Nat) : Entry := slotEnt slot OD.A_STATE OD.B_STATE
def odSeq (slot : Nat) : Entry := slotEnt slot OD.A_SEQ OD.B_SEQ
def odSize (slot : Nat) : Entry := slotEnt slot OD.A_SIZE OD.B_SIZE
def odProg (slot : Nat) : Entry := slotEnt slot OD.A_PROG_DIGEST OD.B_PROG_DIGEST
def odWeight (slot : Nat) : Entry := slotEnt slot OD.A_WEIGHT_DIGEST OD.B_WEIGHT_DIGEST
def odCode (slot : Nat) : Entry := slotEnt slot OD.A_REFUSE_CODE OD.B_REFUSE_CODE
def odDetail (slot : Nat) : Entry := slotEnt slot OD.A_REFUSE_DETAIL OD.B_REFUSE_DETAIL
def odDecl (slot : Nat) : Entry := slotEnt slot OD.A_DECL OD.B_DECL
def odLoadCyc (slot : Nat) : Entry := slotEnt slot OD.A_LOAD_CYC OD.B_LOAD_CYC

/-- Bytes of a slot's image, and a little-endian field of it (R160). -/
def State.imgBytes (s : State) (slot ofs n : Nat) : List Byte := s.hbm.reads (slotBase slot + ofs) n
def State.img (s : State) (slot ofs n : Nat) : Nat := leNat (s.imgBytes slot ofs n)

/-- Header fields that several checks read (R161). -/
def State.imgSize (s : State) (slot : Nat) : Nat := s.img slot 8 8
def State.imgGrade (s : State) (slot : Nat) : Nat := s.img slot 16 1
def State.imgPortable (s : State) (slot : Nat) : Bool := bit (s.img slot 17 1) 0
def State.imgFeatures (s : State) (slot : Nat) : Nat := s.img slot 20 4
def State.imgTickMin (s : State) (slot : Nat) : Nat := s.img slot 24 4
def State.imgP (s : State) (slot : Nat) : Nat := s.img slot 28 2
def State.imgPlace (s : State) (slot : Nat) : Nat := s.img slot 40 32
def State.imgRole (s : State) (slot : Nat) : Nat := s.img slot 72 32

/-- A section-table entry (R163). -/
def State.sect (s : State) (slot k : Nat) : Sect :=
  let a := s.img slot 108 4 + 32 * k
  { typ := s.img slot a 2, flags := s.img slot (a + 2) 2, target := s.img slot (a + 4) 4, ofs := s.img slot (a + 8) 8,
    size := s.img slot (a + 16) 8, rsv := s.img slot (a + 24) 8 }

/-- The section table. -/
def State.sects (s : State) (slot : Nat) : List Sect := (List.range (s.img slot 106 2)).map (s.sect slot)

/-- A relocation record (R165): section, kind, width, offset, addend. -/
structure Reloc where
  sec : Nat
  kind : Nat
  width : Nat
  ofs : Nat
  addend : Nat
  deriving DecidableEq, Repr

def State.relocs (s : State) (slot : Nat) : List Reloc :=
  (List.range (s.img slot 112 4)).map fun k =>
    let a := s.img slot 116 4 + 16 * k
    { sec := s.img slot a 2, kind := s.img slot (a + 2) 1, width := s.img slot (a + 3) 1, ofs := s.img slot (a + 4) 4,
      addend := s.img slot (a + 8) 8 }

/-- A patch record (R166): section, kind, bit position, offset. -/
structure Patch where
  sec : Nat
  kind : Nat
  bitpos : Nat
  ofs : Nat
  deriving DecidableEq, Repr

def State.patchRecs (s : State) (slot : Nat) : List Patch :=
  (List.range (s.img slot 120 4)).map fun k =>
    let a := s.img slot 124 4 + 8 * k
    { sec := s.img slot a 2, kind := s.img slot (a + 2) 1, bitpos := s.img slot (a + 3) 1, ofs := s.img slot (a + 4) 4 }

/-! ### FORMAT (R160 to R166) -/

/-- Header fields with a fixed value or range. -/
def State.headerOk (s : State) (slot size : Nat) : Bool :=
  decide (s.img slot 0 4 = 0x49584241 ∧ s.img slot 4 2 = 1 ∧ s.img slot 6 2 = 512) &&
  decide (s.imgSize slot = size ∧ 512 ≤ size ∧ size ≤ giB) &&
  decide (s.img slot 17 1 < 4 ∧ s.imgFeatures slot < 8 ∧ s.img slot 204 308 = 0 ∧ s.img slot 104 2 ≤ 1024) &&
  decide (4 ≤ s.imgTickMin slot ∧ s.imgTickMin slot ≤ 65536)

/-- Target field of a section type (R163, R164): no reserved bit is set. -/
def targetOk (typ t : Nat) : Bool :=
  if typ ≤ 6 then decide (bits t 6 2 = 0 ∧ t < 2 ^ 14)
  else if typ ≤ 10 then decide (t < 256)
  else if typ = 0x0C ∨ typ = 0x0D then decide (t < 4)
  else decide (t = 0xFFFFFFFF)

/-- Weight flag of a section type (R164). -/
def weightFlagOk (typ : Nat) (w : Bool) : Bool :=
  if typ = 6 then w else if typ = 9 ∨ typ = 0x12 then true else !w

/-- Sizes of the sections whose layout the spec gives: 256 microwords of 64 bits, 64 entries of 128 bits, 256 points of 16 bits,
a weight SRAM or one adaptable pair, 64 deck entries of 64 bits (R76, R82, R87, R105, R137, R164). -/
def sectSizeOk (c : Sect) : Bool :=
  if c.typ = 1 then decide (c.size = 2048) else if c.typ = 4 then decide (c.size = 1024)
  else if c.typ = 5 ∨ c.typ = 8 then decide (c.size = 512)
  else if c.typ = 6 then decide (c.size = 32768 ∨ c.size = 16384) else true

/-- A section's table entry is well formed; one of a reserved type is skipped unless it must be understood (R163, R164). -/
def sectOk (c : Sect) : Bool :=
  decide (bits c.flags 2 13 = 0 ∧ c.rsv = 0) &&
  (if 1 ≤ c.typ ∧ c.typ ≤ 0x13 then targetOk c.typ c.target && weightFlagOk c.typ c.weight && sectSizeOk c
   else !bit c.flags 15)

/-- Pieces of the image as (offset, size): header, section table, sections, relocations, patches (R160). -/
def State.pieces (s : State) (slot : Nat) : List (Nat × Nat) :=
  [(0, 512), (s.img slot 108 4, 32 * s.img slot 106 2), (s.img slot 116 4, 16 * s.img slot 112 4),
   (s.img slot 124 4, 8 * s.img slot 120 4)] ++ (s.sects slot).map fun c => (c.ofs, c.size)

/-- Two pieces share no byte. -/
def apart (a b : Nat × Nat) : Bool := decide (a.2 = 0 ∨ b.2 = 0 ∨ a.1 + a.2 ≤ b.1 ∨ b.1 + b.2 ≤ a.1)

/-- No two pieces overlap. -/
def allApart : List (Nat × Nat) → Bool
  | [] => true
  | p :: ps => ps.all (apart p) && allApart ps

/-- Bounds, alignment and overlap (R160). -/
def State.boundsOk (s : State) (slot : Nat) : Bool :=
  (s.pieces slot).all (fun p => decide (p.1 % 64 = 0 ∧ p.1 + p.2 ≤ s.imgSize slot)) && allApart (s.pieces slot)

/-- A relocation record is well formed (R165). -/
def State.relocOk (s : State) (slot : Nat) (r : Reloc) : Bool :=
  decide (r.sec < s.img slot 106 2 ∧ 1 ≤ r.kind ∧ r.kind ≤ 5 ∧ (r.width = 4 ∨ r.width = 8)) &&
    decide (r.ofs + r.width ≤ (s.sect slot r.sec).size)

/-- Relocation records are well formed (R165). -/
def State.relocsOk (s : State) (slot : Nat) : Bool := (s.relocs slot).all (s.relocOk slot)

/-- Bytes of a section as the slot holds them. -/
def State.sectData (s : State) (slot k : Nat) : List Byte :=
  let c := s.sect slot k
  s.imgBytes slot c.ofs c.size

/-- A deck or gateway or requantiser section sets no reserved bit or code (R105, R133, R137). -/
def contentOk (typ : Nat) (bs : List Byte) : Bool :=
  if typ = 4 then (reqOf bs).all fun r => reqReserved r.2
  else if typ = 8 then (deckOf bs).all fun e => decide (bits e.2 0 2 ≠ 3 ∧ bits e.2 51 4 ≤ 8 ∧ bits e.2 10 4 < 12 ∧ bit e.2 63 = false)
  else true

/-- The table entries of the section table that are not well formed. -/
def State.badSects (s : State) (slot : Nat) : List Nat :=
  (List.range (s.img slot 106 2)).filter fun k =>
    !(sectOk (s.sect slot k) && contentOk (s.sect slot k).typ (s.sectData slot k))

/-- Check 1, FORMAT, with what the sections decode to. -/
def State.formatOk (s : State) (slot size : Nat) (c : ImageContent) : Bool :=
  s.headerOk slot size && s.boundsOk slot && decide (s.badSects slot = []) && s.relocsOk slot && c.decodes &&
    c.clusters.all ClusterImage.tablesOk

/-! ### Relocations and patches applied (R165 to R167) -/

/-- Base and size of a relocation region (R165, R197), under the sizes a reader gives. -/
def regionOf (rd : Rd) (kind slot : Nat) : Nat × Nat :=
  let capt := rd OD.CAPT_GIB 0 * giB
  let rep := rd OD.REPLAY_GIB 0 * giB
  if kind = 1 then (slotBase slot, giB)
  else if kind = 2 then (histBase, 9 * giB)
  else if kind = 3 then (captBase + capt + rep, rd OD.SCRATCH_GIB 0 * giB)
  else if kind = 4 then (captBase, capt)
  else (captBase + capt, rep)

/-- Bytes replaced from an offset on. -/
def overlay (bs : List Byte) (ofs : Nat) (new : List Byte) : List Byte :=
  bs.take ofs ++ new ++ bs.drop (ofs + new.length)

/-- A field of a number replaced. -/
def setField (w pos len v : Nat) : Nat := w - bits w pos len * 2 ^ pos + v % 2 ^ len * 2 ^ pos

/-- A portable image is moved on the larger grade (R157). -/
def State.moved (s : State) (slot : Nat) : Bool := s.imgPortable slot && decide (s.grade = 1)

/-- Logical row of the device for a row of the image (R157). -/
def State.rowOf (s : State) (slot Y : Nat) : Nat := if s.moved slot ∧ 7 ≤ Y then Y + 2 else Y

/-- Logical core row likewise. -/
def State.coreRow (s : State) (slot y : Nat) : Nat := if s.moved slot ∧ 28 ≤ y then y + 8 else y

/-- A relocation record applied to its section's bytes: region base plus ADDEND. -/
def State.relocate (s : State) (slot : Nat) (bs : List Byte) (r : Reloc) : List Byte :=
  overlay bs r.ofs (leBytes r.width ((regionOf s.inForceRd r.kind slot).1 + r.addend))

/-- A patch record applied: a logical core becomes its PCID, a logical cluster its physical one (R151, R166). -/
def State.patch (s : State) (slot : Nat) (bs : List Byte) (p : Patch) : List Byte :=
  let w := leNat ((bs.drop p.ofs).take 8)
  let v : Option (Nat × Nat) :=
    if p.kind = 1 then
      let c := bits w p.bitpos 16
      (s.pcidOf (bits c 0 6) (s.coreRow slot (bits c 8 6))).map fun q => (16, q)
    else
      let c := bits w p.bitpos 8
      (s.clusterAt (c % 16) (s.rowOf slot (c / 16))).map fun q => (8, q)
  match v with
  | some x => overlay bs p.ofs (leBytes 8 (setField w p.bitpos x.1 x.2))
  | none => bs

/-- A section's bytes on their way into the fabric and hub blocks (R167). -/
def State.loadedData (s : State) (slot k : Nat) : List Byte :=
  let bs := ((s.relocs slot).filter fun r => decide (r.sec = k)).foldl (s.relocate slot) (s.sectData slot k)
  ((s.patchRecs slot).filter fun p => decide (p.sec = k)).foldl (s.patch slot) bs

/-- Sections that relocations or patches change, with the bytes as loaded. -/
def State.hubTables (s : State) (slot : Nat) : SMap (List Byte) :=
  let ks := (List.range (s.img slot 106 2)).filter fun k =>
    (s.relocs slot).any (fun r => decide (r.sec = k)) || (s.patchRecs slot).any fun p => decide (p.sec = k)
  SMap.ofList [] (ks.map fun k => (k, s.loadedData slot k))

/-! ### The content of an image (R164) -/

/-- The sections of a type that name a target, by index. -/
def State.sectsOf (s : State) (slot typ target : Nat) : List Nat :=
  (List.range (s.img slot 106 2)).filter fun k => decide ((s.sect slot k).typ = typ ∧ (s.sect slot k).target = target)

/-- Targets of a range of section types. -/
def State.targets (s : State) (slot lo hi : Nat) : List Nat :=
  (((s.sects slot).filter fun c => decide (lo ≤ c.typ ∧ c.typ ≤ hi)).map Sect.target).eraseDups

/-- A part of an image read from the section of its type, by a reader of section bytes; a default where there is none. -/
def readPart {α : Type} (bytes : Nat → List Byte) (ks : List Nat) (d : α) (f : List Byte → α) : α :=
  match ks with
  | [] => d
  | k :: _ => f (bytes k)

/-- What an image loads into one logical core: each part from its own section. -/
def State.coreImage (s : State) (slot : Nat) (bytes : Nat → List Byte) (c : ImageContent) (t : Nat) : CoreImage :=
  let base := (c.cores.find? fun i => decide (i.x = bits t 0 6 ∧ i.y = bits t 8 6)).getD { x := bits t 0 6, y := bits t 8 6 }
  let of (typ : Nat) : List Nat := s.sectsOf slot typ t
  { x := bits t 0 6, y := bits t 8 6,
    ctrl := if of 2 = [] then {} else base.ctrl,
    routes := if of 3 = [] then [] else base.routes,
    templates := if of 3 = [] then [] else base.templates,
    program := decide (of 1 ≠ []),
    micro := readPart bytes (of 1) [] microOf,
    req := readPart bytes (of 4) [] reqOf,
    lut := readPart bytes (of 5) [] lutOf,
    weights := readPart bytes (of 6) [] weightsOf }

/-- What an image loads into one logical cluster. -/
def State.clusterImage (s : State) (slot : Nat) (bytes : Nat → List Byte) (c : ImageContent) (t : Nat) : ClusterImage :=
  let base := (c.clusters.find? fun i => decide (i.num = t)).getD { num := t }
  let of (typ : Nat) : List Nat := s.sectsOf slot typ t
  { num := t,
    outbound := if of 7 = [] then [] else base.outbound,
    inbound := if of 7 = [] then [] else base.inbound,
    deck := readPart bytes (of 8) [] deckOf,
    mem := if of 9 = [] then [] else base.mem,
    truss := if of 10 = [] then [] else base.truss }

/-- An image has a section of a type. -/
def State.hasSect (s : State) (slot typ : Nat) : Bool := (s.sects slot).any fun c => decide (c.typ = typ)

/-- A baseline counts only from a CLUSTER_MEM section with SFLAGS[0] and SFLAGS[1] (R227). -/
def State.baselineFrom (s : State) (slot : Nat) (a : AdaptCfg) : AdaptCfg :=
  let c := s.sect slot a.baselineIn
  if a.baselineIn < s.img slot 106 2 ∧ c.typ = 9 ∧ bits c.flags 0 2 = 3 then a else { a with baseline := [] }

/-- The whole content of a slot's image, each part from the sections that carry it (R164). -/
def State.imageOfSlot (s : State) (slot : Nat) (bytes : Nat → List Byte) (c : ImageContent) : ImageContent :=
  { c with
    cores := (s.targets slot 1 6).map (s.coreImage slot bytes c),
    clusters := (s.targets slot 7 10).map (s.clusterImage slot bytes c),
    inject := if s.hasSect slot 0x0C then c.inject else [],
    iq := if s.hasSect slot 0x0C then c.iq else [],
    decides := if s.hasSect slot 0x0D then c.decides else [],
    reserved := if s.hasSect slot 0x0B then c.reserved else [],
    relays := if s.hasSect slot 0x0B then c.relays else [],
    deep := if s.hasSect slot 0x0E then c.deep else {},
    adapt := if s.hasSect slot 0x0F then c.adapt.map (s.baselineFrom slot) else [],
    reductions := if s.hasSect slot 0x10 then c.reductions else [],
    schedule := if s.hasSect slot 0x11 then c.schedule else [],
    hbmInit := if s.hasSect slot 0x12 then c.hbmInit else [] }

/-- The image of a slot as its checks see it, unpatched, in the image's own coordinates. -/
def State.slotImage (s : State) (slot : Nat) : ImageContent :=
  s.imageOfSlot slot (s.sectData slot) (SMap.get {} s.act.images slot)

/-! ### Digests (R168) -/

/-- Bytes of the sections whose SFLAGS[0] has a value, in table order. -/
def State.sectBytes (s : State) (slot : Nat) (w : Bool) : List Byte :=
  (s.sects slot).flatMap fun c => if c.weight = w then s.imgBytes slot c.ofs c.size else []

/-- The program digest. -/
def State.progDigest (s : State) (slot : Nat) : Nat :=
  leNat (sha256 (s.imgBytes slot 0 140 ++ List.replicate 64 0 ++ s.imgBytes slot 204 308 ++
    s.imgBytes slot (s.img slot 108 4) (32 * s.img slot 106 2) ++ s.sectBytes slot false ++
    s.imgBytes slot (s.img slot 116 4) (16 * s.img slot 112 4) ++ s.imgBytes slot (s.img slot 124 4) (8 * s.img slot 120 4)))

/-- The weight digest. -/
def State.weightDigest (s : State) (slot : Nat) : Nat := leNat (sha256 (s.sectBytes slot true))

/-- Check 2, DIGEST. -/
def State.digestOk (s : State) (slot : Nat) : Bool :=
  let e := SMap.get (0, 0) s.act.expect slot
  decide (s.progDigest slot = s.img slot 140 32 ∧ s.weightDigest slot = s.img slot 172 32) &&
  decide (e.1 = 0 ∨ e.1 = s.progDigest slot) && decide (e.2 = 0 ∨ e.2 = s.weightDigest slot)

/-! ### GRADE, LICENCE, PLACEMENT, LATENCY (R6, R43, R45, R153, R154, R157) -/

/-- Check 3, GRADE. -/
def State.gradeOk (s : State) (slot : Nat) : Bool :=
  if s.imgPortable slot then decide (s.imgGrade slot = 2) else decide (s.imgGrade slot = s.grade)

/-- Licence features that the image's FEATURES and MAC4 use need (R6, R161, R416). -/
def neededFeatures (features : Nat) (mac4 : Bool) : Nat :=
  features % 4 + 8 * b2n (bit features 2 || mac4)

/-- Check 6, LICENCE: what the image declares, and what its deep schedule, adaptation groups and INT4 steps need whatever it
declares (R3, R6). -/
def State.licenceOk (s : State) (slot : Nat) (c : ImageContent) : Bool :=
  let need := neededFeatures (s.imgFeatures slot) c.usesInt4 ||| (b2n (decide (c.deep.k ≠ 0)) + 2 * b2n (!c.adapt.isEmpty))
  decide (need &&& s.lic.features = need)

/-- A 256-bit mask of the image in device coordinates. -/
def State.moveMask (s : State) (slot m : Nat) : Nat :=
  if s.moved slot then m % 2 ^ 112 + m / 2 ^ 112 * 2 ^ 144 else m

/-- Logical cluster rows of the geometry an image is placed on (R149, R157). -/
def State.imgRows (s : State) (slot : Nat) : Nat := if s.imgGrade slot = 2 then 14 else 16

/-- Rows of one die in that geometry. -/
def State.imgDieRows (s : State) (slot : Nat) : Nat := s.imgRows slot / 2

/-- The role mask is the same within a logical quad (R154). -/
def State.rolesOk (s : State) (slot : Nat) : Bool :=
  let r := s.imgRole slot
  let dr := s.imgDieRows slot
  (List.range (s.imgRows slot)).all fun Y =>
    let y0 := Y / dr * dr + Y % dr / 2 * 2
    (List.range 16).all fun X => bit r (16 * Y + X) == bit r (16 * y0 + X / 2 * 2)

/-- A core section's target lies in the mask (R153). -/
def State.targetInMask (s : State) (slot : Nat) (c : Sect) : Bool :=
  decide (c.typ = 0 ∨ 6 < c.typ) || bit (s.imgPlace slot) (16 * (bits c.target 8 6 / 4) + bits c.target 0 6 / 4)

/-- Every core section's target lies in the mask. -/
def State.coresInMask (s : State) (slot : Nat) : Bool := (s.sects slot).all (s.targetInMask slot)

/-- A logical cluster of the image exists on the device and is not DEGRADED. -/
def State.soundCluster (s : State) (slot l : Nat) : Bool :=
  match s.clusterAt (l % 16) (s.rowOf slot (l / 16)) with
  | some c => !(s.cluster c).degraded
  | none => false

/-- No cluster of the mask is DEGRADED or beyond the grade (R153). -/
def State.maskSound (s : State) (slot : Nat) : Bool :=
  (List.range 256).all fun l => !bit (s.imgPlace slot) l || s.soundCluster slot l

/-- No route passes the mesh of a DEGRADED cluster: neither a core's route tables nor flits that a gateway delivers to the mesh
lie there (R153). -/
def State.routesSound (s : State) (slot : Nat) (c : ImageContent) : Bool :=
  c.cores.all (fun i => s.soundCluster slot i.cluster) &&
  c.clusters.all fun k => s.soundCluster slot k.num || k.inbound.all fun e => decide (bits e.2 0 2 ≠ 3)

/-- Check 7, PLACEMENT. -/
def State.placementOk (s : State) (slot : Nat) (c : ImageContent) : Bool :=
  decide (s.imgPlace slot < 2 ^ (16 * s.imgRows slot) ∧ s.imgRole slot < 2 ^ (16 * s.imgRows slot)) &&
  s.maskSound slot && s.rolesOk slot && s.coresInMask slot && s.routesSound slot c && c.adaptDeep (s.imgRole slot)

/-- Check 8, LATENCY (R44, R45). -/
def State.latencyOk (s : State) (slot : Nat) (c : ImageContent) : Bool :=
  let p := s.imgP slot
  let pc := s.img slot 30 2
  decide (p ≤ 2048 ∧ pc ≤ p ∧ p ≤ 25 * (p - pc) ∧ p - pc ≤ 63 * s.imgTickMin slot) && c.pathsOk pc

/-! ### HBM_FIT, PATCH (R165, R166, R198, R301) -/

/-- A relocation fits its region and width (R165). -/
def relocFits (rd : Rd) (slot : Nat) (r : Reloc) : Bool :=
  let g := regionOf rd r.kind slot
  decide (r.addend < g.2 ∧ g.1 + r.addend < 2 ^ (8 * r.width))

/-- Relocations and HBM_INIT data fit their regions, and the regions fit the HBM (R164, R165, R198). -/
def State.hbmFits (s : State) (rd : Rd) (slot : Nat) (c : ImageContent) : Bool :=
  (s.relocs slot).all (relocFits rd slot) &&
  c.hbmInit.all (fun h => decide (1 ≤ h.1 ∧ h.1 ≤ 5 ∧ h.2.1 + h.2.2.length ≤ (regionOf rd h.1 slot).2)) &&
  decide (12 * giB + (rd OD.CAPT_GIB 0 + rd OD.REPLAY_GIB 0 + rd OD.SCRATCH_GIB 0) * giB ≤ s.hbmSize)

/-- Bytes of a capture frame under a reader (R298). -/
def rdFb (rd : Rd) (st : Nat) : Nat :=
  if rd OD.CAPT_SRC st = 0 then ceilDiv (2 ^ rd OD.AVG_K st * rd OD.ST_NCH st * rd OD.ST_WIDTH st) 8 else 3 * rd OD.ST_NCH st

/-- Segment length and stride of a stream under a reader, for a P and a TICKDIV (R300, R301). -/
def rdWindow (rd : Rd) (st p td : Nat) : Nat :=
  rd OD.CAPT_PRE st + max (rd OD.CAPT_POST st) (ceilDiv (12 + p + td + 64) td)

/-- The capture layout fits (R301). -/
def captFits (rd : Rd) (p td : Nat) : Bool :=
  let used := streams.filter fun st => decide (rd OD.SEG_COUNT st ≠ 0)
  (used.all fun st => decide (rdWindow rd st p td ≤ 2 ^ 24 ∧ segStride (rdWindow rd st p td) (rdFb rd st) ≤ 2 ^ 28)) &&
  decide (used.foldl (fun n st => n + rd OD.SEG_COUNT st * segStride (rdWindow rd st p td) (rdFb rd st)) 0
    ≤ rd OD.CAPT_GIB 0 * giB)

/-- The field a patch record names holds a logical core or cluster inside the mask (R166). -/
def State.patchOk (s : State) (slot : Nat) (p : Patch) : Bool :=
  let c := s.sect slot p.sec
  let w := s.img slot (c.ofs + p.ofs) 8
  let m := s.imgPlace slot
  decide (p.sec < s.img slot 106 2 ∧ p.ofs + 8 ≤ c.size) &&
  (if p.kind = 1 then
    let v := bits w p.bitpos 16
    decide (p.bitpos ≤ 48 ∧ bits v 6 2 = 0 ∧ bits v 14 2 = 0) && bit m (16 * (bits v 8 6 / 4) + bits v 0 6 / 4)
   else if p.kind = 2 then decide (p.bitpos ≤ 56) && bit m (bits w p.bitpos 8)
   else false)

/-! ### The checks in their order (R174) -/

/-- A check of R174: its code, whether it passes, and the place where it fails (section index, byte offset), if it has one. -/
structure Check where
  code : Nat
  ok : Bool
  place : Option (Nat × Nat) := none
  deriving DecidableEq, Repr

/-- The code of the first check that fails, 0 when none does, and its REFUSE_DETAIL. -/
def firstFailure (checks : List Check) : Nat × Nat :=
  (checks.find? fun p => !p.ok).elim (0, 0) fun p => (p.code, p.place.elim 0 fun x => x.1 % 2 ^ 16 + x.2 % 2 ^ 48 * 2 ^ 16)

/-- The code of the first check that fails, for checks that have no place. -/
def firstCode (checks : List (Nat × Bool)) : Nat := (checks.find? fun p => !p.2).elim 0 Prod.fst

/-- Where an image breaks FORMAT: a section, or the section of a malformed relocation. -/
def State.formatPlace (s : State) (slot : Nat) (c : ImageContent) : Option (Nat × Nat) :=
  match s.badSects slot, (s.relocs slot).find? fun r => !s.relocOk slot r with
  | k :: _, _ => some (k, 0)
  | [], some r => some (r.sec, r.ofs)
  | [], none => if c.decodes then none else some c.place

/-- The section of a type whose core or cluster breaks a rule. -/
def State.placeOf (s : State) (slot typ : Nat) (bad : Option Nat) : Option (Nat × Nat) :=
  bad.bind fun t => (s.sectsOf slot typ t).head?.map fun k => (k, 0)

/-- The microcode section of the first core that breaks CODE. -/
def State.codePlace (s : State) (slot : Nat) (c : ImageContent) : Option (Nat × Nat) :=
  s.placeOf slot 1 ((c.cores.find? fun i => !i.codeOk).map CoreImage.target)

/-- The first core section outside the mask. -/
def State.maskPlace (s : State) (slot : Nat) : Option (Nat × Nat) :=
  ((List.range (s.img slot 106 2)).find? fun k => !s.targetInMask slot (s.sect slot k)).map fun k => (k, 0)

/-- The first relocation that does not fit; the first patch that names no valid field. -/
def State.relocPlace (s : State) (rd : Rd) (slot : Nat) : Option (Nat × Nat) :=
  ((s.relocs slot).find? fun r => !relocFits rd slot r).map fun r => (r.sec, r.ofs)
def State.patchPlace (s : State) (slot : Nat) : Option (Nat × Nat) :=
  ((s.patchRecs slot).find? fun p => !s.patchOk slot p).map fun p => (p.sec, p.ofs)

/-- The checks made at COMMIT, in the order of R174: code and detail. -/
def State.commitCode (s : State) (slot size : Nat) : Nat × Nat :=
  let c := s.slotImage slot
  let tm := s.imgTickMin slot
  let role := s.imgRole slot
  firstFailure
    [{ code := 1, ok := s.formatOk slot size c, place := s.formatPlace slot c },
     { code := 2, ok := s.digestOk slot },
     { code := 3, ok := s.gradeOk slot },
     { code := 4, ok := decide (s.img slot 18 1 = s.rd OD.LAT_CLASS) },
     { code := 5, ok := decide (s.img slot 19 1 = s.rd OD.QD_CLASS) },
     { code := 6, ok := s.licenceOk slot c },
     { code := 7, ok := s.placementOk slot c, place := s.maskPlace slot },
     { code := 8, ok := s.latencyOk slot c },
     { code := 10, ok := c.codeOk tm (s.imgP slot) (s.img slot 32 8), place := s.codePlace slot c },
     { code := 11, ok := c.scheduleOk tm role },
     { code := 12, ok := c.reductionOk },
     { code := 13, ok := s.hbmFits s.inForceRd slot c, place := s.relocPlace s.inForceRd slot },
     { code := 14, ok := (s.patchRecs slot).all (s.patchOk slot), place := s.patchPlace slot }]

/-- TICKDIV in force after an activation: the running one under a hard retune, whatever a LAUNCH carries; in a Damp the one that
LAUNCH carries, or the pending one (R174, R187, R360). -/
def State.nextTickdiv (s : State) (hard : Bool) (td : Option Nat) : Nat :=
  if hard then s.tickdiv else td.getD (s.nextRd OD.TICKDIV 0)

/-- The reader of what an activation leaves: a hard retune applies LOAD entries only (R187, R374). -/
def State.afterRd (s : State) (hard : Bool) : Rd := fun e u =>
  if hard ∧ e.app = .damp then s.rd e u else s.nextRd e u

/-- The checks on an image that are made again at an activation, with a TICKDIV that LAUNCH may carry (R174, R360). -/
def State.activationCode (s : State) (slot : Nat) (hard : Bool) (td : Option Nat) : Nat × Nat :=
  let c := s.slotImage slot
  let t := s.nextTickdiv hard td
  let rd := s.afterRd hard
  firstFailure
    [{ code := 6, ok := s.licenceOk slot c },
     { code := 7, ok := s.placementOk slot c, place := s.maskPlace slot },
     { code := 9, ok := decide (s.imgTickMin slot ≤ t) && c.deep.fitsTick t },
     { code := 13, ok := s.hbmFits rd slot c && captFits rd (s.imgP slot) t, place := s.relocPlace rd slot }]

/-! ### Slot commands (R169 to R173) -/

/-- A slot command or activation is refused: the named slot's REFUSE_CODE says why (log entry 11). -/
def State.refuseSlot (s : State) (slot code detail : Nat) : State := (s.wr (odCode slot) 0 code).wr (odDetail slot) 0 detail

/-- The slot is the one an activation in progress is loading (R185). -/
def State.slotBusy (s : State) (slot : Nat) : Bool :=
  decide (s.act.slot = slot ∧ 1 ≤ s.rd OD.DAMP_STATE ∧ s.rd OD.DAMP_STATE ≤ 5)

/-- Everything a slot header holds is cleared. -/
def State.clearSlot (s : State) (slot : Nat) : State :=
  { s with act.images := SMap.set {} s.act.images slot {} }.clrEntries [odState slot, odSeq slot, odSize slot, odProg slot, odWeight slot, odCode slot, odDetail slot, odDecl slot,
    odLoadCyc slot]

/-- Sequence numbers an OPEN_SEQ must be greater than (R170). -/
def State.openFloor (s : State) (slot : Nat) : List Nat :=
  let held (k : Nat) : List Nat := if s.rd (odState k) = 0 then [] else [s.rd (odSeq k)]
  if s.act.opened then s.rd OD.LAST_SEQ :: (held 0 ++ held 1) else held (1 - slot)

/-- SLOT_CMD = 1 (R170, R415). -/
def State.slotOpen (s : State) (slot seq : Nat) : State :=
  let st := s.rd (odState slot)
  if ¬ (st = 0 ∨ st = 3 ∨ st = 5) ∨ s.slotBusy slot then s.refuseSlot slot 16 0
  else if s.boot.hbmFailed then s.refuseSlot slot 13 0
  else if (s.openFloor slot).all (serialGreater seq) then
    let s := ((s.clearSlot slot).wr (odState slot) 0 1).wr (odSeq slot) 0 seq
    let s := s.wr OD.LAST_SEQ 0 seq
    { s with act.opened := true }
  else s.refuseSlot slot 15 0

/-- SLOT_CMD = 2 (R170). -/
def State.slotCommit (s : State) (slot size prog weight : Nat) : State :=
  if s.rd (odState slot) = 1 ∧ ¬ s.slotBusy slot then
    let s := (s.wr (odState slot) 0 2).wr (odSize slot) 0 size
    { s with act.expect := SMap.set (0, 0) s.act.expect slot (prog, weight) }
  else s.refuseSlot slot 16 0

/-- SLOT_CMD = 3 (R170). -/
def State.slotClear (s : State) (slot : Nat) : State :=
  let st := s.rd (odState slot)
  if (st = 0 ∨ st = 1 ∨ st = 3 ∨ st = 5) ∧ ¬ s.slotBusy slot then s.clearSlot slot else s.refuseSlot slot 16 0

/-- SLOT_OPEN: the command and its parameters come in one transaction (R170). -/
def execSlotOpen (slot : Fin 2) (seq : Word32) (s : State) : Answer :=
  if ¬ s.hostMay then .next s
  else
    let s := s.noteWrites [(OD.SLOT_CMD_SLOT, 0, slot.val), (OD.OPEN_SEQ, 0, seq.toNat), (OD.SLOT_CMD, 0, 1)]
    .next (((s.wr OD.SLOT_CMD_SLOT 0 slot).wr OD.OPEN_SEQ 0 seq.toNat).slotOpen slot seq.toNat)

/-- SLOT_COMMIT (R170). -/
def execSlotCommit (slot : Fin 2) (size : Word64) (prog weight : BitVec 256) (s : State) : Answer :=
  if ¬ s.hostMay then .next s
  else
    let s := s.noteWrites [(OD.SLOT_CMD_SLOT, 0, slot.val), (OD.COMMIT_SIZE, 0, size.toNat), (OD.EXPECT_PROG, 0, prog.toNat),
      (OD.EXPECT_WEIGHT, 0, weight.toNat), (OD.SLOT_CMD, 0, 2)]
    let s := ((s.wr OD.SLOT_CMD_SLOT 0 slot).wr OD.COMMIT_SIZE 0 size.toNat).wr OD.EXPECT_PROG 0 prog.toNat
    .next ((s.wr OD.EXPECT_WEIGHT 0 weight.toNat).slotCommit slot size.toNat prog.toNat weight.toNat)

/-- SLOT_CLEAR (R170). -/
def execSlotClear (slot : Fin 2) (s : State) : Answer :=
  if ¬ s.hostMay then .next s
  else
    let s := s.noteWrites [(OD.SLOT_CMD_SLOT, 0, slot.val), (OD.SLOT_CMD, 0, 3)]
    .next ((s.wr OD.SLOT_CMD_SLOT 0 slot).slotClear slot)

/-- A_DECL or B_DECL of a checked image (R191). -/
def State.declOf (s : State) (slot : Nat) : Nat :=
  s.imgGrade slot % 4 + 4 * b2n (s.imgPortable slot) + 8 * s.img slot 18 1 + 2 ^ 11 * s.imgP slot + 2 ^ 27 * s.imgTickMin slot

/-- SLOT_CHECK_DONE: a CHECKING slot ends in READY or FAILED (R170, R174, R183). `content` is what the sections whose layout
Etver keeps decode to (log entry 9). -/
def execSlotCheckDone (slot : Fin 2) (content : ImageContent) (s : State) : Answer :=
  let k := slot.val
  if s.rd (odState k) ≠ 2 then .next s
  else
    let s := { s with act.images := SMap.set {} s.act.images k content }
    let r := s.commitCode k (s.rd (odSize k))
    let s := if r.1 = 1 then s else (s.wr (odProg k) 0 (s.progDigest k)).wr (odWeight k) 0 (s.weightDigest k)
    if r.1 = 0 then
      let s := ((s.wr (odState k) 0 3).wr (odDecl k) 0 (s.declOf k)).wr (odLoadCyc k) 0 (ceilDiv (s.img k 132 4) 4096 + 1024)
      .next (s.refuseSlot k 0 0)
    else .next ((s.wr (odState k) 0 5).refuseSlot k r.1 r.2)

/-! ### BAR2 (R171, R197, R398) -/

/-- What a write through BAR2 meets at an address: 0 allowed, 1 a slot region, 2 denied. -/
def State.bar2Rule (s : State) (a : Nat) : Nat :=
  if s.hbmSize ≤ a ∨ a < giB then 2
  else if a < 3 * giB then (if s.rd (odState (a / giB - 1)) = 1 then 0 else 1)
  else if a < s.scratchBase then 2
  else if a < s.freeBase then (if 1 ≤ s.rd OD.DAMP_STATE ∧ s.rd OD.DAMP_STATE ≤ 5 then 2 else 0)
  else 0

/-- BAR2_DENIED is announced at most once per 1 ms (R398). -/
def State.bar2Denied (s : State) : State :=
  let quiet := s.host.deniedAt.elim false fun t => decide (s.tcount < t + 1000000)
  if quiet then s
  else
    let s := { s with host.deniedAt := some s.tcount }
    s.raisePkg 0x0D02

/-- One byte of a posted write. -/
def State.bar2Byte (s : State) (a : Nat) (b : Byte) : State :=
  if s.bar2Rule a = 0 then { s with hbm := s.hbm.write a b } else s

/-- BAR2_WRITE: bytes the rules allow reach HBM; a write with a forbidden byte counts once per kind (R398). -/
def execBar2Write (ofs : Fin 268435456) (bytes : List Byte) (s : State) : Answer :=
  if ¬ s.host.ready then .next s
  else
    let base := s.host.winBase + ofs.val
    let addrs := (List.range bytes.length).map (base + ·)
    let drop := addrs.any fun a => decide (s.bar2Rule a = 1)
    let deny := addrs.any fun a => decide (s.bar2Rule a = 2)
    let s := (List.range bytes.length).foldl (fun s i => s.bar2Byte (base + i) (bytes.getD i 0)) s
    let s := if drop then s.inc OD.SLOT_WRITE_DROP 0 else s
    let s := if deny then s.inc OD.BAR2_DENY 0 else s
    .next (if drop || deny then s.bar2Denied else s)

/-- A read through BAR2 is denied: in the hub region, at or above HBM_SIZE, in a slot that is not WRITING, and in the deep
scratch while an activation is in progress (R197, R398; log entry 143). -/
def State.bar2Hidden (s : State) (a : Nat) : Bool :=
  decide (a < giB ∨ s.hbmSize ≤ a) || (decide (a < 3 * giB) && decide (s.rd (odState (a / giB - 1)) ≠ 1)) ||
    (decide (s.scratchBase ≤ a ∧ a < s.freeBase) && decide (1 ≤ s.rd OD.DAMP_STATE ∧ s.rd OD.DAMP_STATE ≤ 5))

/-- A read byte: 0xFF where the read is denied. -/
def State.bar2Get (s : State) (a : Nat) : Byte := if s.bar2Hidden a then 0xFF else s.hbm.read a

/-- BAR2_READ; a corrected HBM error is counted, an uncorrected one poisons the completion (R196, R398). -/
def execBar2Read (ofs : Fin 268435456) (len : Fin 4097) (ecc : Ecc) (s : State) : Answer :=
  if ¬ s.host.ready then .next s
  else
    let base := s.host.winBase + ofs.val
    let addrs := (List.range len.val).map (base + ·)
    let deny := addrs.any s.bar2Hidden
    let reads := addrs.any fun a => !s.bar2Hidden a
    let poison := decide (ecc = .uncorrected) && reads
    let s := { s with host.completion := some (poison, addrs.map s.bar2Get) }
    let s := if poison then (s.inc OD.BAR2_POISON 0).hbmUe else if ecc = .corrected ∧ reads then s.hbmCe else s
    .next (if deny then (s.inc OD.BAR2_DENY 0).bar2Denied else s)

/-- WIN_BASE_WRITE: bits [27:0] are ignored (R398). -/
def execWinBaseWrite (value : Word64) (s : State) : Answer :=
  if ¬ s.host.ready then .next s
  else .next { s with host.winBase := value.toNat / 2 ^ 28 * 2 ^ 28 }

end Sys2Proof.Machine
end

