-- ==== Sys2Proof/Machine/Activation.lean ====
section
/-! DEFINITION. Activation of an image: the request (R174 to R176), Damp and hard retune (R182 to R189), the epoch switch
(R180, R186), the load (R179, R183), the launch ramp (R190) and the resume tick (R177, R178, R181). -/

namespace Sys2Proof.Machine

/-! ### The request (R174 to R176) -/

/-- An activation is pending or in progress. -/
def State.actBusy (s : State) : Bool :=
  decide (s.act.pending ≠ none) || decide (1 ≤ s.rd OD.DAMP_STATE ∧ s.rd OD.DAMP_STATE ≤ 5)

/-- A hard retune is permitted (R187). -/
def State.hardAllowed (s : State) : Bool :=
  decide (s.rd OD.EXPERT_EN = 1) && decide (s.act.sweepAt = none) && !s.act.barred

/-- The slot or the device is in a state that allows no activation (R169, R475). -/
def State.actBarred (s : State) (slot : Nat) : Bool :=
  decide (¬ (s.rd (odState slot) = 3 ∨ s.rd (odState slot) = 4) ∨ s.faults.safe ∨ s.power.tripped)

/-- The code that refuses an activation request with its REFUSE_DETAIL, 0 when it is accepted: the checks of R174 in their order
(R174, R176). `base` is the first tick it may start at. -/
def State.requestCode (s : State) (a : Activation) (base : Nat) : Nat × Nat :=
  let r := s.activationCode a.slot (decide (a.mode = 1)) a.tickdiv
  if r.1 ≠ 0 then r
  else if s.actBarred a.slot ∨ (a.at_ ≠ 0 ∧ a.at_ < base) then (16, 0)
  else if s.actBusy then (17, 0)
  else if a.mode = 1 ∧ ¬ s.hardAllowed then (18, 0)
  else (0, 0)

/-- An activation is requested: it becomes pending, or is refused (R174 to R176; log entry 11). -/
def State.activate (s : State) (a : Activation) (base : Nat) : State :=
  let r := s.requestCode a base
  if r.1 = 0 then
    let s := { s with act.pending := some { a with at_ := if a.at_ = 0 then base else a.at_ }, tape.starting := false }
    s.wr OD.ACT_STATUS 0 1
  else
    let busy := s.actBusy
    let s := s.refuseSlot a.slot r.1 r.2
    if busy then s else s.wr OD.ACT_STATUS 0 4

/-- ACT_CMD = 2 (R175, R185). -/
def State.actCancel (s : State) : State :=
  if s.act.pending ≠ none then
    let s := { s with act.pending := none }
    s.wr OD.ACT_STATUS 0 7
  else s.refuseSlot (s.rd OD.ACT_SLOT) 16 0

/-- ACT_RESUME_AT is written while an activation is in progress (R177). -/
def State.resumeWrite (s : State) (v : Nat) : State :=
  let s := s.wr OD.ACT_RESUME_AT 0 v
  if s.act.missed then
    let s := { s with act.resumeAt := v, act.missed := false }
    s.wr OD.ACT_STATUS 0 2
  else { s with act.resumeAt := v }

/-- ACT_CMD_ACTIVATE: command and parameters come in one transaction (R175). -/
def execActCmdActivate (slot mode : Fin 2) (at_ resumeAt : Word64) (s : State) : Answer :=
  if ¬ s.hostMay then .next s
  else
    let s := s.noteWrites [(OD.ACT_SLOT, 0, slot.val), (OD.ACT_MODE, 0, mode.val), (OD.ACT_AT, 0, at_.toNat),
      (OD.ACT_RESUME_AT, 0, resumeAt.toNat), (OD.ACT_CMD, 0, 1)]
    let s := ((s.wr OD.ACT_SLOT 0 slot).wr OD.ACT_MODE 0 mode).wr OD.ACT_AT 0 at_.toNat
    let s := s.wr OD.ACT_RESUME_AT 0 resumeAt.toNat
    .next (s.activate { slot := slot, mode := mode, at_ := at_.toNat, resumeAt := resumeAt.toNat } s.nextDrone)

/-- ACT_CMD_CANCEL (R175). -/
def execActCmdCancel (s : State) : Answer :=
  if ¬ s.hostMay then .next s else .next (s.noteWrites [(OD.ACT_CMD, 0, 2)]).actCancel

/-! ### Pending entries (R374) -/

/-- Pending values committed before a tick. -/
def dueBefore (m : SMap (Option (Nat × Nat))) (ts : Nat) : List (Nat × Nat) :=
  m.filterMap fun p => match p.2 with
    | some (v, t) => if t < ts then some (p.1, v) else none
    | none => none

/-- What stays pending. -/
def keepFrom (m : SMap (Option (Nat × Nat))) (ts : Nat) : SMap (Option (Nat × Nat)) :=
  m.filter fun p => match p.2 with
    | some (_, t) => decide (ts ≤ t)
    | none => false

/-- The entry of a cell key. -/
def entryOfKey (k : Nat) : Option Entry :=
  let is := k / 65536
  OD.table.find? fun e => decide (e.idx = is / 256 ∧ e.sub ≤ is % 256 ∧ is % 256 ≤ e.last)

/-- A cell by key takes a value, in canonical form. -/
def State.wrKey (s : State) (k v : Nat) : State :=
  { s with dict.cells := SMap.set ((entryOfKey k).elim 0 Entry.dflt) s.dict.cells k v }

/-- DAMP entries committed before T_s take effect (R180). -/
def State.applyDamp (s : State) : State :=
  let due := dueBefore s.dict.damp s.act.ts
  let s := { s with dict.damp := keepFrom s.dict.damp s.act.ts }
  due.foldl (fun s p => s.wrKey p.1 p.2) s

/-- LOAD entries likewise; the seeds of R247 replace those of the image, when its load ends. -/
def State.applyLoad (s : State) (seeds : Bool) : State :=
  let isSeed (k : Nat) : Bool := decide (k / 65536 = 0x5101 * 256 + 6)
  let mine := s.dict.load.filter fun p => isSeed p.1 == seeds
  let rest := s.dict.load.filter fun p => !(isSeed p.1 == seeds)
  let due := dueBefore mine s.act.ts
  let s := { s with dict.load := s.dict.load.filter fun p => (rest.any fun q => decide (q.1 = p.1)) ||
    ((keepFrom mine s.act.ts).any fun q => decide (q.1 = p.1)) }
  due.foldl (fun s p => s.wrKey p.1 p.2) s

/-! ### The epoch switch (R180, R186) -/

/-- Entries whose change frees every segment of a stream (R299). -/
def captKey (s : State) (st : Nat) : List Nat :=
  [s.rd OD.SEG_COUNT st, s.rd OD.CAPT_PRE st, s.rd OD.CAPT_POST st, s.rd OD.CAPT_SRC st, s.rd OD.AVG_K st, s.rd OD.ST_NCH st,
   s.rd OD.ST_WIDTH st, s.rd OD.CAPT_GIB]

/-- Entries whose change empties a stream's alignment buffer (R265). -/
def alignKey (s : State) (st : Nat) : List Nat :=
  [s.rd OD.ST_FIRST_LANE st, s.rd OD.ST_NLANES st, s.rd OD.ST_NCH st, s.rd OD.ST_WIDTH st, s.rd OD.ST_SIGNED st,
   s.rd OD.ST_HDR_BYTES st, s.rd OD.ST_CRC st, s.rd OD.AVG_K st, s.rd OD.SEQ_OFS st]

/-- Every segment of a stream is freed, and its ring starts again at its first segment. -/
def State.freeAll (s : State) (st : Nat) : State :=
  let s := (SMap.keys (s.cap st).segs).foldl (fun s k => s.freeSeg st k) s
  s.updCap st fun c => { c with nextSlot := 0, cur := 0, verdicts := [] }

/-- Streams whose settings changed at the switch (R265, R299). -/
def State.changed (s old : State) : State :=
  streams.foldl (fun s st =>
    let s := if captKey s st = captKey old st then s else s.freeAll st
    if alignKey s st = alignKey old st ∧ s.rd OD.ALIGN_MODE st = 0 then s
    else s.updIng st fun i => { i with align := [], checkFail := [], voidMark := false }) s

/-- HBM regions whose base or size changed start with undefined contents (R198). -/
def State.regionsChanged (s old : State) : State :=
  let redo (s : State) (lo hi lo' hi' : Nat) : State :=
    if lo = lo' ∧ hi = hi' then s else { s with hbm := s.hbm.undefine lo hi s.freeCtr, freeCtr := s.freeCtr + 1 }
  let s := redo s captBase s.replayBase captBase old.replayBase
  let s := redo s s.replayBase s.scratchBase old.replayBase old.scratchBase
  let s := if s.replayBase = old.replayBase ∧ s.scratchBase = old.scratchBase then s
    else { s with tape.held := [], tape.ptr := 4096 }
  let s := redo s s.scratchBase s.freeBase old.scratchBase old.freeBase
  redo s s.freeBase s.hbmSize old.freeBase old.hbmSize

/-- A lane that the new envelope no longer licenses is disabled (R418). -/
def State.shedLane (s : State) (l : Nat) : State :=
  if s.laneOn l && decide (s.lic.lanesMax < s.lanesOn) then (s.setLaneEn l (s.rd OD.LANE_EN l / 4 * 4)).raise 0x0601 (dieUnit (l / 16)) l
  else s

/-- A quad whose TX_LOCK the clock no longer allows sends nothing (R270). -/
def State.holdLane (s : State) (l : Nat) : State :=
  let lock := s.rd OD.TX_LOCK (l / 4)
  if lock ≠ 0 ∧ s.mhz < (lockRow lock).low ∧ s.rd OD.TX_STATE l = 7 then
    let s := s.updLane l fun x => { x with heldOff := true }
    (s.txTo l 1).raise 0x0601 (dieUnit (l / 16)) l
  else s

/-- The core clock of a Damp, for which the core PLLs relock; no clock is raised while a die is under AVS_FAULT (R434,
R448). -/
def State.coreClock (s : State) (mhz : Nat) : State :=
  let frozen := (List.range 4).any fun d => (s.die d).frozen
  let s := if frozen ∧ s.mhz < mhz then s else ((List.range 64).foldl State.fillRebase s).wr OD.CORE_MHZ_RUN 0 mhz
  s.wr OD.PLL_LOCK 0 (s.rd OD.PLL_LOCK ||| 0x1F)

/-- The new licence envelope, and the core clock of a Damp (R418, R419, R434). -/
def State.applyEnvelope (s : State) (hard : Bool) : State :=
  let s := (s.wr OD.ENV_IN_FORCE 0 (s.rd OD.LIC_ENVELOPE)).wr OD.PCAP 0 (min (s.rd OD.PCAP) s.lic.pcapMax)
  let s := { s with lic.runFeatures := s.lic.features }
  let s := (List.range 64).reverse.foldl State.shedLane s
  let s := if hard then s else s.coreClock (min (s.rd OD.CORE_MHZ) (s.lic.clkMax / 25 * 25))
  (List.range 64).foldl State.holdLane s

/-- Power domains of the quads that a mask of logical clusters uses (R154, R442). -/
def State.domainsOf (s : State) (m : Nat) : Nat :=
  (List.range 256).foldl (fun d l =>
    if bit m l then (match s.clusterAt (l % 16) (l / 16) with
      | some c => d ||| 2 ^ quadOf c
      | none => d) else d) 0

/-- DOMAIN_SWITCH (R442): the cluster-quad domains the new image uses are on, the others off. -/
def State.domainSwitch (s : State) : State :=
  s.wr OD.DOMAIN_ON 0 (s.domainsOf s.act.mask + s.rd OD.DOMAIN_ON / 2 ^ 64 * 2 ^ 64)

/-- A core stops where it is; what waits in its input FIFO is lost. -/
def Core.halt (c : Core) : Core :=
  { c with running := false, fifoC := [], fifoD := [], ftab := [], eofSeen := false, mergeSel := none, taken := [], hurt := [],
           mmTags := [] }

/-- Tokens of an injection buffer are discarded, each counted as stale by the die (R188). -/
def State.dropInject (s : State) (d : Nat) (l : List Inject) : State :=
  let n := (l.flatMap Inject.left).length
  if n = 0 then s else (s.inc OD.STALE_TOKEN_TOTAL 0 n).raise 0x0002 (dieUnit d) d

/-- Cores stop at the switch; what waits in their input FIFOs and in the injection buffers is lost, and counted as stale (R184,
R188). -/
def State.haltCores (s : State) : State :=
  let s := (SMap.keys s.fabric.cores).foldl (fun s p =>
    s.times (fun s => s.staleToken p) ((s.core p).fifoC.length + (s.core p).fifoD.length)) s
  let s := s.fabric.inject.foldl (fun s x => s.dropInject x.1 x.2) s
  { s with fabric.cores := SMap.mapVals {} (fun _ c => c.halt) s.fabric.cores, fabric.inject := [] }

/-- TICKDIV of a Damp: boundaries go on from the last one at the new period (R31). -/
def State.rebase (s : State) (old : State) : State :=
  if s.tickdiv = old.tickdiv then s
  else { s with clock.bnd := s.clock.bnd + (s.now - s.clock.bnd) / s.tickdiv * s.tickdiv }

/-- EPOCH_SWITCH and the start of LOAD (R180, R182, R186). -/
def State.epochSwitch (s : State) (hard : Bool) : State :=
  let old := s
  let slot := s.act.slot
  let s := if hard then s else s.applyDamp
  let s := (s.applyLoad false).rebase old
  let act := s.rd OD.ACTIVE_SLOT
  let s := if act < 2 then s.wr (odState act) 0 3 else s
  let s := (s.idleRepairs (s.act.ts - 1)).noImage
  let s := { s with act.mask := s.moveMask slot (s.imgPlace slot) }
  let s := (s.domainSwitch.changed old).regionsChanged old
  let s := (s.applyEnvelope hard).haltCores
  let s := if hard then s else s.realign (decide (s.mhz ≠ old.mhz))
  let s := s.captLayout (s.imgP slot) s.tickdiv
  (s.wr OD.EPOCH 0 ((old.rd OD.EPOCH + 1) % 8)).wr OD.DAMP_STATE 0 4

/-! ### T_s (R182, R187, R188) -/

/-- Candidates not yet started are discarded; the deep slot in progress goes on with its periodic runs (R182). -/
def State.dropCandidates (s : State) : State :=
  let n := (s.deep.cands ++ s.deep.work ++ s.deep.spill).countP fun i => decide (i.kind = 0)
  let s := s.inc OD.DEEP_DAMP_DISCARD 0 n
  { s with deep.cands := [], deep.candCount := 0, deep.prevCount := 0, deep.spill := [],
           deep.work := s.deep.work.filter fun i => decide (i.kind ≠ 0) }

/-- Frames whose record had not reached the deadline buffer become stale (R188). -/
def State.markStale (s : State) : State :=
  let mark (_ : Nat) (d : Decide) : Decide :=
    { d with flights := d.flights.map fun f => { f with stale := f.stale || (d.held f).isNone } }
  { s with decisions := SMap.mapVals {} mark s.decisions }

/-- Admission stops: capture stops, the seal part closes, repair windows end, idle streams go to fail-safe (R178, R299,
R320, R481). -/
def State.pause (s : State) (ts : Nat) : State :=
  let s := { s with act.admitOn := false }
  let s := (streams.filter fun st => decide (s.rd OD.SEG_COUNT st ≠ 0)).foldl (fun s st => s.stopAt st 1 true) s
  let s := (s.endRepairs (ts - 1)).closePart true
  let quiet (_ : Nat) (d : Decide) : Decide := if d.flights = [] then d.setFailsafe true (s.now + 10) else d
  { s with decisions := SMap.mapVals {} quiet s.decisions }

/-- HARD_RETUNE_SWITCH (R187 to R189). -/
def State.hardSwitch (s : State) : State :=
  let s := (s.inc OD.HARD_COUNT 0).abandonDeep true
  let s := { s.markStale with act.sweepAt := some (s.now + 2 * (12 + 2048) + 256) }
  s.epochSwitch true

/-- An activation starts at its T_s (R176, R182, R184, R187, R360). What its checks rest on may have changed while it waited (a
licence lost, a cluster DEGRADED, a TICKDIV committed): they are made again, and a failure refuses it (R174; log entry 144). -/
def State.startActivation (s : State) (a : Activation) : State :=
  let s := { s with act.pending := none }
  let r := s.activationCode a.slot (decide (a.mode = 1)) a.tickdiv
  if r.1 ≠ 0 then (s.refuseSlot a.slot r.1 r.2).wr OD.ACT_STATUS 0 4
  else if s.actBarred a.slot then (s.refuseSlot a.slot 16 0).wr OD.ACT_STATUS 0 4
  else
    let ts := s.nextDrone
    let s := s.advanceTo s.nextBoundary
    let s := s.pause s.nextTick
    let s := { s with act.slot := a.slot, act.hard := decide (a.mode = 1), act.ts := ts, act.resumeAt := a.resumeAt,
                      act.missed := false, act.waves := [], act.loadDone := false }
    let s := match a.tickdiv with
      | some t => { s with dict.damp := SMap.set none s.dict.damp (OD.TICKDIV.key 0) (some (t, ts - 1)) }
      | none => s
    let s := (s.wr OD.ACT_STATUS 0 2).wr OD.PAUSE_AT 0 ts
    if a.mode = 1 then s.hardSwitch
    else if s.rd OD.DAMP_STATE = 6 then { s with act.since := s.now }.wr OD.DAMP_STATE 0 3
    else (s.dropCandidates.wr OD.DAMP_STATE 0 2)

/-- ACT_START: at the tick boundary of T_s (R176, R182). -/
def execActStart (s : State) : Answer :=
  match s.act.pending with
  | some a => if s.clock.running ∧ a.at_ ≤ s.nextDrone then .next (s.startActivation a) else .next s
  | none => .next s

/-- A reference-loss stop (R368): as at T_s, without a new configuration; the device enters HOLD, and an activation in
progress is abandoned. -/
def State.refLossStop (s : State) : State :=
  let s := (((s.pause s.nextTick).idleRepairs s.tickNo).abandonDeep false).closePart true
  let s := if 1 ≤ s.rd OD.DAMP_STATE ∧ s.rd OD.DAMP_STATE ≤ 5 then s.wr OD.ACT_STATUS 0 8 else s
  { s with act.running := false, act.loadDone := false, clock.tickinWait := none }.capToLicence.wr OD.DAMP_STATE 0 6

/-! ### DRAIN, VERIFY (R182, R184) -/

/-- The last old record is released and every deep slot has ended (R182). -/
def State.drained (s : State) : Bool :=
  (s.decisions.all fun p => decide (p.2.flights = [])) && decide (s.deep.serving = none) && !s.deep.active

/-- DRAIN_DONE (R182). -/
def execDrainDone (s : State) : Answer :=
  if s.rd OD.DAMP_STATE = 2 ∧ s.drained then
    let s := { s with act.since := s.now }
    .next (s.wr OD.DAMP_STATE 0 3)
  else .next s

/-- Every queue of the fabric is empty, and no READ is under way (R182). -/
def Fabric.empty (f : Fabric) : Bool :=
  decide (f.routerQ = [] ∧ f.gateQ = [] ∧ f.trussQ = [] ∧ f.viaQ = [] ∧ f.hubQ = [] ∧ f.localQ = [] ∧ f.deckQ = []) &&
  decide (f.inject = [] ∧ f.recordsOut = []) && (f.clusters.all fun p => decide (p.2.reads = [])) &&
  f.cores.all fun p => decide (p.2.fifoC = [] ∧ p.2.fifoD = [] ∧ p.2.out = [] ∧ p.2.recs = [])

/-- Every queue that VERIFY watches is empty, and every HBM request of the fabric has completed: the fabric's queues, the
deadline buffers, the handoff rings, recall requests and their results (R182). -/
def State.queuesEmpty (s : State) : Bool :=
  s.fabric.empty && (s.decisions.all fun p => decide (p.2.buffer = [])) &&
    decide (s.deep.rings = [] ∧ s.deep.requests = [] ∧ s.deep.results = [])

/-- VERIFY has not passed within DAMP_LIMIT cycles (R184). -/
def State.dampStuck (s : State) : State :=
  let s := s.advanceTo (s.act.since + s.rd OD.DAMP_LIMIT)
  ((s.capToLicence.wr OD.DAMP_STATE 0 6).wr OD.ACT_STATUS 0 5).raisePkg 0x0301

/-- VERIFY_PASS: all queues are empty for 256 consecutive cycles from here on, and the epoch switches; where DAMP_LIMIT runs out
first, VERIFY is stuck (R182, R184; log entry 145). -/
def execVerifyPass (s : State) : Answer :=
  if s.rd OD.DAMP_STATE ≠ 3 ∨ ¬ s.queuesEmpty then .next s
  else if s.act.since + s.rd OD.DAMP_LIMIT < s.now + 256 then .next s.dampStuck
  else
    let s := s.advanceTo (s.now + 256)
    if s.queuesEmpty then .next (s.epochSwitch false) else .next s

/-- DAMP_STUCK: VERIFY has not passed within DAMP_LIMIT cycles (R184). -/
def execDampStuck (s : State) : Answer := if s.rd OD.DAMP_STATE = 3 then .next s.dampStuck else .next s

end Sys2Proof.Machine
end

