-- ==== Sys2Proof/Machine/Load.lean ====
section
/-! DEFINITION. The load of an image (R179, R183), the launch ramp (R190), the resume tick (R177, R181), a missed launch and
the epoch sweep (R189). -/

namespace Sys2Proof.Machine

/-! ### Fabric and hub blocks (R164, R179) -/

/-- What a slot loads, relocated and patched (R164, R167). -/
def State.loadContent (s : State) (slot : Nat) : ImageContent :=
  (s.imageOfSlot slot (s.loadedData slot) (SMap.get {} s.act.images slot)).placedBy (s.rowOf slot) (s.coreRow slot)

/-- Cores of an image, each at the core that serves its position. -/
def State.loadCores (s : State) (is : List CoreImage) : State :=
  let s := { s with fabric.cores := SMap.mapVals {} (fun _ c => c.blank) s.fabric.cores }
  is.foldl (fun s i => match s.pcidOf i.x i.y with
    | some p => s.updCore p fun c => c.load i
    | none => s) s

def State.loadClusters (s : State) (is : List ClusterImage) : State :=
  let s := { s with fabric.clusters := SMap.mapVals {} (fun _ k => k.blank) s.fabric.clusters }
  is.foldl (fun s i => match s.clusterAt (i.num % 16) (i.num / 16) with
    | some c => s.updCluster c fun k => k.load i
    | none => s) s

/-- Defaults of one input quantiser (R104). -/
def State.loadIq (s : State) (u : Nat) (q : IqCfg) : State :=
  let s := (s.wrI OD.IQ_OFS u q.ofs).wrI OD.IQ_MULT u q.mult
  let s := (s.wr OD.IQ_SHIFT u q.shift).wr OD.IQ_MODE u (b2n q.mode)
  (s.wrI OD.IQ_LO u q.lo).wrI OD.IQ_HI u q.hi

/-- Input-quantiser defaults and drift thresholds: those of the image, the identity and 0xFFFF_FFFF where it gives none (R104,
R114, R164). -/
def State.loadIngest (s : State) (c : ImageContent) : State :=
  let s := s.clrEntries [OD.IQ_OFS, OD.IQ_MULT, OD.IQ_SHIFT, OD.IQ_MODE, OD.IQ_LO, OD.IQ_HI, OD.LAYER_THRESH]
  let s := c.iq.foldl (fun s p => s.loadIq p.1 p.2) s
  (c.thresh.filter fun p => decide (p.1 < 1024)).foldl (fun s p => s.wr OD.LAYER_THRESH p.1 p.2) s

/-- The deep schedule (R199 to R217): every deep structure starts empty; records already held for release stay (R223). -/
def State.loadDeep (s : State) (d : DeepCfg) : State :=
  let old := s.deep
  let s := { s with deep := { held := old.held, lastResult := old.lastResult, refresh := old.refresh, hot := old.hot,
                              lastWindow := old.lastWindow } }
  let s := if d.k = 0 then s
    else
      let s := ((s.wr OD.DSLOT_LOG 0 d.k).wr OD.DSLOT_CYC 0 (2 ^ d.k * s.tickdiv)).wr OD.REF_SPACING 0 d.refSpacing
      let s := (s.wr OD.REF_LEN 0 d.refLen).wr OD.CAND_BUDGET 0 d.candBudget
      s.wr OD.DELIVER_OFS 0 d.deliverOfs
  streams.foldl (fun s st => s.wr OD.HIST_LEN st
    (match d.rlog.find? fun p => decide (p.1 = st) with
     | some p => 2 ^ p.2
     | none => 0)) s

/-- Adaptation groups at their baselines, with the image's parameters (R226, R244, R247). -/
def State.loadAdapt (s : State) (gs : List AdaptCfg) : State :=
  let s := { s with groups := [] }
  let s := s.wr OD.ADAPT_GROUPS 0 gs.length
  (List.range gs.length).foldl (fun s g =>
    let c := gs.getD g {}
    let s := (s.wr OD.GRP_SEED g c.seed).wr OD.ENV_STEP g c.envStep
    let s := (s.wr OD.ENV_DRIFT g c.envDrift).wr OD.ENV_MODE g c.envMode
    s.wr OD.SAT_ROLL_THRESH g c.satRoll) s

/-- HBM_INIT data, copied into its regions (R164). -/
def State.loadHbm (s : State) (slot : Nat) (l : List (Nat × Nat × List Byte)) : State :=
  l.foldl (fun s h => s.hbmWrites ((regionOf s.inForceRd h.1 slot).1 + h.2.1) h.2.2) s

/-- The viaduct, in the order of OD 2041, whose channel a truss port of a logical cluster drives (R142, R158). -/
def State.viaOf (s : State) (l port : Nat) : Option Nat :=
  (s.clusterAt (l % 16) (l / 16)).bind fun c =>
    match s.trussEnd c port with
    | .viaduct via _ _ => some via
    | .hub => some (4 + c / 64)
    | _ => none

/-- Lanes reserved on a viaduct, summed over its channels (R158). -/
def State.fastLanes (s : State) (c : ImageContent) (via : Nat) : Nat :=
  c.reserved.countP fun r => decide (s.viaOf r.1 r.2.1 = some via)

/-- What the entries declare of the image that is now active (R34, R52, R114, R158). -/
def State.declareImage (s : State) (slot : Nat) (c : ImageContent) : State :=
  let p := s.imgP slot
  let pc := s.img slot 30 2
  let s := ((s.wr OD.TICKDIV_MIN 0 (s.imgTickMin slot)).wr OD.LAT_P 0 p).wr OD.LAT_PCRIT 0 pc
  let s := ((s.wr OD.LAT_SLACK 0 (p - pc)).wr OD.LAT_CLASS_IMG 0 (s.img slot 18 1)).wr OD.LAYER_COUNT 0 (s.img slot 104 2)
  let s := (s.wr OD.PORTABLE 0 (b2n (s.imgPortable slot))).wr OD.PLACE_MASK 0 s.act.mask
  let s := s.wr OD.ROLE_MASK 0 (s.moveMask slot (s.imgRole slot))
  (List.range 8).foldl (fun s i => s.wr OD.VIA_FAST_LANES i (s.fastLanes c i)) s

/-- Everything the loader writes (R164, R179). -/
def State.loadImage (s : State) (slot : Nat) : State :=
  let c := s.loadContent slot
  let hub := s.hubTables slot
  let lay := s.img slot 128 4
  let keep := decide (lay ≠ 0 ∧ lay = s.act.histLayout)
  let s := (s.loadCores c.cores).loadClusters c.clusters
  let s := ((s.loadIngest c).loadDeep c.deep).loadAdapt c.adapt
  let s := ((s.loadHbm slot c.hbmInit).declareImage slot c).applyLoad true
  { s with act.content := c, act.hub := hub, act.streamMask := s.img slot 32 8, act.features := s.imgFeatures slot, act.histLayout := lay,
           act.emptyHist := s.act.emptyHist || !keep,
           power.gates := s.power.gates.filter fun g => !(s.core g.1).loaded || decide (8192 ≤ g.1) }

/-! ### LOAD_DONE (R35, R182, R183) -/

/-- The digests over what the load phase read equal those of the slot header (R183). -/
def State.loadSound (s : State) (slot : Nat) : Bool :=
  decide (s.progDigest slot = s.rd (odProg slot) ∧ s.weightDigest slot = s.rd (odWeight slot))

/-- LOAD_DIGEST (R183). -/
def State.loadFailed (s : State) (slot : Nat) : State :=
  let s := ((s.wr (odState slot) 0 5).refuseSlot slot 2 0).wr OD.DAMP_STATE 0 6
  (s.wr OD.ACT_STATUS 0 8).raisePkg 0x0302

/-- Dies that hold a quad about to start get a load hint for the first wave (R454). -/
def State.rampHint (s : State) : State :=
  let m := (List.range 4).foldl (fun n d => n + b2n (decide (s.rd OD.DOMAIN_ON / 2 ^ (16 * d) % 65536 ≠ 0)) * 2 ^ d) 0
  { s with power.hints := s.power.hints ++ [(m, s.nextDrone)] }

/-- LOAD_DONE: the load phase ends, and what the slot's bytes hold runs (R182, R183); a corrected HBM error is counted, one that
is not ends the load; a Damp with TICKIN_EN waits for an edge (R35). -/
def execLoadDone (ecc : Ecc) (s : State) : Answer :=
  let slot := s.act.slot
  if s.rd OD.DAMP_STATE ≠ 4 then .next s
  else
    let s := s.hbmRead ecc
    if ecc = .uncorrected ∨ ¬ s.loadSound slot then .next (s.loadFailed slot)
    else
      let s := (s.loadImage slot).rampHint
      let s := ((s.wr (odState slot) 0 4).wr OD.ACTIVE_SLOT 0 slot).wr OD.DAMP_STATE 0 5
      let wait := decide (s.rd OD.TICKIN_EN = 1 ∧ s.act.hard = false ∧ s.rd OD.ROLE ≠ 1)
      .next { s with act.loadDone := true, act.waves := [],
                     clock.tickinWait := if wait then some s.now else none }

/-! ### The launch ramp (R190) -/

/-- Quads of a die that are powered, in ascending index. -/
def State.poweredQuads (s : State) (d : Nat) : List Nat :=
  (List.range 16).filter fun q => bit (s.rd OD.DOMAIN_ON) (16 * d + q)

/-- Power domains of the quads in a wave. -/
def State.waveQuads (s : State) (w : Nat) : List Nat :=
  (List.range 4).flatMap fun d =>
    let qs := s.poweredQuads d
    ((List.range qs.length).filter fun i => decide (i % 8 = w)).map fun i => 16 * d + qs.getD i 0

/-- Cycle by which the last record of the old configuration is released (R177). -/
def State.lastOldRelease (s : State) : Nat :=
  s.decisions.foldl (fun m p =>
    (p.2.flights.foldl (fun m f => max m (f.deadline + s.tickdiv - 1)) m) |> max ((p.2.released.headD ({}, 0, 0)).2.1)) 0

/-- Cycle of the boundary that the ramp is timed to end at: ACT_RESUME_AT where it is given, else the first that the whole ramp and
the old records allow (R177, R190). -/
def State.rampEnd (s : State) : Nat :=
  let full := 8 * s.rd OD.RAMP_STEP
  if s.act.resumeAt ≠ 0 then s.nextBoundary + (s.act.resumeAt - s.nextDrone) * s.tickdiv
  else
    let need := max (s.now + full) (s.lastOldRelease + 1 - (12 + s.rd OD.LAT_P))
    s.nextBoundary + ceilDiv (need - s.nextBoundary) s.tickdiv * s.tickdiv

/-- Start of wave 0: eight steps before the end of the ramp; at once where that has passed. -/
def State.rampStart (s : State) : Nat := max s.now (s.rampEnd - 8 * s.rd OD.RAMP_STEP)

/-- RAMP_WAVE: wave `w` starts its quads at T_r − (8 − w) × RAMP_STEP, once the load has ended and no TICKIN edge is waited for
(R190). -/
def execRampWave (wave : Fin 8) (s : State) : Answer :=
  let w := wave.val
  if s.rd OD.DAMP_STATE ≠ 5 ∨ s.act.waves.length ≠ w ∨ s.clock.tickinWait.isSome then .next s
  else
    let s := if w = 0 then { s with act.ramp0 := s.rampStart } else s
    let s := s.advanceTo (s.act.ramp0 + w * s.rd OD.RAMP_STEP)
    let qs := s.waveQuads w
    .next { s with act.waves := s.act.waves ++ [w],
                   power.gates := s.power.gates.filter fun g => !(qs.contains (g.1 - 8192) && decide (8192 ≤ g.1)) }

/-! ### The resume tick (R177, R178, R181) -/

/-- Release of the last record of the old configuration lies before a cycle. -/
def State.oldReleasedBefore (s : State) (c : Nat) : Bool := decide (s.lastOldRelease < c)

/-- The window of a tick already holds a part with PART 255 (R177, R320). -/
def State.windowFull (s : State) (tick : Nat) : Bool :=
  decide (s.audit.lastWin = some (windowOf tick) ∧ s.audit.lastPart = 255)

/-- The next tick boundary may be T_r (R177). -/
def State.resumeReady (s : State) : Bool :=
  decide (s.rd OD.DAMP_STATE = 5 ∧ s.act.waves.length = 8 ∧ s.act.missed = false ∧ s.clock.tickinWait = none) &&
  decide (s.act.ramp0 + 8 * s.rd OD.RAMP_STEP ≤ s.nextBoundary) &&
  decide (s.act.resumeAt = 0 ∨ s.act.resumeAt = s.nextDrone) &&
  s.oldReleasedBefore (s.nextBoundary + 12 + s.rd OD.LAT_P) && !s.windowFull s.nextDrone

/-- A seal number as SEAL_SEL writes it: WIN, WRAP, PART (R337). -/
def sealNumber (win part : Nat) : Nat := win % 2 ^ 48 + part % 256 * 2 ^ 48

/-- Value of the recording's SEAL entry of a part (R336). -/
def State.recordedSeal (s : State) (win part : Nat) : Option Nat :=
  let at_ (h : Nat × Nat × Nat × Nat) (o n : Nat) : Nat := leNat (s.hbm.reads (s.replayBase + h.1 + 16 + o) n)
  (s.tape.held.find? fun h => decide (h.2.2.1 = 8 ∧ at_ h 0 8 = sealNumber win part)).map fun h => at_ h 8 32

/-- A replayed part is judged against its SEAL entry, whose PREV comes from the recording; whether it was the first of its
chain the recording does not say, so either value of SFLAGS[2] agrees (R322, R336). -/
def State.sealReplay (s : State) (p : Part) : State :=
  let value (fresh : Bool) : Nat := leNat (sha256 (p.body s.tape.prev fresh))
  match s.recordedSeal p.win p.part with
  | none => s
  | some r =>
    let s := { s with tape.prev := r }
    if value false = r ∨ value true = r then s
    else
      let s := if bit (s.rd OD.REPLAY_MISMATCH) 56 then s
        else s.wr OD.REPLAY_MISMATCH 0 (sealNumber p.win p.part + 2 ^ 56)
      s.raisePkg 0x0802

/-- Every part closed and not yet sealed in a replay is judged now. -/
def State.judgeClosed (s : State) : State :=
  let ps := s.audit.closed
  ps.foldl State.sealReplay { s with audit.closed := [] }

/-- A replay begins at this resume tick: the replay count becomes the anchor's T_r. A later ANCHOR gives the PREV of the part
that follows it (R334, R336). -/
def State.beginReplay (s : State) : State :=
  let a := s.anchorAt s.tape.rdPtr
  if s.tape.starting then
    { s with tape.starting := false, tape.replaying := true, tape.count := (a.tr + 2 ^ 64 - 1) % 2 ^ 64, tape.prev := a.prev,
             tape.ownWin := s.audit.lastWin, tape.ownPart := s.audit.lastPart }
  else if s.tape.replaying then
    let s := s.judgeClosed
    { s with tape.prev := a.prev }
  else s

/-- The activation's event (R181, R323): of the device's own activation, or of the one a replay repeats. -/
def State.activationEvent (s : State) : AudEvent :=
  let slot := s.act.slot
  let a : AnchorRec :=
    if s.tape.replaying then s.anchorAt s.tape.rdPtr
    else { slot := slot, seq := s.rd (odSeq slot), prog := 0, weight := 0, mode := b2n s.act.hard, ts := s.act.ts,
           tr := s.nextDrone, prev := 0, strict := 0 }
  { etype := 1, tick := a.ts,
    payload := leBytes 1 a.slot ++ leBytes 4 a.seq ++ leBytes 1 a.mode ++ leBytes 6 (a.tr % 2 ^ 48) }

/-- A recording that was armed starts, and every activation of a recording is an anchor (R328, R330). -/
def State.anchor (s : State) : State :=
  let s := if bits (s.rd OD.REC_STATE) 0 3 = 1 then
      { s with tape.ptr := 4096, tape.held := [], tape.waiting := [], act.emptyHist := true }.setRecState 2 0
    else s
  if s.recording then
    let slot := s.act.slot
    let a : AnchorRec :=
      { slot := slot, seq := s.rd (odSeq slot), prog := s.runProg, weight := s.runWeight, mode := b2n s.act.hard,
        ts := s.act.ts, tr := s.nextDrone, prev := s.prevAfterClosed, strict := s.rd OD.STRICT }
    let s := s.recQueue { rtype := 1, tick := s.nextTick, payload := a.bytes }
    (s.anchorWrites s.nextTick).foldl State.recQueue s
  else s

/-- Ingest units, decision units and the counts that run since activation, at T_r (R111, R114, R224, R247, R266, R286, R289); the first
drift window has number 0 (log entry 146). -/
def State.freshStreams (s : State) : State :=
  let s := streams.foldl (fun s st => s.updIng st fun i =>
    { i with comps := [], needReset := true, firstFrame := true, learn := decide (s.rd OD.ALIGN_MODE st = 1) }) s
  let calm (_ : Nat) (d : Decide) : Decide := { d with buffer := [], substituted := [] }
  let s := { s with decisions := SMap.mapVals {} calm s.decisions, act.driftWin := 0, act.driftAt := some s.nextTick, act.satSeen := [], act.driftSeen := [] }
  s.clrEntries [OD.LAYER_SAT_WIN, OD.LAYER_SAT_TOTAL, OD.IQ_SAT, OD.DRIFT_TOTAL, OD.DRIFT_LAST, OD.DSLOT_COUNT, OD.HIST_WRITTEN,
    OD.GRP_SWAPS, OD.ROLLBACK_COUNT, OD.GRP_PERIOD]

/-- Admission resumes at the next tick boundary (R177 to R181). -/
def State.resume (s : State) : State :=
  let s := s.anchor.beginReplay
  let t := s.nextTick
  let s := s.freshStreams
  let s := { s with act.admitOn := true, act.running := true, act.tr := t, act.barred := s.act.barred && s.act.hard,
                    act.waves := [], deep.startTick := t, deep.start := s.nextBoundary }
  let s := ((s.wr OD.RESUME_LAST 0 s.nextDrone).wr OD.ACT_STATUS 0 3).wr OD.DAMP_STATE 0 0
  let s := (s.openPart t true).auditEvent s.activationEvent
  let s := if s.act.emptyHist then { s.validFrom t with act.emptyHist := false } else s
  (streams.filter fun st => decide (s.rd OD.SEG_COUNT st ≠ 0 ∧ s.rd OD.CAPT_AUTOARM st = 1)).foldl
    (fun s st => s.armAt st t) s

/-- RESUME_TICK (R177). -/
def execResumeTick (s : State) : Answer := if s.resumeReady then .next s.resume else .next s

/-- ACT_RESUME_AT has come and the device is not ready at it (R177, R320). -/
def State.launchLate (s : State) : Bool :=
  decide (1 ≤ s.rd OD.DAMP_STATE ∧ s.rd OD.DAMP_STATE ≤ 5) &&
  decide (s.act.resumeAt ≠ 0 ∧ s.act.missed = false ∧ s.act.resumeAt ≤ s.nextDrone) && !s.resumeReady

/-- The device stays paused until a new ACT_RESUME_AT is written. -/
def State.missLaunch (s : State) : State :=
  let s := { s with act.missed := true }
  (s.wr OD.ACT_STATUS 0 6).raisePkg 0x0303

/-- LAUNCH_MISSED (R177). -/
def execLaunchMissed (s : State) : Answer := if s.launchLate then .next s.missLaunch else .next s

/-! ### The epoch sweep (R189) -/

/-- Tokens of the current epoch in a table of queues. -/
def sweepQueues (e : Nat) (m : SMap (List Tok)) : SMap (List Tok) :=
  SMap.mapVals [] (fun _ q => q.filter fun t => decide (t.flit.epoch = e)) m

/-- The fabric without tokens of another epoch. -/
def Fabric.sweep (f : Fabric) (e : Nat) : Fabric :=
  let keep (q : List Tok) : List Tok := q.filter fun t => decide (t.flit.epoch = e)
  { f with routerQ := sweepQueues e f.routerQ, gateQ := sweepQueues e f.gateQ, trussQ := sweepQueues e f.trussQ,
           viaQ := sweepQueues e f.viaQ, hubQ := sweepQueues e f.hubQ, localQ := sweepQueues e f.localQ,
           deckQ := sweepQueues e f.deckQ, recordsOut := f.recordsOut.filter (fun r => decide (r.epoch = e)),
           cores := SMap.mapVals {} (fun _ (c : Core) => { c with fifoC := keep c.fifoC, fifoD := keep c.fifoD,
                                                                  out := c.out.filter (fun t => decide (t.2.2.flit.epoch = e)) }) f.cores }

/-- EPOCH_SWEEP: at its cycle, once per hard retune. `found` covers queues the model does not hold. -/
def execEpochSweep (found : Bool) (s : State) : Answer :=
  match s.act.sweepAt with
  | none => .next s
  | some c =>
    let s := s.advanceTo c
    let f := s.fabric.sweep s.epoch
    let stuck := found || decide (f ≠ s.fabric)
    let s := { s with fabric := f, act.sweepAt := none, act.barred := s.act.barred || stuck }
    .next (if stuck then s.raisePkg 0x0304 else s)

end Sys2Proof.Machine
end

