-- ==== Sys2Proof/Machine/Audit.lean ====
section
/-! DEFINITION. The audit sealer's windows and seals (R319 to R327) and the recorder's commands (R328 to R332); what a
replay compares (R336). -/

namespace Sys2Proof.Machine

/-! ### Activations that are due (R176) -/

/-- An activation due at the next tick boundary starts (R176). -/
def State.startDue (s : State) : State :=
  match s.act.pending with
  | some a => if a.at_ ≤ s.nextDrone then s.startActivation a else s
  | none => s

/-! ### Seals (R322 to R327, R336) -/

/-- Bytes of a seal-log entry. -/
def SealEntry.size (e : SealEntry) : Nat := e.body.length + 32

/-- The log keeps 16 MiB; overwritten seals that were not read are counted (R327). -/
def State.trimLog : Nat → State → State
  | 0, s => s
  | n + 1, s =>
    match s.audit.log with
    | [] => s
    | e :: es =>
      if s.audit.log.foldl (fun t x => t + x.size) 0 ≤ 2 ^ 24 then s
      else
        let s := { s with audit.log := es }
        State.trimLog n (if e.read then s else s.inc OD.SEAL_LOG_OVR 0)

/-- A part is sealed into the device's chain and log, and its SEAL entry is recorded (R322, R324, R327, R330). -/
def State.sealChain (s : State) (p : Part) : State :=
  let body := p.body s.chainPrev (!s.audit.made)
  let v := leNat (sha256 body)
  let e : SealEntry := { win := p.win, part := p.part, body := body, value := v }
  let s := { s with audit.prev := v, audit.made := true, audit.log := s.audit.log ++ [e] }
  let s := State.trimLog s.audit.log.length s
  let s := s.wr OD.SEAL_LAST 0 (v + p.win % 2 ^ 48 * 2 ^ 256 + p.part * 2 ^ 304)
  s.recQueue { rtype := 8, tick := p.last.getD p.start, payload := leBytes 8 (sealNumber p.win p.part) ++ leBytes 32 v }

/-- The oldest closed part is sealed, or in a replay judged. -/
def State.sealOldest (s : State) : State :=
  match s.audit.closed with
  | [] => s
  | p :: ps =>
    let s := { s with audit.closed := ps }
    if s.tape.replaying then s.sealReplay p else s.sealChain p

/-- Every closed part. -/
def State.sealAll (s : State) : State := s.audit.closed.foldl (fun s _ => s.sealOldest) s

/-- SEAL_COMPLETE. -/
def execSealComplete (s : State) : Answer := .next s.sealOldest

/-! ### Window boundaries (R319, R320) -/

/-- The part in progress ends with its window, and part 0 of the next window opens while admission is on. The parts closed before,
which are sealed within 2^16 cycles of their end, have been sealed by then (R323). -/
def State.windowBoundary (s : State) : State :=
  match s.audit.cur with
  | some p => if p.win = windowOf s.nextTick then s else (s.sealAll.closePart false).openPart s.nextTick false
  | none => s

/-- AUDIT_WINDOW_BOUNDARY: at a tick that is a multiple of 65,536. -/
def execAuditWindowBoundary (s : State) : Answer :=
  if s.clock.running ∧ s.nextTick % 65536 = 0 then .next s.startDue.windowBoundary else .next s

/-! ### SEAL_EN (R325) -/

/-- Physical presence holds (R423). -/
def State.presenceHolds (s : State) : Bool :=
  !s.lic.sealLatched && (!s.lic.presentN || s.lic.windowEnd.elim false fun t => decide (s.tcount < t))

/-- SEAL_EN_WRITE: an Expert entry, of which writing 0 needs presence (R325, R373, R424). -/
def execSealEnWrite (value : Bool) (s : State) : Answer :=
  if ¬ s.hostMay ∨ s.rd OD.EXPERT_EN = 0 ∨ (value = false ∧ ¬ s.presenceHolds) then .next s
  else .next ((s.noteWrites [(OD.SEAL_EN, 0, b2n value)]).wr OD.SEAL_EN 0 (b2n value))

/-! ### Recorder commands (R328, R331) -/

/-- Record and replay is licensed (R3, R416). -/
def State.recLicensed (s : State) : Bool := bit s.lic.features 2

/-- REC_CMD = 1 (R328). -/
def State.recArm (s : State) : State :=
  let st := bits (s.rd OD.REC_STATE) 0 3
  if s.recLicensed ∧ (st = 0 ∨ st = 3) ∧ ¬ s.tape.replaying ∧ ¬ s.faults.safe then s.setRecState 1 0 else s

/-- REC_CMD = 2: a recording ends at the next tick boundary, an armed recorder goes back to idle (R328). -/
def State.recStop (s : State) : State :=
  if s.recording then { s with tape.stopDue := true }
  else if bits (s.rd OD.REC_STATE) 0 3 = 1 then s.setRecState 0 0 else s

/-- REC_ARM, REC_STOP. -/
def execRecArm (s : State) : Answer :=
  if ¬ s.host.ready then .next s else .next (s.noteWrites [(OD.REC_CMD, 0, 1)]).recArm
def execRecStop (s : State) : Answer :=
  if ¬ s.host.ready then .next s else .next (s.noteWrites [(OD.REC_CMD, 0, 2)]).recStop

/-- REC_OVERRUN: the recording ends at the last tick whose entries are complete (R331). -/
def execRecOverrun (s : State) : Answer :=
  if s.recording then
    let s := { s with tape.waiting := [] }
    .next ((s.endRecording (s.rd OD.REC_LAST) 3).raisePkg 0x0801)
  else .next s

end Sys2Proof.Machine
end

