-- ==== Sys2Proof/Machine/Girder.lean ====
section
/-! DEFINITION. The Girder agent: frames and links (R344 to R347), join, leave and the roster (R348 to R353), link delay and
SYNC (R354 to R359), time bases and the servo (R363 to R367), loss and holdover (R368). Launches and dictionary frames
stand in Machine/GirderOd.lean. -/

namespace Sys2Proof.Machine

/-! ### Roles, ports, frames (R339 to R347) -/

/-- Role of the device (R339): 0 standalone, 1 worker, 2 manager. -/
def State.isWorker (s : State) : Bool := decide (s.rd OD.ROLE = 1)
def State.isManager (s : State) : Bool := decide (s.rd OD.ROLE = 2)

/-- A manager answers Girder frames only while a licence enables the role (R340). -/
def State.managing (s : State) : Bool := s.isManager && bit s.lic.features 5

/-- The worker's agent is in a state of R348. -/
def State.agent (s : State) : Nat := s.rd OD.GIRDER_STATE

/-- Frame types that are reliable (R345). -/
def reliable (typ : Nat) : Bool := [2, 3, 4, 5, 6, 0x20, 0x21, 0x30, 0x31, 0x40, 0x41].contains typ

/-- Frame types of R345; any other is a bad frame. -/
def frameTypes : List Nat := [1, 2, 3, 4, 5, 6, 0x10, 0x11, 0x12, 0x20, 0x21, 0x30, 0x31, 0x40, 0x41, 0x7F]

/-- Types that come down the tree, on a worker's upstream port, and types that come up it, on a DOWN port (R345). -/
def downTypes : List Nat := [3, 4, 0x10, 0x12, 0x20, 0x30, 0x40]
def upTypes : List Nat := [2, 5, 6, 0x11, 0x21, 0x31, 0x41]

/-- What the header of a frame that leaves says of its way: sender, destination, links passed (R344). -/
structure Via where
  src : Option Nat := none
  dst : Option Nat := none
  hops : Nat := 1
  deriving DecidableEq, Repr

/-- A relayed frame keeps its sender and destination, and has passed one link more (R344, R347). -/
def relayVia (rx : GFrame) : Via := { src := some rx.src.toNat, dst := some rx.dst.toNat, hops := rx.hops.toNat + 1 }

/-- Destination where the sender names none: all members below for what every one takes, the manager for what goes up, the
neighbour on the link for the rest (R344, R345; log entry 150). -/
def frameDst (typ : Nat) : Nat :=
  if typ = 1 ∨ typ = 0x10 ∨ typ = 0x20 then 0xFFFF else if upTypes.contains typ ∧ typ ≠ 0x11 then 0 else 0xFFFE

/-- Bytes of a frame: header, payload and the CRC-32 over both (R344). -/
def State.frameBytes (s : State) (typ lseq : Nat) (v : Via) (payload : List Byte) : List Byte :=
  let h := leBytes 1 typ ++ leBytes 1 (b2n (reliable typ)) ++ leBytes 2 (v.src.getD (s.rd OD.NODE_ADDR)) ++
    leBytes 2 (v.dst.getD (frameDst typ)) ++ leBytes 2 lseq ++ leBytes 2 payload.length ++ leBytes 1 v.hops ++ leBytes 5 0
  h ++ payload ++ leBytes 4 (crc32 (h ++ payload))

/-- A frame leaves on a port; a reliable one is held until it is acknowledged (R344, R346). -/
def State.sendFrame (s : State) (p typ : Nat) (payload : List Byte) (v : Via := {}) : State :=
  let q := if reliable typ then (s.port p).txSeq else 0
  let w := s.frameBytes typ q v payload
  s.updPort p fun g =>
    let g := { g with sent := some (typ, payload), wire := w }
    if reliable typ then { g with unacked := g.unacked ++ [(q, w)], txSeq := (q + 1) % 2 ^ 16 } else g

/-- Ports in a state of PORT_STATE (R341). -/
def State.portsIn (s : State) (st : Nat) : List Nat := (List.range 4).filter fun p => decide (s.rd OD.PORT_STATE p = st)

/-- A frame goes to every DOWN port, or up (R347). -/
def State.sendDown (s : State) (typ : Nat) (payload : List Byte) (v : Via := {}) : State :=
  (s.portsIn 3).foldl (fun s p => s.sendFrame p typ payload v) s
def State.sendUp (s : State) (typ : Nat) (payload : List Byte) (v : Via := {}) : State :=
  match s.girder.upstream with
  | some p => s.sendFrame p typ payload v
  | none => s

/-- Eight bytes of zeros stand before fields that R345 places at byte 8 of a payload. -/
def addrPayload (addr : Nat) : List Byte := List.replicate 8 0 ++ leBytes 2 addr

/-! ### The roster (R352, R353) -/

def State.roster (s : State) (a : Nat) : RosterEnt := SMap.get {} s.girder.roster a

/-- A roster entry changes (R353). -/
def State.setRoster (s : State) (a : Nat) (e : RosterEnt) : State :=
  let s := { s with girder.roster := SMap.set {} s.girder.roster a { e with changed := s.drone % 2 ^ 48 } }
  let s := s.wr OD.ROSTER_GEN 0 ((s.rd OD.ROSTER_GEN + 1) % 2 ^ 32)
  let s := s.wr OD.ROSTER_COUNT 0 (s.girder.roster.countP fun p => decide (p.2.state = 1))
  s.raisePkg 0x0902 a

/-- Addresses joined below an address, itself first; a tree has at most 8 levels below the manager. -/
def State.subtree (s : State) (a : Nat) : Nat → List Nat
  | 0 => [a]
  | n + 1 =>
    let kids := (s.girder.roster.filter fun p => decide (p.2.parent = a ∧ p.2.state = 1 ∧ p.1 ≠ a)).map Prod.fst
    a :: kids.flatMap fun k => s.subtree k n

/-- A member and every address below it depart: LEFT or LOST (R352), their addresses reserved (R350). -/
def State.depart (s : State) (a how : Nat) : State :=
  let l := (s.subtree a 8).filter fun k => decide ((s.roster k).state = 1)
  l.foldl (fun s k =>
    let st := if k = a then how else 3
    s.setRoster k { s.roster k with state := st, freedAt := s.tcount, reserved := true, missed := 0 }) s

/-! ### Links (R346, R368) -/

/-- TB0 goes on at the last rate: the servo is in holdover (R366). -/
def State.enterHoldover (s : State) : State :=
  if s.rd OD.TB_MODE 0 = 1 ∧ s.rd OD.SERVO_STATE ≠ 2 then (s.wr OD.SERVO_STATE 0 2).raisePkg 0x0905 else s

/-- The worker has lost its path to the manager and keeps its reference (R348, R368). -/
def State.orphan (s : State) : State :=
  if 2 ≤ s.agent ∧ s.agent ≤ 5 then (s.wr OD.GIRDER_STATE 0 6).enterHoldover else s

/-- Addresses reached through a port. -/
def State.behind (s : State) (p : Nat) : List Nat := (s.girder.routes.filter fun r => decide (r.2 = p + 1)).map Prod.fst

/-- A parent reports, or on the manager notes, the members lost with a port (R352). -/
def State.subtreeLost (s : State) (p : Nat) : State :=
  let l := s.behind p
  let s := { s with girder.routes := s.girder.routes.filter fun r => decide (r.2 ≠ p + 1) }
  if s.isManager then l.foldl (fun s a => if (s.roster a).state = 1 then s.depart a 3 else s) s
  else l.foldl (fun s a => s.sendUp 5 (addrPayload a ++ leBytes 1 2)) s

/-- A port is declared down: GIRDER_LINK_DOWN (R346, R370), and what R368 makes of it. -/
def State.portDown (s : State) (p : Nat) : State :=
  let s := (s.wr OD.PORT_STATE p 5).inc OD.LINK_DOWNS p
  let s := s.updPort p fun g => { g with unacked := [], resends := 0 }
  let s := s.raisePkg 0x0901 p
  if s.girder.upstream = some p then s.orphan else s.subtreeLost p

/-- The frames not acknowledged are sent again; after 8 resends of one frame the port is down (R346). -/
def State.resend (s : State) (p : Nat) : State :=
  let g := s.port p
  if g.unacked = [] then s
  else if 8 ≤ g.resends then s.portDown p
  else (s.updPort p fun g => { g with resends := g.resends + 1 }).inc OD.RESENDS p (min 16 g.unacked.length)

/-- What stays unacknowledged after LSEQ up to and including `q`. -/
def afterAck (l : List (Nat × List Byte)) (q : Nat) : List (Nat × List Byte) :=
  match (l.take 16).findIdx? fun f => decide (f.1 = q) with
  | some k => l.drop (k + 1)
  | none => l

/-- A LINK_ACK: the highest LSEQ received in order, and whether a frame was missed (R345, R346). -/
def State.sendAck (s : State) (p : Nat) (nak : Bool) : State :=
  s.sendFrame p 0x7F (leBytes 2 (((s.port p).rxSeq + 2 ^ 16 - 1) % 2 ^ 16) ++ leBytes 1 (b2n nak))

/-- A port takes frames of a type: it is up, a BLOCKED one only for beacons, on the side of the tree that the type comes from; a
manager without a licence and a worker that has left answer none (R340, R341, R345, R348). -/
def State.portTakes (s : State) (p typ : Nat) : Bool :=
  let st := s.rd OD.PORT_STATE p
  decide (2 ≤ st ∧ st ≤ 4) && (decide (st ≠ 4) || decide (typ = 1)) &&
    (if downTypes.contains typ then decide (s.girder.upstream = some p) else if upTypes.contains typ then decide (st = 3) else true) &&
    (if s.isManager then s.managing else decide (s.isWorker = true ∧ s.agent ≠ 7))

/-- A frame comes in on a port. One that fails its CRC, or is of no type of R345, is discarded and counted; a reliable one out of
order is discarded, and answered with a NAK where frames are missing and with the acknowledgement again where it has been received
before (R344 to R346; log entry 150). The second part says whether it goes on to its meaning. -/
def State.frameIn (s : State) (rx : GFrame) (typ : Nat) : State × Bool :=
  let p := rx.port.val
  if ¬ s.portTakes p typ then (s, false)
  else if ¬ rx.crcOk then ((s.inc OD.PORT_CRC_ERR p).sendAck p true, false)
  else if ¬ frameTypes.contains rx.typ.toNat then (s.inc OD.BAD_FRAME p, false)
  else if rx.typ.toNat ≠ typ then (s, false)
  else if ¬ reliable typ then (s, true)
  else
    let q := (s.port p).rxSeq
    if rx.lseq.toNat = q then ((s.updPort p fun g => { g with rxSeq := (q + 1) % 2 ^ 16 }).sendAck p false, true)
    else (s.sendAck p (serialGreater rx.lseq.toNat q), false)

/-- A frame with its meaning. -/
def State.onFrame (s : State) (rx : GFrame) (typ : Nat) (f : State → State) : Answer :=
  let r := s.frameIn rx typ
  .next (if r.2 then f r.1 else r.1)

/-- LINK_ACK (R346). -/
def State.linkAck (s : State) (p lseq : Nat) (nak : Bool) : State :=
  let s := s.updPort p fun g =>
    let u := afterAck g.unacked lseq
    { g with unacked := u, resends := if u.length < g.unacked.length then 0 else g.resends }
  if nak then s.resend p else s

def execLinkAck (rx : GFrame) (lseq : Word16) (nak : Bool) (s : State) : Answer :=
  s.onFrame rx 0x7F fun s => s.linkAck rx.port lseq.toNat nak

/-- RESEND_TIMEOUT: 20 µs without an acknowledgement (R346). -/
def execResendTimeout (port : Fin 4) (s : State) : Answer := .next (s.resend port)

/-- GIRDER_PORT_LOCK: a receiver locks and its port leaves TRAINING (R341); a port that had failed serves again. Its sequence
numbers start anew (log entry 150). -/
def execGirderPortLock (port : Fin 4) (s : State) : Answer :=
  let p := port.val
  let st := s.rd OD.PORT_STATE p
  if st = 1 ∨ st = 5 then
    let s := s.wr OD.PORT_STATE p (if s.girder.upstream = some p then 2 else 3)
    let s := s.updPort p fun g => { g with txSeq := 0, rxSeq := 0 }
    .next { s with girder.locked := if s.girder.locked.contains p then s.girder.locked else p :: s.girder.locked }
  else .next s

/-- GIRDER_PORT_LOSS_OF_LOCK: a downstream port loses signal or lock (R368, R370). -/
def execGirderPortLossOfLock (port : Fin 4) (s : State) : Answer :=
  let p := port.val
  let st := s.rd OD.PORT_STATE p
  if st = 3 ∨ st = 4 then
    let s := { s with girder.locked := s.girder.locked.filter fun q => decide (q ≠ p) }
    .next (s.portDown p)
  else .next s

/-! ### Beacons and joins (R343, R345, R348 to R351) -/

/-- BEACON_SEND: a licensed manager sends a beacon on its DOWN and BLOCKED ports (R340, R341, R345). -/
def execBeaconSend (s : State) : Answer :=
  if ¬ s.managing then .next s
  else
    let pay := leBytes 4 (s.rd OD.DOMAIN_ID) ++ leBytes 8 (s.fuse 32 64) ++ leBytes 4 (s.rd OD.ROSTER_GEN) ++
      leBytes 1 (s.rd OD.JOIN_EN)
    let s := (s.portsIn 3 ++ s.portsIn 4).foldl (fun s p => s.sendFrame p 1 pay) s
    .next { s with girder.beacons := s.girder.beacons + 1 }

/-- The worker's own JOIN_REQ. -/
def State.ownJoin (s : State) : JoinInfo :=
  { serial := s.fuse 32 64, grade := s.grade, stepping := s.fuse 96 8, latClass := s.fuse 106 4, fwVerified := s.boot.verified,
    pcieUp := decide (bits (s.rd OD.PCIE_LINK) 0 8 ≠ 0), running := s.act.running, held := s.rd OD.NODE_ADDR }

/-- A join starts: a running configuration first makes a reference-loss stop (R349, R368); the reference becomes the
upstream port's (R342). -/
def State.startJoin (s : State) : State :=
  match s.girder.upstream with
  | none => s
  | some p =>
    let s := if s.act.running ∧ s.rd OD.REF_SRC ≠ 2 + p then s.refLossStop else s
    let s := (s.wr OD.REF_SRC 0 (2 + p)).wr OD.GIRDER_STATE 0 2
    let s := { s with girder.joinWanted := false }
    s.sendFrame p 2 s.ownJoin.bytes

/-- A worker takes a port as upstream: none is chosen yet, or the one it had is lost (R343, R348). -/
def State.mayTakeUpstream (s : State) (p : Nat) : Bool :=
  match s.girder.upstream with
  | none => true
  | some u => decide (u ≠ p ∧ s.agent = 6 ∧ s.rd OD.PORT_STATE u ≠ 2)

/-- A beacon from the upstream port (R343, R345, R348). -/
def State.upstreamBeacon (s : State) (domain mgr gen hops : Nat) (joins : Bool) : State :=
  let s := (s.wr OD.DOMAIN_ID 0 domain).wr OD.ROSTER_GEN 0 gen
  let s := { s with girder.hopsIn := hops, girder.mgrSerial := mgr }
  let s := (s.portsIn 3 ++ s.portsIn 4).foldl (fun s p => s.sendFrame p 1
    (leBytes 4 domain ++ leBytes 8 mgr ++ leBytes 4 gen ++ leBytes 1 (b2n joins)) { src := some 0, hops := hops + 1 }) s
  if s.agent = 6 ∨ (s.agent = 1 ∧ (s.rd OD.AUTO_JOIN = 1 ∨ s.girder.joinWanted)) then s.startJoin else s

/-- BEACON (R343). -/
def State.beacon (s : State) (p domain mgr gen hops : Nat) (joins : Bool) : State :=
  if ¬ s.isWorker then s
  else
    let s := if s.mayTakeUpstream p then { s with girder.upstream := some p }.wr OD.PORT_STATE p 2 else s
    if s.girder.upstream = some p then s.upstreamBeacon domain mgr gen hops joins else s.wr OD.PORT_STATE p 4

def execBeacon (rx : GFrame) (domain : Word32) (mgrSerial : Word64) (rosterGen : Word32) (joins : Bool) (s : State) : Answer :=
  s.onFrame rx 1 fun s => s.beacon rx.port domain.toNat mgrSerial.toNat rosterGen.toNat rx.hops.toNat joins

/-- The address a joining worker gets, 0 when none is free (R350). -/
def State.addressFor (s : State) (serial : Nat) : Nat :=
  let mine := s.girder.roster.find? fun e =>
    decide (e.2.serial = serial) && (decide (e.2.state = 1) ||
      decide (e.2.reserved = true ∧ s.tcount ≤ e.2.freedAt + s.rd OD.ADDR_HOLD * 1000000000))
  match mine with
  | some e => e.1
  | none =>
    let free (a : Nat) : Bool := decide ((s.roster a).state ≠ 1 ∧ (s.roster a).reserved = false)
    (((List.range 255).map (· + 1)).find? free).getD 0

/-- Why the manager refuses a JOIN_REQ, 0 when it accepts (R349); FULL too where every address that no member has is reserved for
its departed serial (R350; log entry 150). -/
def State.joinReason (s : State) (p hops : Nat) (i : JoinInfo) : Nat :=
  let members := s.girder.roster.countP fun e => decide (e.2.state = 1)
  let dup := s.girder.roster.any fun e =>
    decide (e.2.serial = i.serial ∧ e.2.state = 1 ∧ (SMap.get 0 s.girder.routes e.1 ≠ p + 1 ∨ e.2.parent ≠ i.parent))
  if 255 ≤ members ∨ s.addressFor i.serial = 0 then 1 else if 8 < hops then 2 else if dup then 3 else if s.rd OD.JOIN_EN = 0 then 4
  else if i.latClass ≠ s.fuse 106 4 then 5 else 0

/-- The next FW_DATA frame to a worker that has no verified firmware (R351). -/
def State.pushFirmware (s : State) (addr ofs : Nat) : State :=
  let p := SMap.get 0 s.girder.routes addr
  let n := min 1016 (s.rd OD.FW_IMG_SIZE - ofs)
  if p = 0 ∨ n = 0 then s
  else
    let s := { s with girder.fwPush := SMap.set 0 s.girder.fwPush addr (ofs + n + 1) }
    s.sendFrame (p - 1) 0x40 (leBytes 4 ofs ++ SMap.range 0 s.girder.fwStore ofs n) { dst := some addr }

/-- The manager answers a JOIN_REQ (R349 to R351, R353). -/
def State.answerJoin (s : State) (p hops : Nat) (i : JoinInfo) : State :=
  let why := s.joinReason p hops i
  if why ≠ 0 then s.sendFrame p 4 (leBytes 8 i.serial ++ leBytes 1 why)
  else
    let a := s.addressFor i.serial
    let old := s.roster a
    let s := s.setRoster a { serial := i.serial, grade := i.grade, stepping := i.stepping, depth := hops, parent := i.parent,
                             port := i.pport, state := 1, joins := (if old.serial = i.serial then old.joins else 0) + 1 }
    let s := { s with girder.routes := SMap.set 0 s.girder.routes a (p + 1) }
    let s := s.sendFrame p 3 (leBytes 8 i.serial ++ leBytes 2 a ++ leBytes 1 hops)
    if i.fwVerified then s else s.pushFirmware a 0

/-- JOIN_REQ: answered by the manager with the depth that its HOPS give, relayed up by a worker (R347, R349). -/
def State.joinReq (s : State) (rx : GFrame) (i : JoinInfo) : State :=
  if s.isManager then s.answerJoin rx.port rx.hops.toNat i
  else
    let s := { s with girder.pendJoin := SMap.set 0 s.girder.pendJoin i.serial (rx.port.val + 1) }
    s.sendUp 2 i.bytes (relayVia rx)

def execJoinReq (rx : GFrame) (info : JoinInfo) (s : State) : Answer := s.onFrame rx 2 fun s => s.joinReq rx info

/-- The port that the JOIN_REQ of a serial came from gets its answer. -/
def State.relayJoin (s : State) (rx : GFrame) (sn typ : Nat) (payload : List Byte) (addr : Option Nat) : State :=
  let p := SMap.get 0 s.girder.pendJoin sn
  if p = 0 then s
  else
    let s := { s with girder.pendJoin := SMap.erase s.girder.pendJoin sn,
                      girder.routes := addr.elim s.girder.routes fun a => SMap.set 0 s.girder.routes a p }
    s.sendFrame (p - 1) typ payload (relayVia rx)

/-- JOIN_ACK: to this worker, or relayed on the port its JOIN_REQ came from (R348, R349). -/
def State.joinAck (s : State) (rx : GFrame) (sn addr depth : Nat) : State :=
  if sn ≠ s.fuse 32 64 then s.relayJoin rx sn 3 (leBytes 8 sn ++ leBytes 2 addr ++ leBytes 1 depth) (some addr)
  else if s.agent ≠ 2 then s
  else
    let (parent, s) := if depth ≤ 1 then (0, s) else s.draw
    let s := ((s.wr OD.NODE_ADDR 0 addr).wr OD.DEPTH 0 depth).wr OD.PARENT_ADDR 0 (parent % 2 ^ 16)
    let s := { s with girder.measured := 0, girder.syncs := 0 }
    s.wr OD.GIRDER_STATE 0 (if s.boot.verified then 4 else 3)

def execJoinAck (rx : GFrame) (serial : Word64) (addr : Word16) (depth : Fin 256) (s : State) : Answer :=
  s.onFrame rx 3 fun s => if s.isWorker then s.joinAck rx serial.toNat addr.toNat depth else s

/-- JOIN_NAK (R348, R349). -/
def State.joinNak (s : State) (rx : GFrame) (sn reason : Nat) : State :=
  if sn ≠ s.fuse 32 64 then s.relayJoin rx sn 4 (leBytes 8 sn ++ leBytes 1 reason) none
  else if s.agent = 2 then s.wr OD.GIRDER_STATE 0 8 else s

def execJoinNak (rx : GFrame) (serial : Word64) (reason : Fin 256) (s : State) : Answer :=
  s.onFrame rx 4 fun s => if s.isWorker then s.joinNak rx serial.toNat reason else s

/-- JOIN_RETRY: JOIN_REQ again every 1 ms (R348). -/
def execJoinRetry (s : State) : Answer :=
  if s.isWorker ∧ s.agent = 2 then .next (s.sendUp 2 s.ownJoin.bytes) else .next s

/-- REFUSED_WAIT_END (R348). -/
def execRefusedWaitEnd (s : State) : Answer :=
  if s.isWorker ∧ s.agent = 8 then .next (s.wr OD.GIRDER_STATE 0 1) else .next s

/-- JOIN_CMD: a join starts at once where an upstream port is known, else with the next beacon (R348). -/
def State.joinCmd (s : State) : State :=
  if s.isWorker ∧ s.agent = 1 then
    (match s.girder.upstream with
     | some _ => s.startJoin
     | none => { s with girder.joinWanted := true })
  else s

def execJoinCmd (s : State) : Answer :=
  if ¬ s.host.ready then .next s else .next (s.noteWrites [(OD.JOIN_CMD, 0, 1)]).joinCmd

/-- LEAVE_CMD (R348, R352). -/
def State.leaveCmd (s : State) (v : Bool) : State :=
  let s := s.wr OD.LEAVE_CMD 0 (b2n v)
  if ¬ s.isWorker then s
  else if v then
    (if s.agent = 7 then s
     else (s.sendUp 5 (addrPayload (s.rd OD.NODE_ADDR) ++ leBytes 1 1)).wr OD.GIRDER_STATE 0 7)
  else if s.agent = 7 then s.wr OD.GIRDER_STATE 0 1 else s

def execLeaveCmd (value : Bool) (s : State) : Answer :=
  if ¬ s.host.ready then .next s else .next ((s.noteWrites [(OD.LEAVE_CMD, 0, b2n value)]).leaveCmd value)

/-- LEAVE (R352). -/
def execLeave (rx : GFrame) (addr : Fin 256) (orderly subtree : Bool) (s : State) : Answer :=
  let a := addr.val
  s.onFrame rx 5 fun s =>
    if s.isManager then (if (s.roster a).state = 1 then s.depart a (if orderly && !subtree then 2 else 3) else s)
    else { s with girder.routes := SMap.erase s.girder.routes a }.sendUp 5
      (addrPayload a ++ leBytes 1 (b2n orderly + 2 * b2n subtree)) (relayVia rx)

/-- HEARTBEAT (R352). -/
def execHeartbeat (rx : GFrame) (addr : Fin 256) (drone : Word32) (s : State) : Answer :=
  let a := addr.val
  s.onFrame rx 6 fun s =>
    if s.isManager then
      (if (s.roster a).state = 1 then
        { s with girder.roster := SMap.upd {} s.girder.roster a fun e => { e with missed := 0 } } else s)
    else s.sendUp 6 (addrPayload a ++ leBytes 4 drone.toNat) (relayVia rx)

/-- HEARTBEAT_SEND: a member's, every 2^23 ns (R345). -/
def execHeartbeatSend (s : State) : Answer :=
  if s.isWorker ∧ s.agent = 5 then .next (s.sendUp 6 (addrPayload (s.rd OD.NODE_ADDR) ++ leBytes 4 s.drone)) else .next s

/-- HEARTBEAT_MISSED: at the third in a row the member is LOST (R352). -/
def execHeartbeatMissed (addr : Fin 256) (s : State) : Answer :=
  let a := addr.val
  if ¬ s.managing ∨ (s.roster a).state ≠ 1 then .next s
  else
    let s := { s with girder.roster := SMap.upd {} s.girder.roster a fun e => { e with missed := e.missed + 1 } }
    .next (if 3 ≤ (s.roster a).missed then s.depart a 3 else s)

/-- ADDR_HOLD_EXPIRY: a departed serial's address is released (R350). -/
def execAddrHoldExpiry (addr : Fin 256) (s : State) : Answer :=
  let e := s.roster addr
  if e.reserved then
    .next { s with girder.roster := SMap.set {} s.girder.roster addr { e with reserved := false } }
  else .next s

/-- BEACON_WATCHDOG: no beacon for 8 ms (R368). -/
def execBeaconWatchdog (s : State) : Answer := if s.isWorker then .next s.orphan else .next s

/-! ### Link delay (R355) -/

/-- A quotient rounded half to even. -/
def divEven (x : Int) (n : Nat) : Int :=
  let q := x / (n : Int)
  let r := x - q * n
  if (n : Int) < 2 * r ∨ (2 * r = n ∧ q % 2 = 1) then q + 1 else q

/-- DELAY_MEASURE: every 16 SYNC intervals (R355). -/
def execDelayMeasure (s : State) : Answer :=
  if s.isWorker ∧ (s.agent = 4 ∨ s.agent = 5) ∧ 16 ≤ s.girder.syncs then
    let s := { s with girder.syncs := 0 }
    .next (s.sendUp 0x11 (List.replicate 12 0))
  else .next s

/-- t3 − t2 as the parent sends it: TS_ASYM corrects the ingress t2 (R354, R355). -/
def State.turnround (s : State) (p : Nat) (turn : Word64) : Nat := (turn - BitVec.ofInt 64 (s.rdI OD.TS_ASYM p)).toNat

/-- DELAY_REQ: the parent answers with t3 − t2 (R355); `turn` is the time that the timestamps give without TS_ASYM. -/
def execDelayReq (rx : GFrame) (turn : Word64) (s : State) : Answer :=
  s.onFrame rx 0x11 fun s =>
    let d := s.turnround rx.port turn
    (s.updPort rx.port fun g => { g with lastResp := d }).sendFrame rx.port 0x12 (leBytes 8 d)

/-- DELAY_RESP: t1 and t4 in 2^-16 ns (R354, R355). -/
def State.delayResp (s : State) (p : Nat) (t1 t4 : Nat) (turn : Int) : State :=
  let d2 : Int := ((t4 : Int) + s.rdI OD.TS_ASYM p - t1) - turn
  let old := (s.port p).delays
  let off := (d2 - 2 * s.rdI OD.LINK_DELAY p).natAbs
  if old ≠ [] ∧ 2 * 655360 < off then s.inc OD.DELAY_REJECT p
  else
    let ds := (d2 :: old).take 8
    let s := s.updPort p fun g => { g with delays := ds }
    let s := s.wrI OD.LINK_DELAY p (divEven (ds.foldl (· + ·) 0) (2 * ds.length))
    { s with girder.measured := s.girder.measured + 1 }

def execDelayResp (rx : GFrame) (t1 t4 : Nat) (turn : Word64) (s : State) : Answer :=
  s.onFrame rx 0x12 fun s => s.delayResp rx.port t1 t4 turn.toInt

/-! ### Time bases (R363 to R367) -/

def State.base (s : State) (k : Nat) : TimeBase := SMap.get {} s.bases k

/-- L_k at a TCOUNT in 2^-16 ns (R363), for whole and fractional nanoseconds alike. -/
def State.linear (s : State) (k : Nat) (t16 : Int) : Int :=
  (s.base k).ofs + (t16 - ((s.base k).anchor : Int) * 65536) * (2 ^ 40 + s.rdI OD.TB_RATE k) / 2 ^ 40

/-- L_k now. -/
def State.linearNow (s : State) (k : Nat) : Int := s.linear k ((s.tcount : Int) * 65536)

/-- The base is anchored at the present with an offset. -/
def State.setBase (s : State) (k : Nat) (ofs : Int) : State :=
  { s with bases := SMap.set {} s.bases k { ofs := ofs, anchor := s.tcount } }

/-- A change of rate keeps the value continuous (R364). -/
def State.setRate (s : State) (k : Nat) (r : Int) : State := (s.setBase k (s.linearNow k)).wrI OD.TB_RATE k r

/-- A TIME96 as a linear count, none when its nanoseconds are out of range (R371). -/
def linearOf (t : Nat) : Option Int :=
  if bits t 16 32 < 1000000000 then some ((t / 2 ^ 48 * 1000000000 + bits t 16 32) * 65536 + t % 65536 : Nat) else none

/-- TB_TIME is written (R364). -/
def State.tbTime (s : State) (k t : Nat) : State :=
  match linearOf t with
  | some l => s.setBase k l
  | none => s

/-- A step moves the value; one that would make it negative is refused (R364). -/
def State.tbStep (s : State) (k : Nat) (d : Int) : State :=
  if s.linearNow k + d < 0 then s else s.setBase k (s.linearNow k + d)

/-- TB_RATE is written: FREE mode, within RATE_LIMIT (R363, R365). -/
def State.tbRate (s : State) (k : Nat) (r : Int) : State :=
  if s.rd OD.TB_MODE k = 0 ∧ r.natAbs ≤ s.rd OD.RATE_LIMIT then s.setRate k r else s

/-- RATE of an increment (R367). -/
def incrRate (v : Nat) : Int := ((v : Int) - 0x01000000) * 65536

/-- TB_INCR is written (R367). -/
def State.tbIncr (s : State) (k v : Nat) : State :=
  if v < 0x00FF8001 ∨ 0x01007FFF < v then s
  else
    let s := s.wr OD.TB_INCR k v
    if s.rd OD.TB_MODE k = 2 then s.setRate k (incrRate v) else s

/-- TB_MODE is written: SERVO only for TB0 of a worker, and the manager's TB0 only FREE or INCREMENT (R365). -/
def State.tbMode (s : State) (k m : Nat) : State :=
  if 2 < m ∨ (m = 1 ∧ (k ≠ 0 ∨ ¬ s.isWorker)) then s
  else
    let s := s.wr OD.TB_MODE k m
    let s := if k = 0 then s.wr OD.SERVO_STATE 0 0 else s
    let s := if m = 1 then { s with girder.servoI := 0 } else s
    if m = 2 then s.setRate k (incrRate (s.rd OD.TB_INCR k)) else s

/-- TB_TIME_WRITE, TB_STEP, TB_RATE_WRITE, TB_INCR_WRITE, TB_INC_ADJ. -/
def execTbTimeWrite (tb : Fin 4) (time : BitVec 96) (s : State) : Answer :=
  if ¬ s.host.ready then .next s else .next ((s.noteWrites [(OD.TB_TIME, tb, time.toNat)]).tbTime tb time.toNat)
def execTbStep (tb : Fin 4) (step : BitVec 96) (s : State) : Answer :=
  if ¬ s.host.ready then .next s else .next ((s.noteWrites [(OD.TB_STEP, tb, step.toNat)]).tbStep tb step.toInt)
def execTbRateWrite (tb : Fin 4) (rate : Word32) (s : State) : Answer :=
  if ¬ s.host.ready then .next s else .next ((s.noteWrites [(OD.TB_RATE, tb, rate.toNat)]).tbRate tb rate.toInt)
def execTbIncrWrite (tb : Fin 4) (incr : Word32) (s : State) : Answer :=
  if ¬ s.host.ready then .next s else .next ((s.noteWrites [(OD.TB_INCR, tb, incr.toNat)]).tbIncr tb incr.toNat)
def execTbIncAdj (tb : Fin 4) (adj : Word32) (s : State) : Answer :=
  if ¬ s.host.ready ∨ s.rd OD.TB_MODE tb ≠ 2 then .next s
  else .next ((s.noteWrites [(OD.TB_INC_ADJ, tb, adj.toNat)]).tbStep tb adj.toInt)

/-- A value limited to ± a bound. -/
def boundBy (b : Nat) (x : Int) : Int := max (-(b : Int)) (min (b : Int) x)

/-- SERVO_UPDATE: TB0 follows the manager's (R366). -/
def State.servo (s : State) (m : SyncMsg) (ti k : Int) : State :=
  let theta := s.linear 0 ti - (m.origin + k)
  let s := s.wrI OD.SERVO_OFFSET 0 theta
  if s.rd OD.STEP_NS * 65536 < theta.natAbs then
    let b := s.base 0
    let s := { s with bases := SMap.set {} s.bases 0 { b with ofs := b.ofs - theta } }
    (s.wr OD.SERVO_STATE 0 3).raisePkg 0x0904
  else
    let lim := s.rd OD.RATE_LIMIT
    let e := if m.syncLog2 ≤ 14 then theta * 2 ^ (14 - m.syncLog2) else theta
    let i := boundBy lim (s.girder.servoI + e / 2 ^ s.rd OD.KI_SH)
    let s := { s with girder.servoI := i }
    (s.setRate 0 (boundBy lim (m.mgrRate - (e / 2 ^ s.rd OD.KP_SH + i)))).wr OD.SERVO_STATE 0 1

/-- SERVO_HOLDOVER: 8 SYNC intervals without a SYNC (R366). -/
def execServoHoldover (s : State) : Answer :=
  if s.rd OD.TB_MODE 0 = 1 ∧ s.isWorker then
    let s := s.setRate 0 (boundBy (s.rd OD.RATE_LIMIT) (s.girder.mgrRate - s.girder.servoI))
    .next s.enterHoldover
  else .next s

/-! ### SYNC and Drone alignment (R356 to R360) -/

/-- A member measures its alignment (R359, R360). -/
def State.measureSkew (s : State) (m : SyncMsg) (ti k : Int) : State :=
  let err := s.cycleAt ti - s.managerCycle m k
  let s := s.wrI OD.DRONE_ERR 0 (err / 256)
  let skew := decide (s.rd OD.DRONE_TOL * 65536 < err.natAbs)
  let st := 1 + 2 * b2n skew + 4 * b2n (decide (m.tickdiv ≠ s.tickdiv))
  let s := s.wr OD.ALIGN_STATUS 0 st
  if skew then s.raisePkg 0x0903 else s

/-- SYNC on the upstream port: relayed with link delay and residence, then used (R356 to R360, R366). -/
def State.sync (s : State) (rx : GFrame) (m : SyncMsg) (ti : Int) : State :=
  let k := m.corr + s.rdI OD.LINK_DELAY rx.port
  let s := s.sendDown 0x10 (m.bytes (k + ((s.tcount : Int) * 65536 - ti))) (relayVia rx)
  let s := { s with girder.syncs := s.girder.syncs + 1, girder.mgrRate := m.mgrRate,
                    girder.lastSync := some (m, ti, k) }
  let s := if s.agent = 4 ∧ 8 ≤ s.girder.measured then (s.droneAlign m ti k).wr OD.GIRDER_STATE 0 5
    else if s.agent = 5 then s.measureSkew m ti k else s
  if s.rd OD.TB_MODE 0 = 1 then s.servo m ti k else s

def execSync (rx : GFrame) (m : SyncMsg) (ingress : Nat) (frac : Fin 65536) (s : State) : Answer :=
  s.onFrame rx 0x10 fun s => s.sync rx m ((ingress : Int) * 65536 + frac.val + s.rdI OD.TS_ASYM rx.port)

/-- SYNC_SEND: the values at the frame's egress (R356). -/
def execSyncSend (egressFrac : Fin 65536) (s : State) : Answer :=
  if ¬ s.managing then .next s
  else
    let m : SyncMsg :=
      { corr := 0, origin := s.linearNow 0, cyc := s.clock.cycle, cycFrac := egressFrac, drone := s.drone,
        tphase := s.clock.cycle - s.clock.bnd, tickdiv := s.tickdiv, mgrRate := s.rdI OD.TB_RATE 0,
        syncLog2 := s.rd OD.SYNC_LOG2, incMode := decide (s.rd OD.TB_MODE 0 = 2) }
    .next (s.sendDown 0x10 (m.bytes 0))

/-! ### Firmware over Girder (R351) -/

/-- A frame for an address below goes down the port it joined by; one for any other goes up (R347). -/
def State.relayTo (s : State) (rx : GFrame) (typ : Nat) (payload : List Byte) : State :=
  let p := SMap.get 0 s.girder.routes rx.dst.toNat
  if p = 0 then s.sendUp typ payload (relayVia rx) else s.sendFrame (p - 1) typ payload (relayVia rx)

/-- FW_DATA: a worker in FIRMWARE takes image bytes unless another source is in transfer; the last of them starts the
verification (R402, R409). -/
def State.fwData (s : State) (ofs : Nat) (bytes : List Byte) (last : Bool) : State :=
  if s.agent ≠ 3 ∨ s.boot.stage ≠ 4 then s
  else if s.boot.source = some false then s.sendUp 0x41 (leBytes 4 s.boot.received ++ leBytes 1 2)
  else if 2 ^ 22 < ofs + bytes.length then s
  else
    let s := { s with boot.source := some true, boot.image := SMap.putRange 0 s.boot.image ofs bytes,
                      boot.received := max s.boot.received (ofs + bytes.length), boot.girderDone := last }
    let s := if last then { s with boot.stage := 5, boot.presence := s.presenceHolds } else s
    s.sendUp 0x41 (leBytes 4 s.boot.received ++ leBytes 1 0)

/-- FW_DATA for this worker, or for one below it (R347, R351). -/
def execFwData (rx : GFrame) (ofs : Word32) (bytes : List Byte) (last : Bool) (s : State) : Answer :=
  s.onFrame rx 0x40 fun s =>
    if rx.dst.toNat = s.rd OD.NODE_ADDR then s.fwData ofs.toNat bytes last
    else s.relayTo rx 0x40 (leBytes 4 ofs.toNat ++ bytes)

/-- FW_STATUS: the manager goes on with the transfer, or ends it; a relay passes it up. -/
def execFwStatus (rx : GFrame) (addr : Fin 256) (received : Word32) (status : Fin 3) (s : State) : Answer :=
  let a := addr.val
  s.onFrame rx 0x41 fun s =>
    if s.isManager then
      (if status.val = 0 then (if SMap.get 0 s.girder.fwPush a = 0 then s else s.pushFirmware a received.toNat)
       else { s with girder.fwPush := SMap.erase s.girder.fwPush a })
    else s.sendUp 0x41 (leBytes 4 received.toNat ++ leBytes 1 status) (relayVia rx)

/-- FW_IMG_DATA: bytes enter the manager's store at FW_IMG_OFS, which then advances (R369). -/
def State.fwImgData (s : State) (bytes : List Byte) : State :=
  let ofs := s.rd OD.FW_IMG_OFS
  let s := { s with girder.fwStore := SMap.putRange 0 s.girder.fwStore ofs bytes }
  s.wr OD.FW_IMG_OFS 0 ((ofs + bytes.length) % 2 ^ 32)

def execFwImgData (bytes : List Byte) (s : State) : Answer :=
  if ¬ s.host.ready ∨ s.rd OD.EXPERT_EN = 0 ∨ 1000 < bytes.length then .next s
  else .next ((s.noteWrites [(OD.FW_IMG_DATA, 0, leNat bytes)]).fwImgData bytes)

/-! ### Role override, loss of the reference (R339, R368) -/

/-- The ports and the agent of a role (R339 to R341, R348). -/
def State.setRole (s : State) (r : Nat) : State :=
  let s := s.wr OD.ROLE 0 r
  let s := (List.range 4).foldl (fun s p => s.wr OD.PORT_STATE p (if r = 0 then 0 else 1)) s
  let s := { s with girder.upstream := none, girder.locked := [], girder.ports := [], girder.pendJoin := [],
                    girder.routes := [], girder.joinWanted := false }
  let s := s.wr OD.GIRDER_STATE 0 (if r = 1 then 1 else 0)
  let s := s.wr OD.NODE_ADDR 0 (if r = 2 then 0 else 0xFFFE)
  s.wr OD.ROLE_STATUS 0 (b2n (decide (r = 2) && !bit s.lic.features 5) + bits (s.rd OD.ROLE_STATUS) 1 1 * 2)

/-- ROLE_OVERRIDE may be written: presence holds, and no configuration is active unless the device is in HOLD (R339). -/
def State.roleOverrideOk (s : State) : Bool :=
  s.presenceHolds && (!s.act.running || decide (s.rd OD.DAMP_STATE = 6))

/-- ROLE_OVERRIDE takes a value (R339). -/
def State.roleOverride (s : State) (v : Nat) : State :=
  let s := s.wr OD.ROLE_OVERRIDE 0 v
  let r := if v = 0xFF then (if s.boot.strapRole = 3 then 0 else s.boot.strapRole) else v
  if r = s.rd OD.ROLE then s
  else
    let s := s.setRole r
    if r = 1 then s else s.wr OD.REF_SRC 0 1

def execRoleOverride (value : Byte) (s : State) : Answer :=
  let v := value.toNat
  if ¬ s.host.ready ∨ ¬ s.roleOverrideOk ∨ (2 < v ∧ v ≠ 0xFF) ∨ s.rd OD.EXPERT_EN = 0 then .next s
  else .next ((s.noteWrites [(OD.ROLE_OVERRIDE, 0, v)]).roleOverride v)

/-- DEAD_CLOCK, with the mux and the lost source in DETAIL (R436). -/
def State.deadClock (s : State) (mux lost : Nat) : State :=
  (s.inc OD.DEAD_CLOCK_CNT 0).raiseD 0x0A01 pkgUnit 0xFFFF (mux + 256 * lost)

/-- The upstream port, and with it the reference, is lost: a reference-loss stop, then holdover (R368). -/
def State.upstreamLost (s : State) (p : Nat) (refclk : Bool) : State :=
  let s := (s.refLossStop.wr OD.PORT_STATE p 5).inc OD.LINK_DOWNS p
  let s := (s.deadClock 0 (2 + p)).raisePkg 0x0901 p
  let s := (s.wr OD.GIRDER_STATE 0 6).wr OD.ALIGN_STATUS 0 (s.rd OD.ALIGN_STATUS / 2 * 2)
  let s := s.enterHoldover
  { s with girder.upstream := none, girder.holdover := some s.now, girder.refDead := !refclk,
           girder.locked := s.girder.locked.filter fun q => decide (q ≠ p) }

/-- UPSTREAM_LOSS: `refclk` says whether REFCLK is present (R368). -/
def execUpstreamLoss (refclk : Bool) (s : State) : Answer :=
  match s.girder.upstream with
  | none => .next s
  | some p => if s.isWorker then .next (s.upstreamLost p refclk) else .next s

/-- HOLDOVER_END: 2^20 cycles after the loss the PLLs relock to REFCLK, or stop (R368). -/
def execHoldoverEnd (refclk : Bool) (s : State) : Answer :=
  match s.girder.holdover with
  | none => .next s
  | some c =>
    let s := s.advanceTo (c + 2 ^ 20)
    let s := { s with girder.holdover := none, girder.refDead := !refclk }
    if refclk ∧ (s.rd OD.REF_FALLBACK = 1 ∨ ¬ s.isWorker) then .next (s.wr OD.REF_SRC 0 1)
    else
      let s := { s with girder.refStopped := true, clock.running := false }
      .next ((s.wr OD.REF_SRC 0 0).wr OD.PLL_LOCK 0 0)

end Sys2Proof.Machine
end

