-- ==== Sys2Proof/Machine/Security.lean ====
section
/-! DEFINITION. Licences (R416 to R419), physical presence and the seal loop (R420 to R424), fuse programming (R425 to R428)
and the debug port (R429, R504, R505). -/

namespace Sys2Proof.Machine

/-! ### Licences (R416, R417) -/

/-- Bytes of a licence: body, public key, signature. -/
def licLen : Nat := 1732

/-- Staged bytes; a position not written reads zero. -/
def State.licBytes (s : State) (lo n : Nat) : List Byte := (SMap.range none s.lic.staged lo n).map fun b => b.getD 0
def State.licField (s : State) (lo n : Nat) : Nat := leNat (s.licBytes lo n)

/-- Chunks and commands are refused while a check runs. -/
def State.licBusy (s : State) : Bool := s.lic.checking

/-- A chunk fits the staging buffer. -/
def State.licDataOk (s : State) (bytes : List Byte) : Bool :=
  decide (1 ≤ bytes.length ∧ bytes.length ≤ 1000 ∧ s.rd OD.LIC_OFS + bytes.length ≤ licLen)

/-- A chunk is staged at LIC_OFS, which advances. -/
def State.licData (s : State) (bytes : List Byte) : State :=
  let ofs := s.rd OD.LIC_OFS
  let s := { s with lic.staged := SMap.putRange none s.lic.staged ofs (bytes.map some) }
  s.wr OD.LIC_OFS 0 (ofs + bytes.length)

/-- LIC_DATA. -/
def execLicData (bytes : List Byte) (s : State) : Answer :=
  if s.host.ready ∧ ¬ s.licBusy ∧ s.licDataOk bytes then .next ((s.noteWrites [(OD.LIC_DATA, 0, leNat bytes)]).licData bytes) else .next s

/-- LIC_CMD = 1: the check begins. -/
def State.licInstall (s : State) : State := { s with lic.checking := true }.wr OD.LIC_STATE 0 3

def execLicInstall (s : State) : Answer :=
  if s.host.ready ∧ ¬ s.licBusy then .next (s.noteWrites [(OD.LIC_CMD, 0, 1)]).licInstall else .next s

/-- LIC_CMD = 3: the staged bytes are discarded. -/
def State.licDiscard (s : State) : State := { s with lic.staged := [] }

def execLicDiscard (s : State) : Answer :=
  if s.host.ready ∧ ¬ s.licBusy then .next (s.noteWrites [(OD.LIC_CMD, 0, 3)]).licDiscard else .next s

/-- Body fields with fixed values or reserved. -/
def State.licFormOk (s : State) : Bool :=
  decide (s.licField 0 4 = 0x4C494358 ∧ s.licField 4 2 = 1 ∧ s.licField 6 2 = 0 ∧ s.licField 29 35 = 0) &&
  decide (s.licField 20 4 < 64)

/-- Envelope fields lie in range; more than 32 lanes need FEATURES[4]. -/
def State.licEnvOk (s : State) : Bool :=
  let f := s.licField 20 4
  let clk := s.licField 24 2
  let cap := s.licField 26 2
  let lanes := s.licField 28 1
  decide (400 ≤ clk ∧ clk ≤ 600 ∧ 90 ≤ cap ∧ cap ≤ 180 ∧ 32 ≤ lanes ∧ lanes ≤ 64) && (decide (lanes = 32) || bit f 4)

/-- A fused key hash (R405). -/
def State.keyHash (s : State) (slot : Nat) : Nat := s.fuse (3840 + 256 * slot) 256
/-- A key slot is revoked. -/
def State.revoked (s : State) (slot : Nat) : Bool := bit (s.fuse 4864 4) slot
/-- The public key's type codes are those of R407. -/
def keyTypesOk (key : List Byte) : Bool := decide (beNat (key.take 4) = 7 ∧ beNat ((key.drop 4).take 4) = 4)

/-- The code of the first licence check that fails, 0 when none does (R417). -/
def State.licCode (s : State) : Nat :=
  let key := s.licBytes 64 56
  firstCode
    [(1, (SMap.range none s.lic.staged 0 licLen).all Option.isSome), (2, s.licFormOk), (3, !s.revoked 3),
     (4, decide (leNat (sha256 key) = s.keyHash 3) && keyTypesOk key),
     (5, lmsVerify key (s.licBytes 120 1612) (s.licBytes 0 64)), (6, decide (s.licField 8 8 = s.fuse 32 64)),
     (7, s.licEnvOk)]

/-- A licence takes the place of the one before; less than before is a loss; with no configuration
running the power cap follows at once (R5, R418). The manager role follows (R340). -/
def State.setLicence (s : State) (f clk cap lanes id : Nat) : State :=
  let l := s.lic
  let less := decide (l.features &&& f ≠ l.features) || decide (clk < l.clkMax ∨ cap < l.pcapMax ∨ lanes < l.lanesMax)
  let s := { s with lic.features := f, lic.clkMax := clk, lic.pcapMax := cap, lic.lanesMax := lanes }
  let s := (s.wr OD.LIC_FEATURES 0 f).wr OD.LIC_ENVELOPE 0 (clk + cap * 2 ^ 16 + lanes * 2 ^ 32)
  let s := s.wr OD.LIC_ID 0 id
  let s := s.wr OD.ROLE_STATUS 0 (b2n (s.isManager && !bit f 5) + bits (s.rd OD.ROLE_STATUS) 1 1 * 2)
  let s := if s.act.running ∧ ¬ s.faults.safe ∧ s.rd OD.DAMP_STATE ≠ 6 then s else s.capToLicence
  if less then s.raisePkg 0x0C02 else s

/-- LIC_CHECK_DONE (R417). -/
def execLicCheckDone (s : State) : Answer :=
  if ¬ s.lic.checking then .next s
  else
    let code := s.licCode
    let s := { s with lic.checking := false }
    if code ≠ 0 then .next (((s.wr OD.LIC_STATE 0 2).wr OD.LIC_REFUSE 0 code).raisePkg 0x0C01)
    else
      let s := s.setLicence (s.licField 20 4) (s.licField 24 2) (s.licField 26 2) (s.licField 28 1) (s.licField 16 4)
      let s := { s with lic.installed := true, lic.staged := [] }
      .next ((s.wr OD.LIC_STATE 0 1).wr OD.LIC_REFUSE 0 0)

/-- LIC_CMD = 2: the base envelope is left (R5, R418). -/
def State.licRemove (s : State) : State :=
  let s := s.setLicence 0 400 90 32 0
  { s with lic.installed := false }.wr OD.LIC_STATE 0 0

def execLicRemove (s : State) : Answer :=
  if s.host.ready ∧ ¬ s.licBusy then .next (s.noteWrites [(OD.LIC_CMD, 0, 2)]).licRemove else .next s

/-! ### Presence (R420 to R423) -/

/-- Time passes to a TCOUNT. -/
def State.advanceToNs (s : State) (t : Nat) : State :=
  s.advanceTo (s.now + ceilDiv (t * fineScale - s.clock.fine) (cycleFine s.mhz))

/-- PRESENCE_BTN_PRESS: presses before the end of stage 2 are ignored (R421). -/
def execPresenceBtnPress (s : State) : Answer :=
  if s.clock.running then .next { s with lic.windowEnd := some (s.tcount + 60000000000) } else .next s

/-- PRESENCE_WINDOW_EXPIRY (R421). -/
def execPresenceWindowExpiry (s : State) : Answer :=
  match s.lic.windowEnd with
  | none => .next s
  | some t =>
    let s := s.advanceToNs t
    .next { s with lic.windowEnd := none }

/-- PRES_CLOSE (R421). -/
def State.presClose (s : State) : State := { s with lic.windowEnd := none }
def execPresClose (s : State) : Answer :=
  if s.host.ready then .next (s.noteWrites [(OD.PRES_CLOSE, 0, 1)]).presClose else .next s

/-- PRESENT_N_CHANGE (R420). -/
def execPresentNChange (level : Bool) (s : State) : Answer := .next { s with lic.presentN := level }

/-- SEAL_LOOP_BREAK: only a break of an intact loop counts (R422). -/
def execSealLoopBreak (s : State) : Answer :=
  if s.lic.sealIntact then
    let s := { s with lic.sealIntact := false, lic.sealLatched := true, lic.windowEnd := none }
    .next ((s.inc OD.SEAL_BREAKS 0).raisePkg 0x0C03)
  else .next s

/-- SEAL_LOOP_RESTORED (R422). -/
def execSealLoopRestored (s : State) : Answer := .next { s with lic.sealIntact := true }

/-! ### Fuse programming (R425 to R428) -/

/-- Number of FW_SVN bits that are set: the firmware SVN floor (R405). -/
def State.svnFloor (s : State) : Nat :=
  let n := s.fuse 4928 64
  (List.range 64).countP (bit n)

/-- The bits of the array that a command would set, none where R427 or R428 refuses it. -/
def State.fuseBits (s : State) (field value : Nat) : Option Nat :=
  let b0 := value % 256
  if field = 1 then
    if (s.fuse 4864 4 ||| b0 % 16) % 4 = 3 then none else some (b0 % 16 * 2 ^ 4864)
  else if field = 2 then
    if 64 < b0 ∨ b0 < s.svnFloor ∨ s.rd OD.FW_SVN_RUN < b0 then none else some ((2 ^ b0 - 1) * 2 ^ 4928)
  else if field = 3 then (if bit b0 0 then some (2 ^ 4992) else none)
  else if field = 4 then some (value % 2 ^ 256 * 2 ^ 5120)
  else none

/-- FUSE_CMD = 1: bits that change from 0 to 1 are programmed; a value refused under R427 or R428 leaves FUSE_STATUS 4. -/
def State.fuseProgram (s : State) : State :=
  match s.fuseBits (s.rd OD.FUSE_FIELD) (s.rd OD.FUSE_VALUE) with
  | some m => { s with boot.fuseBusy := some (m, s.rd OD.FUSE_FIELD) }.wr OD.FUSE_STATUS 0 1
  | none => s.wr OD.FUSE_STATUS 0 4

/-- FUSE_PROGRAM: field, value and command come in one transaction, with presence and expert access (R373, R424). -/
def execFuseProgram (field : Byte) (value : BitVec 256) (s : State) : Answer :=
  if ¬ s.host.ready ∨ s.rd OD.EXPERT_EN = 0 ∨ ¬ s.presenceHolds ∨ s.boot.fuseBusy ≠ none then .next s
  else if (s.fuseBits field.toNat value.toNat).isNone then .next (s.wr OD.FUSE_STATUS 0 4)
  else
    let s := s.noteWrites [(OD.FUSE_FIELD, 0, field.toNat), (OD.FUSE_VALUE, 0, value.toNat), (OD.FUSE_CMD, 0, 1)]
    .next ((s.wr OD.FUSE_FIELD 0 field.toNat).wr OD.FUSE_VALUE 0 value.toNat).fuseProgram

/-- FUSE_PROGRAM_DONE: after a failure which of the bits were set is free (log entry 6). -/
def execFuseProgramDone (good : Bool) (s : State) : Answer :=
  match s.boot.fuseBusy with
  | none => .next s
  | some (m, _) =>
    let s := { s with boot.fuseBusy := none }
    if good then .next ({ s with boot.otp := s.boot.otp ||| BitVec.ofNat 8192 m }.wr OD.FUSE_STATUS 0 2)
    else
      let (d, s) := s.draw
      let s := { s with boot.otp := s.boot.otp ||| BitVec.ofNat 8192 (m &&& d) }
      .next ((s.wr OD.FUSE_STATUS 0 3).raisePkg 0x0C04)

/-! ### The debug port (R429, R504, R505) -/

/-- No configuration runs: before the first activation, in HOLD or in SAFE (R505). -/
def State.noConfiguration (s : State) : Bool :=
  s.faults.safe || decide (s.rd OD.DAMP_STATE = 6) || decide (s.act.running = false ∧ s.rd OD.DAMP_STATE = 0)

/-- The port may be unlocked: DEBUG_LOCK_PERM is not fused (R424). -/
def State.debugMayUnlock (s : State) : Bool := s.fuse 4992 1 = 0

/-- DEBUG_UNLOCK = 1. -/
def State.debugUnlock (s : State) : State :=
  if s.boot.unlocked then s
  else { s with boot.unlocked := true }.wr OD.DEBUG_UNLOCK 0 1 |>.raisePkg 0x0C05

def execDebugUnlock (s : State) : Answer :=
  if s.host.ready ∧ s.rd OD.EXPERT_EN = 1 ∧ s.presenceHolds ∧ s.debugMayUnlock then .next (s.noteWrites [(OD.DEBUG_UNLOCK, 0, 1)]).debugUnlock else .next s

/-- DEBUG_UNLOCK = 0: the port returns to BYPASS at once (R505). -/
def State.debugRelock (s : State) : State := { s with boot.unlocked := false, boot.tap := .bypass }.wr OD.DEBUG_UNLOCK 0 0

def execDebugRelock (s : State) : Answer :=
  if s.host.ready ∧ s.rd OD.EXPERT_EN = 1 then .next (s.noteWrites [(OD.DEBUG_UNLOCK, 0, 0)]).debugRelock else .next s

/-- The instruction in force: what is not allowed acts as BYPASS (R504, R505). -/
def State.tapInForce (s : State) (i : TapInstr) : TapInstr :=
  match i with
  | .idcode => .idcode
  | .bypass => .bypass
  | .samplePreload => if s.boot.unlocked then .samplePreload else .bypass
  | .vendor => if s.boot.unlocked then .vendor else .bypass
  | .extest => if s.boot.unlocked && s.noConfiguration then .extest else .bypass

/-- IDCODE (R504). -/
def State.idcode (s : State) : Nat := 1 + 0x2B5 * 2 + 0xA815 * 2 ^ 12 + s.rd OD.STEPPING % 16 * 2 ^ 28

/-- TAP_INSTRUCTION: what the port then shifts out; the boundary and vendor registers' contents are free (log entry 6). -/
def execTapInstruction (i : TapInstr) (s : State) : Answer :=
  let k := s.tapInForce i
  let s := { s with boot.tap := k }
  match k with
  | .idcode => .next { s with boot.tapOut := s.idcode }
  | .bypass => .next { s with boot.tapOut := 0 }
  | .samplePreload => .next { s.draw.2 with boot.tapOut := s.draw.1 }
  | .vendor => .next { s.draw.2 with boot.tapOut := s.draw.1 }
  | .extest => .next { s.draw.2 with boot.tapOut := s.draw.1 }

end Sys2Proof.Machine
end

