-- ==== Sys2Proof/Machine/Boot.lean ====
section
/-! DEFINITION. Reset and bring-up: straps, reference and PLL lock (R402 to R404, R496, R497), the fuse read (R405), firmware
(R377, R406 to R409), self-test, training and the defect merge (R410 to R415), and the return of a reference (R368). -/

namespace Sys2Proof.Machine

/-! ### Reset (R496, R497) -/

/-- Every clock and domain stops and what the device holds is lost; the fuse array keeps its bits, of which one being
programmed may read either way (R495), and the levels at the pins stay. -/
def State.deviceReset (s : State) : State :=
  let m := s.boot.fuseBusy.elim 0 Prod.fst
  { pending := s.pending, freeCtr := s.freeCtr + 2,
    boot := { otp := s.boot.otp ||| BitVec.ofNat 8192 (m &&& Config.freeNat s.freeCtr) },
    lic := { presentN := s.lic.presentN, sealIntact := s.lic.sealIntact },
    hbm := ({} : Hbm).undefine 0 (96 * giB) (s.freeCtr + 1) }

/-- CONVENTIONAL_RESET: PERST_N is low for at least 10 µs (R496). -/
def execConventionalReset (s : State) : Answer := .next s.deviceReset

/-- SUPPLY_MONITOR_RESET acts as PERST_N; the release of both is PERST_N_RELEASE (R497). -/
def execSupplyMonitorReset (s : State) : Answer := .next s.deviceReset

/-! ### Straps, reference, PLLs (R402 to R404) -/

/-- PERST_N_RELEASE: the straps are sampled and the REFDLY wait begins. -/
def execPerstNRelease (role : Fin 4) (refdly : Fin 8) (s : State) : Answer :=
  if ¬ s.boot.inReset then .next s
  else
    let s := { s with boot.inReset := false, boot.stage := 1, boot.strapRole := role, boot.refdly := refdly }
    let s := s.wr OD.ROLE_STATUS 0 (2 * b2n (decide (role.val = 3)))
    .next (s.setRole (if role.val = 3 then 0 else role))

/-- The reference a role selects: a worker the lowest-numbered port that has locked, else REFCLK (R404). -/
def State.firstReference (s : State) : Nat :=
  if s.isWorker then
    (match (List.range 4).find? fun p => s.girder.locked.contains p with
     | some p => 2 + p
     | none => 1)
  else 1

/-- REFDLY_WAIT_END (R404). -/
def execRefdlyWaitEnd (s : State) : Answer :=
  if s.boot.stage = 1 ∧ ¬ s.boot.inReset then .next ({ s with boot.stage := 2 }.wr OD.REF_SRC 0 s.firstReference) else .next s

/-- PLL_LOCK while every PLL of the role runs; the PCIe PLL locks from REFCLK only (R433). -/
def State.pllsLocked (s : State) : Nat :=
  0xFF + 2 ^ 8 * b2n (decide (s.rd OD.ROLE ≠ 0)) +
    2 ^ 9 * b2n (decide (s.rd OD.REF_SRC = 1) || bit (s.rd OD.PCIE_LINK) 10)

/-- TCOUNT, CYCLE64 and the Drone counter start from zero (R354, R402). -/
def State.startClocks (s : State) : State :=
  let s := { s with clock := { running := true }, power.mux := SMap.putRange 0 s.power.mux 1 (List.replicate 6 1) }
  s.wr OD.PLL_LOCK 0 s.pllsLocked

/-- PLL_LOCK_COMPLETE: stage 3. -/
def execPllLockComplete (s : State) : Answer :=
  if s.boot.stage = 2 ∧ ¬ s.boot.halted then .next { s with boot.stage := 3 }.startClocks else .next s

/-- PLL_LOCK_TIMEOUT: the device halts (R402, R403). -/
def execPllLockTimeout (s : State) : Answer :=
  if s.boot.stage = 2 then .next { s with boot.err := 0x21, boot.halted := true } else .next s

/-! ### The fuse array (R405) -/

/-- A disabled row's cluster (R150). -/
def State.disabledCluster (s : State) (c : Nat) : Bool := decide (s.disRow (c / 64) = some (c / 8 % 8))

/-- The unit of a cluster that the fuses mark bad: a home core 0 to 15, or 16 the spare. -/
def State.fusedBad (s : State) (c : Nat) : Option Nat :=
  let k := s.fuse (160 + 5 * c) 5
  if s.disabledCluster c ∨ k = 31 then none else some k

/-- No field holds a reserved code. -/
def State.fusesLegal (s : State) : Bool :=
  decide (s.grade = 1 ∨ s.grade = 2) && (List.range 256).all fun c => decide ((s.fusedBad c).getD 0 ≤ 16)

/-- The entries that report fuse fields. -/
def State.reportFuses (s : State) : State :=
  let s := ((s.wr OD.VENDOR 0 (s.fuse 0 16)).wr OD.PART 0 (s.fuse 16 16)).wr OD.SERIAL 0 (s.fuse 32 64)
  let s := ((s.wr OD.STEPPING 0 (s.fuse 96 8)).wr OD.GRADE 0 s.grade).wr OD.LAT_CLASS 0 (s.fuse 106 4)
  let s := ((s.wr OD.QD_CLASS 0 (s.fuse 110 4)).wr OD.DIS_ROWS 0 (s.fuse 144 16)).wr OD.LANES_FUSED_BAD 0 (s.fuse 3584 64)
  let s := s.wr OD.FUSED_BAD_CORES 0 ((List.range 256).countP fun c => (s.fusedBad c).isSome)
  s.wr OD.DOMAIN_ID 0 (s.fuse 32 32)

/-- FUSE_READ_COMPLETE: the array is sensed; a wrong CRC halts the device, a reserved code stops the model. -/
def execFuseReadComplete (array : BitVec 8192) (s : State) : Answer :=
  if s.boot.stage ≠ 3 ∨ s.boot.halted then .next s
  else if bits array.toNat 8160 32 ≠ crc32 (leBytes 608 (bits array.toNat 0 4864)) then
    .next { s with boot.err := 0x31, boot.halted := true }
  else
    let s := { s with boot.fuses := array }
    if s.fusesLegal then .next { s.reportFuses with boot.stage := 4, boot.copied := true } else .fault .reservedFuse

/-! ### Firmware (R377, R406 to R409) -/

/-- The image in transfer is dropped. -/
def State.dropImage (s : State) : State :=
  { s with boot.image := [], boot.received := 0, boot.source := none, boot.girderDone := false }

/-- FW_CHUNK: a staged chunk is copied; a refused device goes back to stage 4 (R377, R402). -/
def execFwChunk (ofs : Fin 16777216) (len : Fin 65536) (s : State) : Answer :=
  let n := len.val
  if (s.boot.stage ≠ 4 ∧ s.boot.stage ≠ 14) ∨ s.boot.copied = false ∨ n = 0 ∨ 16384 < n ∨ 2 ^ 22 < ofs.val + n ∨
      s.boot.source = some true then .next s
  else
    let s := if s.boot.stage = 14 then { s with boot.stage := 4, boot.refused := false } else s
    .next { s with boot.source := some false, boot.received := max s.boot.received (ofs.val + n),
                   boot.image := SMap.putRange 0 s.boot.image ofs.val (SMap.range 0 s.boot.staging 0 n) }

/-- FW_CMD_VERIFY: stage 5; presence is noted as it stands now (R409). -/
def execFwCmdVerify (s : State) : Answer :=
  if s.boot.stage = 4 then .next { s with boot.stage := 5, boot.presence := s.presenceHolds } else .next s

/-- FW_CMD_DISCARD (R377, R402). -/
def execFwCmdDiscard (s : State) : Answer :=
  if s.boot.stage = 4 ∨ s.boot.stage = 14 then .next { s.dropImage with boot.stage := 4, boot.refused := false } else .next s

/-- A byte range, and a field, of the image received. -/
def State.fwBytes (s : State) (lo n : Nat) : List Byte := SMap.range 0 s.boot.image lo n
def State.fwField (s : State) (lo n : Nat) : Nat := leNat (s.fwBytes lo n)

/-- Check 1: MAGIC, sizes and reserved fields (R406). -/
def State.fwFormOk (s : State) : Bool :=
  let body := s.fwField 8 4
  decide (s.fwField 0 4 = 0x57464B44 ∧ s.fwField 4 4 = 64 + body + 1668 ∧ body % 64 = 0 ∧ 64 + body + 1668 ≤ 2 ^ 22) &&
  decide (s.boot.received = 64 + body + 1668 ∧ s.fwField 14 2 = 0 ∧ s.fwField 20 44 = 0)

/-- The signature verifies over header and body (R407, R408). -/
def State.fwSigned (s : State) : Bool :=
  let body := s.fwField 8 4
  lmsVerify (s.fwBytes (64 + body) 56) (s.fwBytes (120 + body) 1612) (s.fwBytes 0 (64 + body))

/-- The BOOT_ERR code of the first check that fails, 0 when the image is verified (R403, R409). -/
def State.fwCode (s : State) : Nat :=
  let body := s.fwField 8 4
  let slot := s.fwField 13 1
  firstCode
    [(0x51, s.fwFormOk), (0x52, decide (slot ≤ 2) && !s.revoked slot),
     (0x53, decide (leNat (sha256 (s.fwBytes (64 + body) 56)) = s.keyHash slot)),
     (0x54, lmsTypes (s.fwBytes (64 + body) 56) (s.fwBytes (120 + body) 1612)), (0x55, s.fwSigned),
     (0x56, decide (s.svnFloor ≤ s.fwField 12 1)), (0x57, decide (slot ≠ 2) || s.boot.presence)]

/-- The worker's agent hears of the result (R348, R351). -/
def State.fwReport (s : State) (ok : Bool) : State :=
  if s.boot.source = some true then
    let s := s.sendUp 0x41 (leBytes 4 s.boot.received ++ leBytes 1 (if ok then 1 else 2))
    if s.agent = 3 then s.wr OD.GIRDER_STATE 0 (if ok then 4 else 8) else s
  else if ok ∧ s.agent = 3 then s.wr OD.GIRDER_STATE 0 4
  else s

/-- FW_VERIFY_DONE: the image runs, or is discarded and the device waits in stage 14 (R402, R409). -/
def execFwVerifyDone (s : State) : Answer :=
  if s.boot.stage ≠ 5 then .next s
  else
    let code := s.fwCode
    let s := s.fwReport (decide (code = 0))
    if code = 0 then
      let s := { s with boot.stage := 6, boot.verified := true, boot.fwSlot := s.fwField 13 1, boot.fwSvn := s.fwField 12 1 }
      .next (((s.wr OD.BRINGUP 0 1).wr OD.FW_KEY_SLOT 0 s.boot.fwSlot).wr OD.FW_SVN_RUN 0 s.boot.fwSvn)
    else .next { s.dropImage with boot.stage := 14, boot.refused := true, boot.err := code }

/-! ### Self-test, training, merge (R410 to R415) -/

/-- SELF_TEST_DONE. -/
def execSelfTestDone (r : SelfTest) (s : State) : Answer :=
  if s.boot.stage = 6 then .next ({ s with boot.stage := 7, boot.test := r }.wr OD.BRINGUP 0 3) else .next s

/-- TRAINING_DONE: a failed pseudo-channel puts HBM out of service (R415). -/
def execTrainingDone (failed : List (Fin 128)) (s : State) : Answer :=
  if s.boot.stage ≠ 7 then .next s
  else if failed = [] then .next ({ s with boot.stage := 8 }.wr OD.BRINGUP 0 0xF)
  else
    let s := { s with boot.stage := 8, boot.err := 0x71, boot.hbmFailed := true }
    .next ((s.wr OD.BRINGUP 0 0xB).raisePkg 0x0405)

/-- Memory rows to repair as (unit, memory, row): fused first, then those found at self-test. A unit is a PCID, or a bank
16 × cluster + bank of cluster memory; a row of it lies in bank row mod 16 (log entry 28). -/
def State.badRowList (s : State) : List (Nat × Nat × Nat) :=
  let fused := (List.range 64).filterMap fun e =>
    let v := s.fuse (1536 + 32 * e) 32
    let m := bits v 16 2
    let row := bits v 18 12
    if m = 0 then none else if m = 3 then some (16 * pcidCluster (bits v 0 16) + row % 16, 3, row) else some (bits v 0 16, m, row)
  let banks := s.boot.test.badBankRows.map fun (p : Nat × Nat) => (16 * p.1 + p.2 % 16, 3, p.2)
  (fused ++ s.boot.test.badRows ++ banks).eraseDups

/-- Spare rows of a memory (R411). -/
def spareRows (mem : Nat) : Nat := if mem = 1 then 4 else if mem = 2 then 2 else 8

/-- Failed rows of one memory. -/
def rowsOf (l : List (Nat × Nat × Nat)) (u mem : Nat) : Nat := l.countP fun r => decide (r.1 = u ∧ r.2.1 = mem)

/-- A memory has more failed rows than spare rows. -/
def overRows (l : List (Nat × Nat × Nat)) (u mem : Nat) : Bool := decide (spareRows mem < rowsOf l u mem)

/-- Rows repaired (R411). -/
def rowRepairs (l : List (Nat × Nat × Nat)) : Nat :=
  ((l.map fun r => (r.1, r.2.1)).eraseDups).foldl (fun n k => n + min (spareRows k.2) (rowsOf l k.1 k.2)) 0

/-- Cores and spare of a cluster that the fuses call good and self-test fails. -/
def State.fieldBad (s : State) (l : List (Nat × Nat × Nat)) (c : Nat) : List Nat :=
  if s.disabledCluster c then []
  else (List.range 17).filter fun i =>
    let p := mkPcid c i
    decide (s.fusedBad c ≠ some i) && (s.boot.test.badCores.contains p || overRows l p 1 || overRows l p 2)

/-- A unit is fenced for this power-up and reported as a field defect (R412). -/
def State.fieldDefect (s : State) (loc : Nat) : State := (s.inc OD.FIELD_DEFECTS 0).raisePkg 0x0E01 loc

/-- A core is never used. -/
def State.markCore (s : State) (p : Nat) : State := { s with fabric.fencedCores := SMap.set false s.fabric.fencedCores p true }

/-- What the merge decides for one cluster (R412). -/
def State.mergeCluster (s : State) (l : List (Nat × Nat × Nat)) (c : Nat) : State :=
  let t := s.boot.test
  let field := s.fieldBad l c
  let bad := (s.fusedBad c).toList ++ field
  let bank := (List.range 16).any fun b => overRows l (16 * c + b) 3
  let truss := t.badTruss.contains c
  let others := b2n (t.badRouters.contains c) + b2n bank + b2n truss
  let s := field.foldl (fun s i => s.fieldDefect (mkPcid c i)) s
  let s := bad.foldl (fun s i => s.markCore (mkPcid c i)) s
  let s := (List.range others).foldl (fun s _ => s.fieldDefect c) s
  let s := if truss then s.updCluster c fun k => { k with trussFenced := true } else s
  if decide (1 ≤ others ∨ 2 ≤ bad.length) then s.degrade c (mkPcid c (bad.headD 0))
  else match bad with
    | [i] => s.updCluster c fun k => if i = 16 then { k with spareBad := true } else { k with standIn := i + 1 }
    | _ => s

/-- Lanes and viaducts (R412, R413). -/
def State.mergeLinks (s : State) : State :=
  let t := s.boot.test
  let field := (List.range 64).filter fun l => bit t.badLanes l && !bit (s.rd OD.LANES_FUSED_BAD) l
  let s := s.wr OD.LANES_FIELD_BAD 0 (field.foldl (fun n l => n + 2 ^ l) 0)
  let s := field.foldl State.fieldDefect s
  (t.badViaducts.eraseDups).foldl (fun s v =>
    let s := { s with fabric.viaBad := (List.range 64).map (fun k => 64 * v + k) ++ s.fabric.viaBad }
    s.raisePkg 0x000F v) s

/-- DEFECT_MERGE_DONE: stage 9, and the dictionary is served (R402, R412). -/
def execDefectMergeDone (ms : Word32) (s : State) : Answer :=
  if s.boot.stage ≠ 8 then .next s
  else
    let l := s.badRowList
    let s := (List.range 256).foldl (fun s c => s.mergeCluster l c) s
    let s := (s.mergeLinks.wr OD.ROW_REPAIRS 0 (rowRepairs l)).wr OD.BOOT_MS 0 ms.toNat
    .next { s with boot.stage := 9, host.ready := true }

/-! ### A reference returns (R368) -/

/-- A worker whose fabric PLLs have stopped relocks; time starts from zero, and the agent rejoins through any beacon. -/
def State.relock (s : State) (src : Nat) : State :=
  let s := { s.wr OD.REF_SRC 0 src with girder.refStopped := false, girder.refDead := false, bases := [] }
  let s := s.startClocks
  if s.isWorker then s.wr OD.GIRDER_STATE 0 6 else s

/-- A device that had stopped entirely restarts from the REFDLY wait with its straps. -/
def State.restart (s : State) : State :=
  let role := s.boot.strapRole
  let dly := s.boot.refdly
  let s := s.deviceReset
  let s := { s with boot.inReset := false, boot.stage := 1, boot.strapRole := role, boot.refdly := dly }
  let s := s.wr OD.ROLE_STATUS 0 (2 * b2n (decide (role = 3)))
  s.setRole (if role = 3 then 0 else role)

/-- REFERENCE_RETURN: `src` as REF_SRC, 1 REFCLK or 2 to 5 a Girder port. While REFCLK kept the hub running, only the
upstream reference brings a worker back. -/
def execReferenceReturn (src : Fin 6) (s : State) : Answer :=
  if ¬ s.girder.refStopped ∨ src.val = 0 then .next s
  else if s.girder.refDead then .next s.restart
  else if s.isWorker ∧ src.val = 1 then .next s
  else .next (s.relock src)

end Sys2Proof.Machine
end

