-- ==== Sys2Proof/Machine/Power.lean ====
section
/-! DEFINITION. Clocks, power and thermal control: PLLs and muxes (R432 to R438), gates (R439 to R441), the power estimate and
the cap (R443, R444, R456 to R458), the die rails (R445 to R449), droop stretch (R450, R451) and thermal limits (R459 to
R461). -/

namespace Sys2Proof.Machine

/-! ### The die rails (R445 to R449) -/

/-- Setpoint the power manager wants on a die: the margin demand and any boost, in steps of 5 mV up to 0.85 V. -/
def State.railTarget (s : State) (d : Nat) : Nat :=
  min 850 (ceilDiv ((s.die d).demand + (if (s.die d).boosted then s.rd OD.HINT_MV else 0)) 5 * 5)

/-- A lowering is held back while the die stretches and for 64 cycles after (R447). -/
def State.lowerHeld (s : State) (d : Nat) : Bool :=
  (s.die d).stretch.isSome || (s.die d).lastEnd.any fun e => decide (s.now < e + 64)

/-- The next AVSBus write of a die, of at most 25 mV, unless one is outstanding or the rail is frozen (R445, R447, R448). -/
def State.railStep (s : State) (d : Nat) : State :=
  let v := s.rd OD.VDD_SET d
  let t := s.railTarget d
  if s.boot.stage < 3 ∨ (s.die d).avsBusy ∨ (s.die d).frozen ∨ t = v ∨ (t < v ∧ s.lowerHeld d) then s
  else
    let w := if v < t then min t (v + 25) else max t (v - 25)
    (s.wr OD.VDD_SET d w).updDie d fun x => { x with avsBusy := true, retries := 0 }

/-- AVS_TRANSACTION_DONE: a write settles, a read returns, or a transaction fails; the fourth failure is AVS_FAULT. -/
def execAvsTransactionDone (die : Fin 4) (ok : Bool) (mv deciAmps : Word16) (s : State) : Answer :=
  let d := die.val
  if s.boot.stage < 3 then .next s
  else if ok then
    let s := (s.wr OD.VDD_READ d mv.toNat).wr OD.IDD_READ d deciAmps.toNat
    let s := s.updDie d fun x => { x with avsBusy := false, retries := 0, frozen := false }
    .next (s.railStep d)
  else if (s.die d).frozen then .next s
  else if (s.die d).retries < 3 then .next (s.updDie d fun x => { x with retries := x.retries + 1 })
  else
    let s := s.updDie d fun x => { x with avsBusy := false, retries := 0, frozen := true }
    .next (s.raisePkg 0x0A04 d)

/-- MARGIN_SHORT: the setpoint rises at once, by a free number of 5 mV steps; at 0.85 V VMARGIN_LOW is raised (R446). -/
def execMarginShort (die : Fin 4) (s : State) : Answer :=
  let d := die.val
  if s.boot.stage < 3 then .next s
  else if 850 ≤ s.rd OD.VDD_SET d then
    .next ((s.updDie d fun x => { x with demand := max 850 x.demand, sinceLower := 0 }).raisePkg 0x0A05 d)
  else
    let (r, s) := s.draw
    let s := s.updDie d fun x => { x with demand := min 850 (x.demand + 5 * (r % 5 + 1)), sinceLower := 0 }
    .next (s.railStep d)

/-- Once per 64 intervals the setpoint may go down by 5 mV; whether the margins allow it is free (R446). -/
def State.lowerRail (s : State) (d : Nat) : State :=
  let s := s.updDie d fun x => { x with sinceLower := x.sinceLower + 1 }
  if (s.die d).sinceLower < 64 then s
  else
    let (r, s) := s.draw
    let down := r % 2 = 1 ∧ 605 ≤ (s.die d).demand ∧ (s.die d).frozen = false ∧ s.lowerHeld d = false
    let s := s.updDie d fun x => { x with sinceLower := 0, demand := if down then x.demand - 5 else x.demand }
    s.railStep d

/-- The dies of a mask. -/
def maskDies (m : Nat) : List Nat := (List.range 4).filter (bit m)

/-- A LOAD_HINT names the next tick with its 48-bit count (R449). -/
def State.loadHint (s : State) (dies drone48 : Nat) : State :=
  { s with power.hints := s.power.hints ++ [(dies, s.drone + (drone48 + 2 ^ 48 - s.drone % 2 ^ 48) % 2 ^ 48)] }

/-- LOAD_HINT. -/
def execLoadHint (dies : Fin 16) (drone48 : BitVec 48) (s : State) : Answer :=
  if s.host.ready ∧ s.rd OD.EXPERT_EN = 1 then
    .next ((s.noteWrites [(OD.LOAD_HINT, 0, dies.val + 2 ^ 16 * drone48.toNat)]).loadHint dies drone48.toNat)
  else .next s

/-- Cycle of a tick boundary to come. -/
def State.boundaryCycle (s : State) (n : Nat) : Nat :=
  if n ≤ s.drone then s.clock.bnd else s.nextBoundary + (n - s.drone - 1) * s.tickdiv

/-- HINT_BOOST_START: the hint that comes first acts HINT_LEAD cycles before its boundary, or at once; dies under AVS_FAULT
ignore it. -/
def execHintBoostStart (s : State) : Answer :=
  match sortBy Prod.snd s.power.hints with
  | [] => .next s
  | (m, n) :: rest =>
    let c := s.boundaryCycle n
    let s := s.advanceTo (c - s.rd OD.HINT_LEAD)
    let ds := (maskDies m).filter fun d => (s.die d).frozen = false
    let s := { s with power.hints := rest, power.boost := s.power.boost ++ [(m, c + 2048)] }
    .next (ds.foldl (fun s d => (s.updDie d fun x => { x with boosted := true }).railStep d) s)

/-- HINT_BOOST_END: a die named by no other boost loses its own. -/
def execHintBoostEnd (s : State) : Answer :=
  match sortBy Prod.snd s.power.boost with
  | [] => .next s
  | (m, c) :: rest =>
    let s := s.advanceTo c
    let s := { s with power.boost := rest }
    let ds := (maskDies m).filter fun d => !(rest.any fun b => bit b.1 d)
    .next (ds.foldl (fun s d => (s.updDie d fun x => { x with boosted := false }).railStep d) s)

/-! ### Estimate, energy, cap (R443, R444, R456 to R458) -/

/-- The level in force is the higher demand (R456). -/
def State.throttle (s : State) : State := s.wr OD.THROTTLE_LVL 0 (max s.power.capDemand s.power.thermDemand)

/-- Energy of one interval joins ENERGY_UJ; the fraction is kept in units of 2^-16 µJ (R444). -/
def State.addEnergy (s : State) (mw : Nat) : State :=
  let e := s.power.energyFrac + mw * 2048 * 65536 / (s.mhz * 1000)
  let s := s.inc OD.ENERGY_UJ 0 (e / 65536)
  { s with power.energyFrac := e % 65536 }

/-- The cap demand after an interval (R456, R458): `sum` over `n` intervals. -/
def State.capStep (s : State) (sum n : Nat) : State :=
  let cap := s.rd OD.PCAP * 1000 * n
  let win := s.rd OD.CAP_WIN
  let p := s.power
  let below := if 20 * sum < 19 * cap then p.below + 1 else 0
  let move := decide (win ≤ p.sinceMove + 1)
  let up := move && decide (cap < sum ∧ p.capDemand < 17)
  let down := move && decide (win ≤ below ∧ 0 < p.capDemand)
  let unmet := decide (cap < sum ∧ s.rd OD.THROTTLE_LVL = 17 ∧ win ≤ p.sinceUnmet + 1)
  let dem := if up then p.capDemand + 1 else if down then p.capDemand - 1 else p.capDemand
  let s := { s with power.capDemand := dem, power.below := below,
                    power.sinceMove := if up || down then 0 else p.sinceMove + 1,
                    power.sinceUnmet := if unmet then 0 else p.sinceUnmet + 1 }
  let s := s.throttle
  if unmet then (s.inc OD.CAP_UNMET_CNT 0).raisePkg 0x0A07 else s

/-- POWER_ESTIMATE: `mw` is P_est of the interval that ends. -/
def execPowerEstimate (mw : Word32) (s : State) : Answer :=
  if s.boot.stage ≠ 9 ∨ ¬ s.clock.running then .next s
  else
    let hist := (mw.toNat :: s.power.hist).take (s.rd OD.CAP_WIN)
    let sum := hist.foldl (· + ·) 0
    let s := { s with power.hist := hist }
    let s := ((s.wr OD.PWR_EST 0 mw.toNat).wr OD.PWR_AVG 0 (sum / hist.length)).addEnergy mw.toNat
    let s := s.capStep sum hist.length
    .next ((List.range 4).foldl State.lowerRail s)

/-! ### Droop stretch (R29, R51, R450, R451) -/

/-- The largest lag seen, and DROOP_OVERRUN when it exceeds 256 cycles (R51, R52). The model looks at tick boundaries and at the
end of a stretch only; R51 does not say when a lag is noticed (DESIGN CHOICE, log entry 147). -/
def State.noteLag (s : State) (d : Nat) : State :=
  let l := s.lagOf d s.now
  let e := if d = 0 then OD.MAX_LAG_D0 else if d = 1 then OD.MAX_LAG_D1 else if d = 2 then OD.MAX_LAG_D2 else OD.MAX_LAG_D3
  let s := if s.rd e < l then s.wr e 0 l else s
  let above := decide (256 < l)
  let was := (s.die d).overrun
  let s := s.updDie d fun x => { x with overrun := above }
  if above && !was then s.raise 0x0202 (dieUnit d) d else s

/-- Dies that stretch together (R451). -/
def State.stretchGroup (s : State) (d : Nat) : List Nat :=
  (s.act.content.stretchGroups.find? fun g => g.contains d).getD [d]

/-- A die begins an episode. -/
def State.beginStretch (s : State) (d cycle : Nat) : State :=
  if (s.die d).stretch.isSome then s
  else (s.updDie d fun x => { x with stretch := some cycle }).inc OD.STRETCH_EPISODES d

/-- DROOP_TRIP: the die stretches at once, the rest of its group 4 cycles later. -/
def execDroopTrip (die : Fin 4) (cycle : Nat) (s : State) : Answer :=
  if ¬ s.clock.running ∨ s.power.tripped then .next s
  else
    let d := die.val
    let s := s.advanceTo cycle
    let s := (s.updDie d fun x => { x with tripped := true }).beginStretch d cycle
    .next (((s.stretchGroup d).filter fun k => decide (k ≠ d)).foldl (fun s k => s.beginStretch k (cycle + 4)) s)

/-- A die's stretch ends at a cycle with `n` edges suppressed. -/
def State.endStretch (s : State) (d n e : Nat) : State :=
  match (s.die d).stretch with
  | none => s
  | some t =>
    let s := s.inc OD.STRETCH_CYC d (e - t)
    let s := s.updDie d fun x => { x with stretch := none, lag := x.lag + n, lastEnd := some e, tripped := false }
    (s.noteLag d).railStep d

/-- Every die of a group ends its episode with as many suppressed edges as the one that suppressed the most: that one now, each
other after two cycles for every edge (R450, R451). -/
def State.endEpisode (s : State) (g : List Nat) (cycle : Nat) : State :=
  let n := g.foldl (fun m d => max m ((s.die d).suppressed cycle)) 0
  let stop (d : Nat) : Nat :=
    if (s.die d).suppressed cycle = n then cycle else max cycle ((s.die d).stretch.elim 0 fun t => t + 2 * n)
  let last := g.foldl (fun m d => max m (stop d)) cycle
  let s := (g.filter fun d => decide (stop d ≤ cycle)).foldl (fun s d => s.endStretch d n cycle) s
  let s' := s.advanceTo last
  (g.filter fun d => decide (cycle < stop d)).foldl (fun s d => s.endStretch d n (stop d)) s'

/-- STRETCH_END: the die's detectors have been clear for 16 cycles; the episode ends once that holds of every die of the
group. -/
def execStretchEnd (die : Fin 4) (cycle : Nat) (s : State) : Answer :=
  let d := die.val
  if (s.die d).stretch.isNone then .next s
  else
    let s := (s.advanceTo cycle).updDie d fun x => { x with tripped := false }
    let g := s.stretchGroup d
    if g.any fun k => (s.die k).tripped then .next s else .next (s.endEpisode g cycle)

/-! ### Gates (R439 to R441, R474) -/

/-- A deep quad of the running image has nothing to do in this deep slot. -/
def State.quadIdle (s : State) (q : Nat) : Bool :=
  (s.deepCfg.quads.any fun e => decide (e.1 = q)) && decide (bits (s.rd OD.FLAT_LOAD) (2 * (q / 16)) 2 ≠ 2) &&
    ((s.quad q).skipped || decide (s.deep.work = [] ∧ s.deep.serving = none))

/-- An occasion for the closure of a block's gate: cores by PCID, cluster quads from 8192, lane quads from 8256 on. -/
def State.gateWanted (s : State) (b : Nat) : Bool :=
  if b < 8192 then (s.faults.safe && s.faults.safeDrained) || (s.act.loadDone && !(s.core b).loaded)
  else if b < 8256 then (s.faults.safe && s.faults.safeDrained) || s.quadIdle (b - 8192)
  else decide (b < 8272) && !((quadLanes (b - 8256)).any s.laneOn)

/-- GATE_IDLE_ACK: the gate closes in the next cycle. -/
def execGateIdleAck (block : Nat) (s : State) : Answer :=
  if s.gateWanted block then .next { s with power.gates := SMap.set false s.power.gates block true } else .next s

/-- GATE_REFUSED: the closure is abandoned. -/
def execGateRefused (block : Nat) (s : State) : Answer :=
  if s.gateWanted block && !SMap.get false s.power.gates block then
    .next ((s.inc OD.GATE_REFUSED_CNT 0).raisePkg 0x0A03 (block % 65536))
  else .next s

/-! ### PLLs and muxes (R433 to R438) -/

/-- One side of a lane quad goes back to PLL (R276, R437). -/
def State.lanePllLost (s : State) (q : Nat) (tx : Bool) : State :=
  let st := s.rd OD.LQ_STATUS q
  let s := s.wr OD.LQ_STATUS q (if tx then st - 2 * b2n (bit st 1) else st - b2n (bit st 0))
  (quadLanes q).foldl (fun s l =>
    if tx then (if bit (s.rd OD.LANE_EN l) 1 then s.txStart l else s)
    else if bit (s.rd OD.LANE_EN l) 0 then s.rxStart l else s) s

/-- A PLL whose loss stops the running configuration: every core PLL; the hub, HBM and time PLLs and a Girder PLL in use. -/
def State.pllUsed (s : State) (k : Nat) : Bool :=
  decide (k ≤ 4) || (s.act.running && (decide (k ≤ 7) || decide (k = 8 ∧ s.rd OD.ROLE ≠ 0)))

/-- PLL_UNLOCK: PLLs in the order of PLL_LOCK, then the receive and transmit PLL of each lane quad (R437). -/
def execPllUnlock (pll : Fin 42) (s : State) : Answer :=
  let k := pll.val
  if ¬ s.clock.running then .next s
  else if 10 ≤ k then .next (s.lanePllLost ((k - 10) / 2) (decide (k % 2 = 1)))
  else if ¬ bit (s.rd OD.PLL_LOCK) k then .next s
  else
    let s := s.wr OD.PLL_LOCK 0 (s.rd OD.PLL_LOCK - 2 ^ k)
    .next (if s.pllUsed k then s.refLossStop.raisePkg 0x0A02 k else s)

/-- CLOCK_MUX_SWITCH: mux 0 the reference mux, 1 to 6 the bypass muxes, 7 the CLKMON mux, which passes what is selected. -/
def execClockMuxSwitch (mux : Fin 8) (src : Fin 64) (s : State) : Answer :=
  let m := mux.val
  if m = 0 then .next (if 1 ≤ src.val ∧ src.val ≤ 5 then s.wr OD.REF_SRC 0 src else s)
  else if m = 7 then .next { s with power.mux := SMap.set 0 s.power.mux 7 (s.rd OD.CLKMON_SEL) }
  else .next { s with power.mux := SMap.set 0 s.power.mux m (min src.val 1) }

/-- A lost reference: on a worker that of its upstream port; else the device stops and holds over, unless another source
takes its place (R368, R436). -/
def State.referenceLost (s : State) (src : Nat) : State :=
  let old := s.rd OD.REF_SRC
  match s.girder.upstream with
  | some p => if s.isWorker ∧ old = 2 + p then s.upstreamLost p (decide (src = 1)) else (s.deadClock 0 old).refLossStop.wr OD.REF_SRC 0 src
  | none =>
    let s := (s.deadClock 0 old).refLossStop
    if src ≠ 0 ∧ src ≠ old then s.wr OD.REF_SRC 0 src
    else { s with girder.holdover := some s.now, girder.refDead := true }

/-- DEAD_CLOCK: the watchdog forces the switch to `src` (R436). -/
def execDeadClock (mux : Fin 8) (src : Fin 64) (s : State) : Answer :=
  let m := mux.val
  if ¬ s.clock.running then .next s
  else if m = 7 then
    .next ({ s with power.mux := SMap.set 0 s.power.mux 7 (s.rd OD.CLKMON_SEL) }.inc OD.DEAD_CLOCK_CNT 0)
  else if m = 0 then .next (s.referenceLost (if src.val ≤ 5 then src.val else 0))
  else
    let s := (s.deadClock m (SMap.get 0 s.power.mux m)).refLossStop
    .next { s with power.mux := SMap.set 0 s.power.mux m (min src.val 1) }

/-- Frequency of a CLKMON source in kHz, none for a reserved code (R438). -/
def State.clkmonKhz (s : State) (sel : Nat) : Option Nat :=
  if sel = 0 ∨ sel = 48 then some 0
  else if sel = 1 then some (if s.rd OD.REF_SRC = 1 then 100000 else 156250)
  else if sel = 2 then some 100000
  else if sel ≤ 11 then some (s.mhz * 1000)
  else if sel = 12 then some 800000
  else if sel = 13 then some 1000000
  else if sel = 14 then some 250000
  else if sel = 15 then some 156250
  else if sel ≤ 31 then some (ceilDiv (s.rd OD.RX_RATE (sel - 16)) 64)
  else if sel ≤ 47 then
    let q := sel - 32
    some (ceilDiv (if s.rd OD.TX_LOCK q = 0 then s.rd OD.TX_RATE q else lockRate (s.rd OD.TX_LOCK q) s.mhz) 64)
  else none

/-- A CLKMON setting is allowed: a listed source, a divider of 1 to 4,096, at most 250 MHz. -/
def State.clkmonOk (s : State) (sel div : Nat) : Bool :=
  decide (1 ≤ div ∧ div ≤ 4096) && (s.clkmonKhz sel).any fun f => decide (f ≤ 250000 * div)

/-- The setting takes effect at once through its mux. -/
def State.clkmon (s : State) (sel div : Nat) : State :=
  let s := (s.wr OD.CLKMON_SEL 0 sel).wr OD.CLKMON_DIV 0 div
  { s with power.mux := SMap.set 0 s.power.mux 7 sel }

/-- CLKMON_WRITE. -/
def execClkmonWrite (sel : Byte) (div : Word16) (s : State) : Answer :=
  if s.host.ready ∧ s.rd OD.EXPERT_EN = 1 ∧ s.clkmonOk sel.toNat div.toNat then
    .next ((s.noteWrites [(OD.CLKMON_SEL, 0, sel.toNat), (OD.CLKMON_DIV, 0, div.toNat)]).clkmon sel.toNat div.toNat)
  else .next s

/-! ### Thermal limits (R459 to R461) -/

/-- THERM_TRIP (R461): the switched domains lose their state, HBM contents become undefined, TRIGOUT keeps the fail-safe
levels, the lanes stop; the part in progress is not sealed. What the hub holds stays. -/
def State.thermTrip (s : State) (loc : Nat) : State :=
  let f := s.fabric
  let keep (_ : Nat) (k : Cluster) : Cluster := { standIn := k.standIn, spareBad := k.spareBad, degraded := k.degraded,
                                                  trussFenced := k.trussFenced }
  let calm (_ : Nat) (d : Decide) : Decide :=
    { d.setFailsafe true s.now with flights := [], buffer := [], substituted := [] }
  let s := { s with
    fabric := { clusters := SMap.mapVals {} keep f.clusters, fencedCores := f.fencedCores, fencedPos := f.fencedPos, viaBad := f.viaBad },
    decisions := SMap.mapVals {} calm s.decisions, lanes := [], ingest := [], capt := [], groups := [], deep := {} }
  let s := { s with hbm := s.hbm.undefine 0 (96 * giB) s.freeCtr, freeCtr := s.freeCtr + 1, audit.cur := none,
                    act.pending := none, act.admitOn := false, act.running := false, act.loadDone := false,
                    act.sweepAt := none, tape.waiting := [], tape.held := [], tape.replaying := false,
                    faults.repairs := [], power.tripped := true }
  let s := if s.recording then s.setRecState 3 0 else s
  let s := s.clrEntries [OD.RX_STATE, OD.TX_STATE, OD.LQ_STATUS, OD.DOMAIN_ON, OD.PRBS_LOCK]
  let s := (s.capToLicence.wr OD.DAMP_STATE 0 6).wr OD.THERM_STATE 0 2
  s.raisePkg 0x0A09 loc

/-- Hottest of some sensors. -/
def hottest (l : List Int) : Int := l.foldl max (-(2 ^ 31 : Nat))

/-- THERM_SAMPLE: 68 readings in 0.25 °C, die d's sensors at 16d to 16d + 15 and the hub's at 64 to 67. -/
def execThermSample (readings : List Int) (s : State) : Answer :=
  if ¬ s.clock.running ∨ s.power.tripped then .next s
  else
    let die (d : Nat) : Int := hottest ((readings.drop (16 * d)).take 16)
    let s := (List.range 4).foldl (fun s d => s.wrI OD.TJ_DIE d (die d)) s
    let s := s.wrI OD.TJ_HUB 0 (hottest (readings.drop 64))
    let top := hottest readings
    let s := if s.rdI OD.TJ_MAX_SEEN < top then s.wrI OD.TJ_MAX_SEEN 0 top else s
    let hot := (List.range readings.length).foldl (fun m i =>
      SMap.set 0 m i (if 460 ≤ readings.getD i 0 then SMap.get 0 m i + 1 else 0)) s.power.hot
    let s := { s with power.hot := hot }
    match hot.find? fun p => decide (4 ≤ p.2) with
    | some p => .next (s.thermTrip (p.1 / 16))
    | none =>
      if s.rd OD.THERM_STATE = 0 ∧ (s.rd OD.THERM_THR : Int) * 4 ≤ top then .next ((s.wr OD.THERM_STATE 0 1).raisePkg 0x0A08)
      else .next s

/-- The hottest sensor of the last sample. -/
def State.hottestNow (s : State) : Int := hottest (s.rdI OD.TJ_HUB :: (List.range 4).map fun d => s.rdI OD.TJ_DIE d)

/-- THERMAL_DEMAND_STEP: every 256 intervals while throttling (R460). -/
def execThermalDemandStep (s : State) : Answer :=
  let t := s.hottestNow
  let thr : Int := s.rd OD.THERM_THR
  if s.rd OD.THERM_STATE ≠ 1 then .next s
  else if thr * 4 ≤ t then
    let s := { s with power.thermDemand := min 17 (s.power.thermDemand + 1) }
    .next s.throttle
  else if t ≤ (thr - 5) * 4 then
    let n := s.power.thermDemand - 1
    let s := { s with power.thermDemand := n }
    .next (if n = 0 then s.throttle.wr OD.THERM_STATE 0 0 else s.throttle)
  else .next s

end Sys2Proof.Machine
end

