-- ==== Sys2Proof/Machine/Counters.lean ====
section
/-! DEFINITION. The commands that clear counters: each returns the entries its chapter names to their reset values. -/

namespace Sys2Proof.Machine

/-- Every latency counter and extreme of OD 2011 to 2013 (R52). -/
def monCounters : List Entry :=
  [OD.LATE_TOTAL, OD.SUBST_TOTAL, OD.LATE_DROP_TOTAL, OD.MAX_LAG_D0, OD.MAX_LAG_D1, OD.MAX_LAG_D2, OD.MAX_LAG_D3,
   OD.LATE_COUNT, OD.MIN_MARGIN]

def State.monClear (s : State) : State := s.clrEntries monCounters

/-- MON_CLEAR (R52). -/
def execMonClear (s : State) : Answer :=
  if s.hostMay then .next (s.noteWrites [(OD.MON_CLEAR, 0, 1)]).monClear else .next s

/-- 2020.03 to 2020.08 in every core and every counter in 2021 (R95). -/
def coreCounters : List Entry :=
  [OD.CORE_CE, OD.CORE_STEER_MM, OD.CORE_STALE, OD.CORE_ACC_SAT, OD.CORE_VOID_OUT, OD.CORE_LINK_CE, OD.STEER_MISMATCH_TOTAL,
   OD.STALE_TOKEN_TOTAL, OD.TOKEN_FORMAT_TOTAL, OD.CORE_CE_TOTAL, OD.CORE_UE_TOTAL, OD.LINK_UE_TOTAL, OD.ACC_SAT_TOTAL]

def State.coreCntClear (s : State) : State := s.clrEntries coreCounters

/-- CORE_CNT_CLEAR (R95). -/
def execCoreCntClear (s : State) : Answer :=
  if s.hostMay then .next (s.noteWrites [(OD.CORE_CNT_CLEAR, 0, 1)]).coreCntClear else .next s

/-- 2030.04 to 2030.06 and 2030.0A for all layers (R114). -/
def satCounters : List Entry := [OD.LAYER_SAT_WIN, OD.LAYER_SAT_TOTAL, OD.DRIFT_TOTAL, OD.SCALE_SKEW_TOTAL]

def State.satClear (s : State) : State := s.clrEntries satCounters

/-- SAT_CLEAR (R114). -/
def execSatClear (s : State) : Answer :=
  if s.hostMay then .next (s.noteWrites [(OD.SAT_CLEAR, 0, 1)]).satClear else .next s

/-- 2040.09 to 2040.0B in every cluster and every counter in 2041 (R158). -/
def fabricCounters : List Entry := [OD.DECK_CE, OD.DECK_UE, OD.FENCED_DROP, OD.VIA_CE, OD.VIA_UE, OD.TRUSS_UE_TOTAL]

def State.fabricCntClear (s : State) : State := s.clrEntries fabricCounters

/-- FABRIC_CNT_CLEAR (R158). -/
def execFabricCntClear (s : State) : Answer :=
  if s.hostMay then .next (s.noteWrites [(OD.FABRIC_CNT_CLEAR, 0, 1)]).fabricCntClear else .next s

/-- 5000.06 to 5000.09, 5010.03 to 5010.05 and 5020.04 to 5020.0C (R224). -/
def deepCounters : List Entry :=
  [OD.HBM_CE, OD.HBM_UE, OD.HBM_TEMP, OD.HBM_REISSUE, OD.DSLOT_COUNT, OD.DSLOT_SKIP, OD.DEEP_OVERRUN_CNT, OD.HIST_WRITTEN,
   OD.HANDOFF_OVR, OD.CAND_LOST, OD.CAND_DROP, OD.CAND_SPILL, OD.SPILL_VOID, OD.RECALL_CNT, OD.HIST_STALE, OD.DEEP_LAT_MAX]

def State.deepCntClear (s : State) : State := s.clrEntries deepCounters

/-- DEEP_CNT_CLEAR (R224). -/
def execDeepCntClear (s : State) : Answer :=
  if s.hostMay then .next (s.noteWrites [(OD.DEEP_CNT_CLEAR, 0, 1)]).deepCntClear else .next s

/-- 5101.0B to 5101.11 of the selected group (R247). -/
def State.adaptCntClear (s : State) (g : Nat) : State := adaptCounters.foldl (fun s e => s.clr e g) s

/-- ADAPT_CNT_CLEAR (R247). -/
def execAdaptCntClear (s : State) : Answer :=
  if s.hostMay then
    .next ((s.noteWrites [(OD.ADAPT_CNT_CLEAR, s.rd OD.ADAPT_SEL, 1)]).adaptCntClear (s.rd OD.ADAPT_SEL))
  else .next s

/-- Every counter in 3020, 3022 and 3030 (R279). -/
def laneCounters : List Entry :=
  [OD.CODE_ERR, OD.LANE_CRC_ERR, OD.FEC_CORR, OD.FEC_UNCORR, OD.LOCK_LOSS, OD.FILL_DEL, OD.FILL_INS, OD.LANE_SUBST,
   OD.TX_DISCARD, OD.DEEP_TX_DROP, OD.PRBS_ERR, OD.PRBS_BITS, OD.FRAMES_OK, OD.FRAMES_VOID, OD.VOID_LANE, OD.VOID_CHECK,
   OD.FRAME_LATE, OD.FRAME_EARLY, OD.FRAME_DUP]

def State.laneCntClear (s : State) : State := s.fillAll.clrEntries laneCounters

/-- LANE_CNT_CLEAR (R279). -/
def execLaneCntClear (s : State) : Answer :=
  if s.hostMay then .next (s.noteWrites [(OD.LANE_CNT_CLEAR, 0, 1)]).laneCntClear else .next s

/-- 4010.09 and OD 4014 for every stream and channel (R310). -/
def trgCounters : List Entry :=
  [OD.TF_FIRES, OD.TRIG_CNT, OD.TRIG_IGNORED, OD.SEG_DONE, OD.CAPT_OVF, OD.MASK_FAILS, OD.SEG_DISCARD]

def State.trgCntClear (s : State) : State := s.clrEntries trgCounters

/-- TRG_CNT_CLEAR (R310). -/
def execTrgCntClear (s : State) : Answer :=
  if s.hostMay then .next (s.noteWrites [(OD.TRG_CNT_CLEAR, 0, 1)]).trgCntClear else .next s

/-- Counters among 1001.03 to 1001.0D (R400). PCIE_LINK, which lies in that range, reports the link and is no counter. -/
def hostCounters : List Entry :=
  [OD.TXN_COMMITTED, OD.TXN_REFUSED, OD.TXN_FAILED_CNT, OD.LAST_TXN_FAIL, OD.MB_OVERRUNS, OD.PCIE_AER_CE, OD.PCIE_AER_UE,
   OD.BAR2_DENY, OD.BAR2_POISON, OD.EVT_LOST_TOTAL]

def State.hostCntClear (s : State) : State :=
  { s.clrEntries hostCounters with host.lost := 0, host.overrun := false }

/-- HOST_CNT_CLEAR: with EVT_LOST and MB_STATUS[3] (R400). -/
def execHostCntClear (s : State) : Answer :=
  if s.host.ready then .next (s.noteWrites [(OD.HOST_CNT_CLEAR, 0, 1)]).hostCntClear else .next s

/-- 7000.06, 7000.07, 7010.07, 7010.0D, 7010.0E and 7020.0D to 7020.14 (R463). -/
def pwrCounters : List Entry :=
  [OD.DEAD_CLOCK_CNT, OD.GATE_REFUSED_CNT, OD.CAP_UNMET_CNT, OD.FREQ_DEFER, OD.FREQ_ABANDON, OD.STRETCH_EPISODES, OD.STRETCH_CYC]

def State.pwrCntClear (s : State) : State := s.clrEntries pwrCounters

/-- PWR_CNT_CLEAR (R463). -/
def execPwrCntClear (s : State) : Answer :=
  if s.host.ready then .next (s.noteWrites [(OD.PWR_CNT_CLEAR, 0, 1)]).pwrCntClear else .next s

end Sys2Proof.Machine
end

