-- ==== Sys2Proof/Machine/Engine.lean ====
section
/-! DEFINITION. The commands of the engine and of the loads and stores of a microword (R71 to R77, R88, R118 to R127), and the
errors of core memories (R78, R94). Each acts on its core in the present cycle as the same field of a word that the
core's sequencer issues (R79, R83; log entry 136). -/

namespace Sys2Proof.Machine

/-! ### Engine steps -/

/-- An engine step that reads a weight word: a corrected word is counted; an uncorrectable one marks the result V, is counted
and recorded, with a rollback in an adaptable pair (R78, R243). -/
def State.stepWith (s : State) (p : Nat) (e : Ecc) (f : Bool → Core → Core) : State :=
  match e with
  | .ok => s.issue p fun _ => f false
  | .corrected => (s.issue p fun _ => f false).coreCe p
  | .uncorrected => ((s.issue p fun _ => f true).coreUe p).bankError (s.core p)

/-- MAC8: ACC[a].i := ACC[a].i + Σ W[i][j] × v[j] over 8 elements (R71). -/
def execMac8 (core : Nat) (w : Word64) (ecc : Ecc) (s : State) : Answer :=
  if s.alive core then .next (s.stepWith core ecc fun ue c => c.macStep w ue mac8Sum) else .next s

/-- MAC4: the same over 16 INT4 elements (R71). -/
def execMac4 (core : Nat) (w : Word64) (ecc : Ecc) (s : State) : Answer :=
  if s.alive core then .next (s.stepWith core ecc fun ue c => c.macStep w ue mac4Sum) else .next s

/-- SCALE_STEP (R120, R126). -/
def execScaleStep (core : Nat) (w : Word64) (ecc : Ecc) (s : State) : Answer :=
  if s.alive core then .next (s.stepWith core ecc fun ue c => c.scaleStep w ue) else .next s

/-- DATA_STEP (R121, R126, R127). -/
def execDataStep (core : Nat) (w : Word64) (ecc : Ecc) (s : State) : Answer :=
  if s.alive core then .next (s.stepWith core ecc fun ue c => c.dataStep w ue) else .next s

/-! ### Loads and stores -/

/-- LOAD_INPUT_FLIT: LDS 1 (R74, R82, R93, R119). -/
def execLoadInputFlit (core : Nat) (w : Word64) (s : State) : Answer :=
  if s.alive core then .next (s.issue core fun _ c => c.loadFlit w) else .next s

/-- LOAD_ACTIVATION_WORD: LDS 2 restores the word with its marks; an uncorrectable word loads as zero with V, CAUSE 0x03
(R74, R77, R78). -/
def execLoadActivationWord (core : Nat) (w : Word64) (ecc : Ecc) (s : State) : Answer :=
  if s.alive core then
    match ecc with
    | .ok => .next (s.issue core fun _ c => c.loadWord w false)
    | .corrected => .next ((s.issue core fun _ c => c.loadWord w false).coreCe core)
    | .uncorrected => .next ((s.issue core fun _ c => c.loadWord w true).coreUe core)
  else .next s

/-- LOAD_PARTIAL_SUM: LDS 3 loads two lanes of ACC[LDR[3:0]] (R82, R88, R93). -/
def execLoadPartialSum (core : Nat) (w : Word64) (s : State) : Answer :=
  if s.alive core then .next (s.issue core fun _ c => c.loadSum w) else .next s

/-- STORE_ACTIVATION: EMT 4 stores OPR[SREG] with its marks and block tag at AG[SAG] (R74, R77, R119). -/
def execStoreActivation (core : Nat) (w : Word64) (s : State) : Answer :=
  if s.alive core then .next (s.issue core fun _ c => c.store w) else .next s

/-! ### Memory and parity errors (R78, R94) -/

/-- Bytes of a word written in a weight SRAM. -/
def Core.writeWord (c : Core) (addr : Nat) (v : Word64) : Core :=
  { c with weights := SMap.putRange 0 c.weights (addr / 8 * 8) (leBytes 8 v.toNat) }

/-- WEIGHT_WORD_REWRITE: the hub controller writes the failed word again with its value in the active slot image, or in an
adaptable pair with that of the baseline; a second failure of the word within 2^30 cycles fences the core (R78, R477). -/
def execWeightWordRewrite (core : Nat) (addr : Fin 32768) (s : State) : Answer :=
  if ¬ s.alive core then .next s
  else
    let c := s.core core
    let word := addr.val / 8
    let again := match c.weightFail.find? (fun p => decide (p.1 = word)) with
      | some p => decide (s.now < p.2 + 2 ^ 30)
      | none => false
    let c := { c.writeWord addr.val (s.loadedWord core word) with weightFail := SMap.put c.weightFail word s.now }
    let s := s.setCore core c
    .next (if again then s.fence core else s)

/-- CORE_PARITY: the core is fenced and emits no further token (R94, R477). -/
def execCoreParity (core : Nat) (s : State) : Answer :=
  if s.fenced core ∨ ¬ (s.core core).loaded then .next s
  else .next ((s.raise 0x0007 (coreUnit core) core).fence core)

end Sys2Proof.Machine
end

