-- ==== Sys2Proof/Machine/Report.lean ====
section
/-! DEFINITION. What a read of a dictionary entry returns: the stored cell, or for an entry that reports something the device
holds elsewhere the value worked out from it; the units a selector can name (R389) and the records of a snapshot (R486). -/

namespace Sys2Proof.Machine

/-! ### Selectors (R389) -/

/-- Selector values that a message has picked, by cell key. -/
abbrev Picks := List (Nat × Nat)

/-- Value of a selector: picked in the message, else the one in force. -/
def State.pick (s : State) (pk : Picks) (e : Entry) : Nat :=
  match pk.find? fun p => decide (p.1 = e.key 0) with
  | some p => p.2
  | none => s.rd e

/-- The core that serves the logical core of a CORE_SEL value. -/
def State.selCore (s : State) (v : Nat) : Option Nat := s.pcidOf (bits v 0 6) (bits v 8 6)

/-- The physical cluster of a logical cluster number 16Y + X. -/
def State.selCluster (s : State) (v : Nat) : Option Nat := s.clusterAt (v % 16) (v / 16)

/-- Unit that the selectors name for an entry; none where the selector names nothing the grade has. -/
def State.unitOf (s : State) (pk : Picks) (e : Entry) : Option Nat :=
  let p := s.pick pk
  match e.sel with
  | .none => some 0
  | .array => some 0
  | .core => s.selCore (p OD.CORE_SEL)
  | .cluster => s.selCluster (p OD.CLUSTER_SEL)
  | .iq => some (chUnit (bits (p OD.IQ_SEL) 0 6) (bits (p OD.IQ_SEL) 8 4))
  | .layer => some (p OD.LAYER_SEL)
  | .dstream => some (p OD.DSTREAM_SEL)
  | .adapt => some (p OD.ADAPT_SEL)
  | .quad => some (p OD.LQ_SEL)
  | .lane => some (p OD.LANE_SEL)
  | .stream => some (p OD.STREAM_SEL)
  | .trgStream => some (p OD.TRG_STREAM_SEL)
  | .trgCh => some (chUnit (p OD.TRG_STREAM_SEL) (p OD.TRG_CH_SEL))
  | .trgItem =>
    if e.idx = 0x4011 ∧ 8 ≤ p OD.TRG_ITEM_SEL then none else some (chUnit (p OD.TRG_STREAM_SEL) (p OD.TRG_ITEM_SEL))
  | .maskTab => some (p OD.MASK_TAB_SEL)
  | .pin => some (p OD.PIN_SEL)
  | .port => some (p OD.PORT_SEL)
  | .roster => some (p OD.ROSTER_SEL)
  | .tb => some (p OD.TB_SEL)
  | .keyhash => some (p OD.KEYHASH_SEL)

/-- Every unit a selector can name, as (selector value, unit), in ascending selector value; a pair of selectors counts as
stream + 256 × channel. -/
def State.selectorUnits (s : State) (e : Entry) : List (Nat × Nat) :=
  let upTo (n : Nat) : List (Nat × Nat) := (List.range n).map fun i => (i, i)
  let pairs (n : Nat) : List (Nat × Nat) :=
    (List.range n).flatMap fun c => streams.map fun st => (st + 256 * c, chUnit st c)
  match e.sel with
  | .none => [(0xFFFF, 0)]
  | .array => (List.range e.units).map fun i => (0xFFFF, i)
  | .core => (List.range 64).flatMap fun y => (List.range 64).filterMap fun x => (s.pcidOf x y).map fun u => (x + 256 * y, u)
  | .cluster => (List.range 256).filterMap fun v => (s.selCluster v).map fun u => (v, u)
  | .iq => pairs 16
  | .trgCh => pairs 16
  | .trgItem => if e.idx = 0x4011 then pairs 8 else pairs 16
  | .roster => (List.range 255).map fun i => (i + 1, i + 1)
  | _ => upTo e.units

/-! ### Fabric reports (R95, R158, R430) -/

/-- Logical clusters of the grade, not DEGRADED, whose spare is free. -/
def State.sparesFree (s : State) : Nat :=
  (List.range 256).countP fun c => (s.logicalCluster c).isSome && !(s.cluster c).degraded && s.spareFree c

/-- DEGRADED clusters by logical cluster number. -/
def State.degradedMask (s : State) : Nat :=
  (List.range 256).foldl (fun m l =>
    match s.selCluster l with
    | some c => m + b2n (s.cluster c).degraded * 2 ^ l
    | none => m) 0

/-- The home core of the position a core serves. -/
def State.homeOf (s : State) (p : Nat) : Nat :=
  if pcidPos p < 16 then p else mkPcid (pcidCluster p) ((s.cluster (pcidCluster p)).standIn - 1)

/-- CORE_STATE of the core that serves a logical core (R95). -/
def State.coreState (s : State) (p : Nat) : Nat :=
  let c := pcidCluster p
  b2n (decide (s.rd OD.ACTIVE_SLOT ≠ 0xFF) && (s.core p).program) + 2 * b2n (s.fenced (s.homeOf p)) + 4 * b2n (decide (pcidPos p = 16)) +
    8 * b2n (s.clusterUsed c && !s.deepRole c) + 16 * b2n (s.errUnit (coreUnit p)).primary.isSome + 32 * s.rd OD.EPOCH

/-- CLUSTER_STATE (R158). -/
def State.clusterState (s : State) (c : Nat) : Nat :=
  let k := s.cluster c
  b2n (s.clusterUsed c) + 2 * b2n (s.deepRole c) + 4 * b2n (decide (k.standIn ≠ 0)) + 8 * b2n k.degraded +
    16 * (if k.standIn = 0 then 31 else k.standIn - 1) + 2 ^ 9 * b2n (s.mixedQuad c)

/-! ### Other reports -/

/-- TICK_RATE in Hz, rounded down (R34). -/
def State.tickRate (s : State) : Nat := s.mhz * 1000000 / s.tickdiv

/-- TICKIN_STATUS (R34): phase applied is held in the cell. -/
def State.tickinStatus (s : State) : Nat :=
  s.rd OD.TICKIN_STATUS % 2 + 2 * b2n (s.clock.tickinSeen.any fun c => decide (s.now ≤ c + 2 ^ 24)) +
    4 * b2n (decide (s.rd OD.ROLE = 1))

/-- E of rank 0, and the cycles added per rank, of a decision lane (R270). -/
def State.latTx (s : State) (l : Nat) : Nat :=
  let t := lockTiming (s.rd OD.TX_LOCK (l / 4))
  if s.rd OD.TX_KIND l = 1 then t.1 + t.2 else 0
def State.latStep (s : State) (l : Nat) : Nat :=
  if s.rd OD.TX_KIND l = 1 then (lockTiming (s.rd OD.TX_LOCK (l / 4))).2 else 0

/-- Bases of the regions in the order of R197. -/
def State.mapBases (s : State) : List Byte :=
  [0, slotBase 0, slotBase 1, histBase, captBase, s.replayBase, s.scratchBase, s.freeBase].flatMap (leBytes 8)

/-- GRP_STATE (R247). -/
def State.grpState (s : State) (g : Nat) : Nat :=
  b2n (decide (g < s.groupCount)) + 2 * b2n (decide (s.rd OD.ADAPT_ENABLE = 0)) + 4 * b2n (decide ((s.grp g).masters = [])) +
    8 * b2n (s.grp g).armed.isSome

/-- ROSTER_ENTRY (R353). -/
def State.rosterBytes (s : State) (a : Nat) : List Byte :=
  let e := s.roster a
  leBytes 8 e.serial ++ leBytes 1 e.grade ++ leBytes 1 e.stepping ++ leBytes 1 e.depth ++ leBytes 2 e.parent ++ leBytes 1 e.port ++
    leBytes 1 e.state ++ leBytes 4 e.joins ++ leBytes 6 (e.changed % 2 ^ 48) ++ List.replicate 7 0

/-- DOMAIN_ON: cluster-quad domains as switched, lane quads as powered (R442). -/
def State.domainOn (s : State) : Nat :=
  s.rd OD.DOMAIN_ON % 2 ^ 64 + (List.range 16).foldl (fun n q => n + b2n (bit (s.rd OD.LQ_STATUS q) 2) * 2 ^ (64 + q)) 0

/-- An error record's 32 bytes (R469). -/
def ErrRec.bytes (r : ErrRec) : List Byte :=
  leBytes 2 r.code ++ leBytes 1 r.sev ++
    leBytes 1 (r.raised + 4 * r.level + 16 * b2n r.escalated + 32 * b2n r.counted + 64 * b2n r.safe) ++ leBytes 6 r.drone ++
    leBytes 8 r.tcount ++ leBytes 2 r.loc ++ leBytes 2 r.unit ++ leBytes 4 r.secondary ++ leBytes 2 r.detail ++ leBytes 4 r.logseq

/-- A unit holds an uncleared primary. -/
def State.pendingErr (s : State) (u : Nat) : Bool := (s.errUnit u).primary.isSome

/-- ERR_PENDING (R488). -/
def State.errPending (s : State) : Nat :=
  let cl (c : Nat) : Bool := s.pendingErr (clusterUnit c) || (List.range 17).any fun i => s.pendingErr (coreUnit (mkPcid c i))
  (List.range 256).foldl (fun n c => n + b2n (cl c) * 2 ^ c) 0 +
    (List.range 4).foldl (fun n d => n + b2n (s.pendingErr (dieUnit d)) * 2 ^ (256 + d)) 0 + b2n (s.pendingErr pkgUnit) * 2 ^ 260

/-- ERRLOG_READ: up to 31 entries from ERRLOG_IDX to the last one made; one no longer held reads as zeros (R473). -/
def State.errlogRead (s : State) (idx : Nat) : List Byte :=
  let ahead := (s.rd OD.ERRLOG_SEQ + 2 ^ 32 - idx % 2 ^ 32) % 2 ^ 32
  let n := if ahead < 2 ^ 31 then min 31 ahead else 0
  (List.range n).flatMap fun i =>
    match s.faults.log.find? fun r => decide (r.logseq = (idx + i) % 2 ^ 32) with
    | some r => r.bytes
    | none => List.replicate 32 0

/-- SNAP_BANKS (R485). -/
def State.snapBanks (s : State) : Nat :=
  let f := s.faults
  b2n f.bank0.taken + 2 * b2n f.bank1.taken + 4 * b2n f.bank0.copied + 8 * b2n f.bank1.copied

/-- PRESENCE (R430). -/
def State.presenceBits (s : State) : Nat :=
  b2n s.presenceHolds + 2 * b2n (!s.lic.presentN) + 4 * b2n (s.lic.windowEnd.any fun t => decide (s.tcount < t)) +
    8 * b2n s.lic.sealIntact + 16 * b2n s.lic.sealLatched

/-- PRES_WINDOW: seconds left, a part of a second counting as one. -/
def State.presWindow (s : State) : Nat := s.lic.windowEnd.elim 0 fun t => ceilDiv (t - s.tcount) 1000000000

/-- DEBUG_STATE (R429, R505). -/
def State.debugState (s : State) : Nat :=
  b2n s.boot.unlocked + 2 * b2n (decide (s.fuse 4992 1 = 1)) + 4 * b2n (decide (s.boot.tap ≠ .bypass ∧ s.boot.tap ≠ .idcode))

/-- The seal-log entry a SEAL_SEL value names (R327). -/
def State.sealOf (s : State) (sel : Nat) : Option SealEntry :=
  s.audit.log.find? fun e => decide (sealNumber e.win e.part = sel)

/-- SEAL_BODY: the first 632 bytes of R322, then the seal value; zeros for a seal that is not held. -/
def State.sealBody (s : State) (sel : Nat) : List Byte :=
  match s.sealOf sel with
  | some e => e.body.take 632 ++ leBytes 32 e.value
  | none => List.replicate 664 0

/-- SEAL_EVT: an event entry of that seal. -/
def State.sealEvt (s : State) (sel i : Nat) : List Byte :=
  match s.sealOf sel with
  | some e => padTo 0 64 ((e.body.drop (632 + 64 * i)).take 64)
  | none => List.replicate 64 0

/-- LAUNCH_ARGS is held as its bytes with its length above them. -/
def packArgs (bs : List Byte) : Nat := leNat bs + 2 ^ 8000 * bs.length
def argBytes (v : Nat) : List Byte := leBytes (v / 2 ^ 8000) (v % 2 ^ 8000)

/-! ### Values -/

/-- Entries whose value is worked out, apart from selectors and byte strings of varying length. -/
def computed : List (Entry × (State → Nat → Nat)) :=
  [(OD.TXN_PENDING, fun s _ => s.dict.txns.length), (OD.SPARES_FREE, fun s _ => s.sparesFree), (OD.TICK_RATE, fun s _ => s.tickRate),
   (OD.TICKIN_STATUS, fun s _ => s.tickinStatus), (OD.CORE_STATE, State.coreState), (OD.DEGRADED_MASK, fun s _ => s.degradedMask),
   (OD.PCID_OF_SEL, fun _ u => u), (OD.CLUSTER_STATE, State.clusterState), (OD.LANES_ENABLED, fun s _ => s.lanesOn),
   (OD.TX_RATE, fun s u => if s.rd OD.TX_LOCK u = 0 then s.rd OD.TX_RATE u else lockRate (s.rd OD.TX_LOCK u) s.mhz),
   (OD.LAT_E_TX, State.latTx), (OD.LAT_E_STEP, State.latStep),
   (OD.LB_BYTES, fun s u => leNat ((List.range 8).flatMap fun i => leBytes 2 (rdLb s.inForceRd u i))),
   (OD.CAPT_STATE, fun s u => (s.cap u).st + 8 * (s.cap u).reason)] ++
  [(OD.HBM_SIZE, fun s _ => s.hbmSize), (OD.MAP_BASES, fun s _ => leNat s.mapBases),
   (OD.QUAD_FREQ, fun s _ => leNat ((List.range 64).flatMap fun q => leBytes 1 (8 - (s.quad q).step))),
   (OD.GRP_STATE, State.grpState), (OD.ROSTER_ENTRY, fun s u => leNat (s.rosterBytes u)), (OD.TCOUNT, fun s _ => s.tcount),
   (OD.TB_TIME, fun s u => time96 (s.linearNow u)), (OD.DRONE, fun s _ => s.drone), (OD.CYCLE64, fun s _ => s.now % 2 ^ 64),
   (OD.DOMAIN_ON, fun s _ => s.domainOn)] ++
  [(OD.ERR_PKG_PRIMARY, fun s _ => (s.errUnit pkgUnit).primary.elim 0 fun r => leNat r.bytes),
   (OD.ERR_PKG_SECONDARY, fun s _ => (s.errUnit pkgUnit).secondary), (OD.ERR_PENDING, fun s _ => s.errPending),
   (OD.SNAP_BANKS, fun s _ => s.snapBanks), (OD.PRESENCE, fun s _ => s.presenceBits), (OD.PRES_WINDOW, fun s _ => s.presWindow),
   (OD.KEY_REVOKE, fun s _ => s.fuse 4864 4), (OD.FW_SVN_FLOOR, fun s _ => s.svnFloor), (OD.KEYHASH, State.keyHash),
   (OD.OWNER, fun s _ => s.fuse 5120 256), (OD.DEBUG_STATE, fun s _ => s.debugState), (OD.FUSE_CMD, fun _ _ => 0),
   (OD.WIN_CUR, fun s _ => windowOf s.tickNo % 2 ^ 32), (OD.WRAP_CUR, fun s _ => windowOf s.tickNo / 2 ^ 32)]

/-- Value in force of unit `u` of an entry, as a number. -/
def State.value (s : State) (e : Entry) (u : Nat) : Nat :=
  match computed.find? fun p => decide (p.1.key 0 = e.key 0) with
  | some p => p.2 s u
  | none => s.rd e u

/-! ### Snapshots (R486) -/

/-- A snapshot holds an entry: RO, of type U8 to I64 or BITS, in indices 2000 to 7FFF or A000. -/
def inSnapshot (e : Entry) : Bool :=
  decide ((0x2000 ≤ e.idx ∧ e.idx ≤ 0x7FFF) ∨ e.idx = 0xA000) && decide (e.acc = .ro) &&
    (match e.typ with
     | .bool => false
     | .octets _ _ => false
     | .time96 => false
     | _ => true)

/-- One record of a snapshot: entry, SUB, selector value, unit. -/
structure SnapKey where
  entry : Entry
  sub : Nat
  selVal : Nat
  unit : Nat
  deriving DecidableEq, Repr

/-- The records of a snapshot in order. -/
def State.snapKeys (s : State) : List SnapKey :=
  (OD.table.filter inSnapshot).flatMap fun e =>
    (s.selectorUnits e).map fun p =>
      { entry := e, sub := if e.sel = .array then e.sub + p.2 else e.sub, selVal := p.1, unit := p.2 }

/-- The values a Pluck latches, by record number; zeros are not listed. -/
def State.snapVals (s : State) : SMap Nat :=
  let vs := s.snapKeys.map fun k => s.value k.entry k.unit
  SMap.putRange 0 [] 0 vs

/-- One record's bytes. -/
def SnapKey.bytes (k : SnapKey) (v : Nat) : List Byte :=
  leBytes 2 k.entry.idx ++ leBytes 1 k.sub ++ leBytes 1 k.entry.typ.size ++ leBytes 2 k.selVal ++ leBytes 2 0 ++
    padMult 8 (leBytes k.entry.typ.size v)

/-- A snapshot's bytes: header and records. -/
def State.snapBytes (s : State) (b : Snap) : List Byte :=
  let ks := s.snapKeys
  let body := (ks.zip (SMap.range 0 b.vals 0 ks.length)).flatMap fun p => p.1.bytes p.2
  leBytes 4 b.no ++ leBytes 1 b.src ++ [0] ++ leBytes 2 b.ecode ++ leBytes 8 b.drone ++ leBytes 8 b.cycle ++ leBytes 8 b.tcount ++
    leBytes 4 ks.length ++ leBytes 4 (64 + body.length) ++ List.replicate 24 0 ++ body

/-- SNAP_DATA: up to 1,000 bytes of a bank from an offset; a bank whose copy is not complete gives none. -/
def State.snapData (s : State) (bank ofs : Nat) : List Byte :=
  let b := if bank = 0 then s.faults.bank0 else s.faults.bank1
  if b.copied then ((s.snapBytes b).drop ofs).take 1000 else []

/-! ### Bytes of a read -/

/-- Bytes a read of an entry returns (R371, R381), with the selectors a message has picked. -/
def State.readBytes (s : State) (pk : Picks) (e : Entry) (u : Nat) : List Byte :=
  if e = OD.ERRLOG_READ then s.errlogRead (s.pick pk OD.ERRLOG_IDX)
  else if e = OD.SNAP_DATA then s.snapData (s.pick pk OD.SNAP_BANK) (s.pick pk OD.SNAP_OFS)
  else if e = OD.SEAL_BODY then s.sealBody (s.pick pk OD.SEAL_SEL)
  else if e = OD.SEAL_EVT then s.sealEvt (s.pick pk OD.SEAL_SEL) (s.pick pk OD.SEAL_EVT_IDX)
  else if e = OD.LAUNCH_ARGS then argBytes (s.rd e)
  else leBytes e.typ.size (s.value e u)

/-- A seal read through SEAL_BODY counts as read (R327). -/
def State.noteSealRead (s : State) (pk : Picks) (e : Entry) : State :=
  if e = OD.SEAL_BODY then
    let sel := s.pick pk OD.SEAL_SEL
    { s with audit.log := s.audit.log.map fun x => if sealNumber x.win x.part = sel then { x with read := true } else x }
  else s

end Sys2Proof.Machine
end

