-- ==== Sys2Proof/Machine/FaultsPluck.lean ====
section
/-! DEFINITION. Clearing error records (R472), the hub watchdog (R468), the end of SAFE's drain (R474), repair windows and
stand-ins (R478 to R482), and Pluck with its snapshots (R483 to R486). -/

namespace Sys2Proof.Machine

/-! ### Clearing (R472) -/

/-- A unit's primary record and secondary counter are cleared; 0xFFFF names every unit. -/
def State.errClear (s : State) (u : Nat) : State :=
  if u = 0xFFFF then { s with faults.units := [] } else s.setErrUnit u {}

/-- ERR_CLEAR. -/
def execErrClear (unit : Word16) (s : State) : Answer :=
  if s.host.ready then .next ((s.noteWrites [(OD.ERR_CLEAR, 0, unit.toNat)]).errClear unit.toNat) else .next s

/-- ERR_AUTOCLEAR_EXPIRY: a RECOVERABLE primary clears itself 2^ERR_AUTOCLEAR cycles after it was recorded, unless clearing was
off then. -/
def execErrAutoclearExpiry (unit : Word16) (s : State) : Answer :=
  let u := unit.toNat
  match (s.errUnit u).primary with
  | none => .next s
  | some r =>
    if r.sev = 1 ∧ r.auto ≠ 0 then .next ((s.advanceTo (r.cycle + 2 ^ r.auto)).errClear u) else .next s

/-! ### The hub watchdog and SAFE (R468, R474) -/

/-- HUB_FAULT: raising it enters SAFE, and MB_STATUS[0] reads 0 while the firmware restarts. -/
def execHubFault (s : State) : Answer :=
  if s.boot.stage ≠ 9 then .next s
  else
    .next { s.raisePkg 0x0B05 with host.ready := false }

/-- HUB_FIRMWARE_RESTART_DONE. -/
def execHubFirmwareRestartDone (s : State) : Answer :=
  if s.boot.stage = 9 then .next { s with host.ready := true } else .next s

/-- SAFE_DRAIN_END: after DRAIN, or DAMP_LIMIT cycles after entry, the fabric clock gates may close. -/
def execSafeDrainEnd (s : State) : Answer :=
  if ¬ s.faults.safe ∨ s.faults.safeDrained then .next s
  else
    let s := if s.drained then s else s.advanceTo (s.faults.safeAt + s.rd OD.DAMP_LIMIT)
    .next { s with faults.safeDrained := true }

/-! ### Repair windows and stand-ins (R478 to R482) -/

/-- The open repair of a fenced core that a stand-in will end. -/
def State.repairOf (s : State) (p : Nat) : Option Repair :=
  s.faults.repairs.find? fun r => decide (r.core = p) && !r.degraded && decide (r.connect = none)

/-- That repair replaced. -/
def State.updRepair (s : State) (p : Nat) (f : Repair → Repair) : State :=
  { s with faults.repairs := s.faults.repairs.map fun r =>
      if r.core = p ∧ r.degraded = false ∧ r.connect = none then f r else r }

/-- Stand-ins being loaded, or loaded and not connected. -/
def State.loadsRunning (s : State) : Nat :=
  s.faults.repairs.countP fun r => r.started && !r.degraded && !r.idle && decide (r.connect = none)

/-- REPAIR_WINDOW_START: at D + 64 the window has begun, and the load of the spare begins, of at most 16 at once. -/
def execRepairWindowStart (core : Nat) (s : State) : Answer :=
  match s.repairOf core with
  | none => .next s
  | some r =>
    if r.started ∨ s.faults.safe then .next s
    else
      let s := s.advanceTo (r.detected + 64)
      if s.loadsRunning < 16 then .next (s.updRepair core fun r => { r with started := true }) else .next s

/-- A core written with what the image that is loaded gives the position of a fenced core, or left empty (R134, R478). -/
def State.loadSpare (s : State) (core spare : Nat) : State :=
  s.updCore spare fun c => match s.imageOf core with
    | some i => c.load i
    | none => c.blank

/-- STAND_IN_LOAD_DONE: the spare holds every section of the fenced core. -/
def execStandInLoadDone (core : Nat) (s : State) : Answer :=
  match s.repairOf core with
  | none => .next s
  | some r =>
    if ¬ r.started ∨ r.loaded.isSome ∨ s.faults.safe then .next s
    else
      let s := s.loadSpare core (mkPcid (pcidCluster core) 16)
      .next (s.updRepair core fun r => { r with loaded := some s.now })

/-- Whether a stand-in may connect at the next tick boundary: at the first after its load, in a deep quad at the first deep-slot
boundary that the quad runs (R478, R480, R482). -/
def State.mayConnect (s : State) (p : Nat) (r : Repair) : Bool :=
  let c := pcidCluster p
  match r.loaded with
  | none => false
  | some t =>
    decide (t < s.nextBoundary) &&
      (r.idle || !s.deepCluster c ||
        (s.deep.active && decide (s.deep.startTick = s.nextTick) && !(s.quad (quadOf c)).skipped))

/-- The group a core holds an adaptable pair or an adaptation core of. -/
def Core.adaptGroup (c : Core) : Option Nat := if c.ctrl.adaptable || c.ctrl.adaptCore then c.ctrl.group else none

/-- What the connection means while a configuration runs: the expected frame tag, the state-reset event, Z in a deep quad and
the rollback of an adaptation group, whose cores swap at this tick unless a swap before it awaits its release (R244, R478 to
R480). -/
def State.standInRuns (s : State) (p spare : Nat) (r : Repair) : State :=
  let old := s.core p
  let t := s.nextTick
  let s := s.updCore spare fun c => { c with expect := BitVec.ofNat 16 t, expectSet := true }
  let s := (s.sealRepair r s.lastAdmitted).updRepair p fun r => { r with connect := some t }
  let s := if old.ctrl.stateful then
      let s := s.stateReset t 1 p 0xFF
      if s.deepCluster (pcidCluster p) then s.updQuad (quadOf (pcidCluster p)) fun x => { x with zLeft := s.dslotTicks } else s
    else s
  match old.adaptGroup with
  | some g =>
    let s := s.noteCause g 7
    if s.banksFree g && !s.groupStuck g then s.swapGroup g else s
  | none => s

/-- What the connection means with no frame in flight: no repair window; once the load phase has ended the spare is written with
the new image, before that the load phase writes it (R185, R482). -/
def State.standInIdle (s : State) (p spare : Nat) (r : Repair) : State :=
  let s := { s with faults.repairs := s.faults.repairs.filter fun x => decide (x ≠ r) }
  if s.act.loadDone then s.loadSpare p spare else s

/-- STAND_IN: the spare crossbar connects the stand-in at the next tick boundary, with every patch that names the core applied
again (R167). -/
def execStandIn (core : Nat) (s : State) : Answer :=
  match s.repairOf core with
  | none => .next s
  | some r =>
    if ¬ s.mayConnect core r ∨ s.faults.safe ∨ ¬ s.clock.running then .next s
    else
      let c := pcidCluster core
      let spare := mkPcid c 16
      let s := (s.advanceTo s.nextBoundary).updCluster c fun k => { k with standIn := pcidPos core + 1 }
      let s := s.raise 0x0009 (coreUnit core) core
      let s := if r.idle then s.standInIdle core spare r else s.standInRuns core spare r
      let s := if s.act.loadDone then { s with act.hub := s.hubTables s.act.slot } else s
      .next (s.updCore core Core.blank)

/-! ### Pluck (R483, R484) -/

/-- PLUCK_CMD: the source cycle is that of the next tick boundary, at which the command commits. -/
def State.pluckCmd (s : State) : State := s.pluckFrom 2 s.nextBoundary 0

def execPluckCmd (s : State) : Answer :=
  if s.host.ready then .next (s.noteWrites [(OD.PLUCK_CMD, 0, 1)]).pluckCmd else .next s

/-- PLUCK_IN_EDGE: the selected edge, after a two-cycle synchroniser; the source cycle is the one after. -/
def execPluckInEdge (rising : Bool) (s : State) : Answer :=
  if s.clock.running ∧ (rising = true ↔ s.rd OD.PLUCK_IN_EDGE = 0) then .next (s.pluckFrom 4 (s.now + 3) 0) else .next s

/-- A bank replaced. -/
def State.bank (s : State) (b : Nat) : Snap := if b = 0 then s.faults.bank0 else s.faults.bank1
def State.setBank (s : State) (b : Nat) (x : Snap) : State :=
  if b = 0 then { s with faults.bank0 := x } else { s with faults.bank1 := x }

/-- The free bank with the lower number. -/
def State.freeBank (s : State) : Option Nat :=
  if ¬ s.faults.bank0.taken then some 0 else if ¬ s.faults.bank1.taken then some 1 else none

/-- A snapshot is taken into a bank, or lost. -/
def State.takeSnapshot (s : State) (src ecode : Nat) : State :=
  match s.freeBank with
  | none => { s with faults.lastBank := 2 }.inc OD.PLUCK_LOST 0
  | some b =>
    let no := (s.rd OD.SNAP_COUNT + 1) % 2 ^ 32
    let x : Snap := { taken := true, no := no, src := src, ecode := ecode, drone := s.drone, cycle := s.now % 2 ^ 64,
                      tcount := s.tcount, vals := s.snapVals }
    let s := { s with faults.lastBank := b }
    (s.setBank b x).wr OD.SNAP_COUNT 0 no

/-- PLUCK_LATCH: at the latch cycle; within 64 cycles of the one before, the source bits join that snapshot instead. -/
def execPluckLatch (s : State) : Answer :=
  match s.faults.pluck with
  | [] => .next s
  | (lc, src, ec) :: rest =>
    let s := ({ s with faults.pluck := rest }.advanceTo lc).settleCores
    let near := s.faults.lastLatch.any fun t => decide (lc ≤ t + 64)
    if near then
      let b := s.faults.lastBank
      let x := s.bank b
      .next (if b < 2 ∧ x.taken then s.setBank b { x with src := x.src ||| src, ecode := if x.ecode = 0 then ec else x.ecode } else s)
    else .next ({ s with faults.lastLatch := some lc }.takeSnapshot src ec)

/-- SNAPSHOT_COPY_DONE: SNAP_BANKS shows the copy. -/
def execSnapshotCopyDone (bank : Fin 2) (s : State) : Answer :=
  let x := s.bank bank.val
  if x.taken then .next (s.setBank bank.val { x with copied := true }) else .next s

/-- SNAP_RELEASE: the host frees a bank. -/
def State.snapRelease (s : State) (b : Nat) : State := if b < 2 then s.setBank b {} else s

def execSnapRelease (bank : Byte) (s : State) : Answer :=
  if s.host.ready then .next ((s.noteWrites [(OD.SNAP_RELEASE, 0, bank.toNat)]).snapRelease bank.toNat) else .next s

end Sys2Proof.Machine
end

