-- ==== Sys2Proof/Machine/Host.lean ====
section
/-! DEFINITION. The host attachment besides the dictionary: mailbox acknowledge, BAR0 registers without a row of their own, signal
spacing, function level reset and the PCI Express link (R376 to R378, R395 to R399). -/

namespace Sys2Proof.Machine

/-- MB_ACK: DONE and OVERRUN clear and the response buffer is free (R378). -/
def execMbAck (s : State) : Answer :=
  .next { s with host.done := false, host.overrun := false, host.resp := {} }

/-- A word of the MSI-X table takes a value: of a control word the mask bit alone, of an address its word-aligned part. A vector
unmasked with its pending bit set sends its signal (R376, R397; log entry 18). -/
def State.msixWrite (s : State) (w v : Nat) : State :=
  let x := if w % 4 = 3 then v % 2 else if w % 4 = 0 then v / 4 * 4 else v
  let s := { s with host.msix := SMap.set (if w % 4 = 3 then 1 else 0) s.host.msix w x }
  if w % 4 = 3 ∧ x = 0 ∧ bit s.host.pba (w / 4) then
    { s with host.pba := s.host.pba - 2 ^ (w / 4) }.sendSignal (w / 4)
  else s

/-- BAR0_REGISTER_WRITE (R376, R378, R395). The staging window takes up to 128 bytes at a time. -/
def execBar0RegisterWrite (reg : Bar0Reg) (value : Word32) (s : State) : Answer :=
  match reg with
  | .mbIrqEn => .next { s with host.irqEn := bit value.toNat 0 }
  | .evtTail => .next { s with host.tail := bits value.toNat 0 8 }
  | .evtMod => .next { s with host.modUs := bits value.toNat 0 16 }
  | .staging ofs bytes =>
    if bytes.length ≤ 128 ∧ ofs.val + bytes.length ≤ 16384 then
      .next { s with boot.staging := SMap.putRange 0 s.boot.staging ofs bytes }
    else .next s
  | .msix word v => .next (s.msixWrite word v.toNat)

/-- EVT_MOD_EXPIRY: the vector may be signalled again, and a signal held back leaves (R395). -/
def execEvtModExpiry (vector : Fin 32) (s : State) : Answer :=
  let v := vector.val
  if ¬ s.host.spacing.contains v then .next s
  else
    let h := s.host
    let s := { s with host.spacing := h.spacing.filter fun x => decide (x ≠ v),
                      host.heldBack := h.heldBack.filter fun x => decide (x ≠ v) }
    .next (if h.heldBack.contains v then s.signal v else s)

/-- FUNCTION_LEVEL_RESET: BAR0 registers, event ring and WIN_BASE return to reset; the response held is discarded. What is in
service, the boot registers and all dictionary entries stay (R399). -/
def execFunctionLevelReset (s : State) : Answer :=
  .next { s with host := { ready := s.host.ready, busy := s.host.busy, signals := s.host.signals,
                           completion := s.host.completion, deniedAt := s.host.deniedAt } }

/-- PCIE_LINK of a rate and a width (R397, R400): Gen6 runs in FLIT mode. -/
def pcieLinkValue (rate width : Nat) : Nat := rate + 16 * width + 2 ^ 9 * b2n (decide (rate = 6)) + 2 ^ 10

/-- PCIE_LINK_UP at a rate of generation 1 to 6 and a width of 1, 2 or 4 lanes; the PCIe PLL is then locked (R376, R397, R433). -/
def execPcieLinkUp (rate : Fin 8) (width : Fin 32) (s : State) : Answer :=
  if 1 ≤ rate.val ∧ rate.val ≤ 6 ∧ [1, 2, 4].contains width.val then
    let s := s.wr OD.PCIE_LINK 0 (pcieLinkValue rate width)
    .next (if s.clock.running then s.wr OD.PLL_LOCK 0 (s.rd OD.PLL_LOCK ||| 2 ^ 9) else s)
  else .next s

/-- PCIE_LINK_DOWN has no effect on the running device; PCIE_LINK reports it (R399, R400). -/
def execPcieLinkDown (s : State) : Answer := .next (s.wr OD.PCIE_LINK 0 0)

end Sys2Proof.Machine
end

