-- ==== Sys2Proof/Machine/Dictionary.lean ====
section
/-! DEFINITION. The dictionary engine: messages (R380 to R382), access to entries (R371 to R375), the checks and effects of a write
(R383 to R386), coherent reads (R387 to R389). Effects of REPLAY_CMD and LAUNCH_CMD stand in
Machine/GirderOd.lean. -/

namespace Sys2Proof.Machine

/-! ### Statuses (R382) -/

def stNoEntry : Nat := 1
def stAccess : Nat := 2
def stType : Nat := 3
def stRange : Nat := 4
def stExpert : Nat := 5
def stPresence : Nat := 6
def stRule : Nat := 7
def stLate : Nat := 8
def stBusy : Nat := 9
def stTooBig : Nat := 10
def stAborted : Nat := 11
def stState : Nat := 12
def stFormat : Nat := 13
def stNoRoute : Nat := 14
def stTimeout : Nat := 15

/-! ### Messages (R380, R381) -/

/-- OP codes (R380). -/
def OdOp.code : OdOp → Nat
  | .read => 1 | .write => 2 | .describe => 3 | .list => 4

/-- Bytes of an item: header, data padded to a multiple of 8 (R381). -/
def itemBytes (index sub stat : Nat) (data : List Byte) : List Byte :=
  leBytes 2 index ++ leBytes 1 sub ++ leBytes 1 stat ++ leBytes 2 data.length ++ leBytes 2 0 ++ padMult 8 data

/-- Header bytes of a message (R380). -/
def headBytes (tag op flags target len at_ : Nat) : List Byte :=
  leBytes 2 tag ++ leBytes 1 op ++ leBytes 1 flags ++ leBytes 2 target ++ leBytes 2 len ++ leBytes 8 at_

end Sys2Proof.Machine

namespace Sys2Proof

/-- A request message as it travels over Girder (R391). -/
def OdMsg.bytes (m : OdMsg) (op : OdOp) : List Byte :=
  let body := m.items.flatMap fun i => Machine.itemBytes i.index i.sub 0 i.data
  Machine.headBytes m.tag.toNat (Machine.OdOp.code op) (b2n m.pend + 2 * b2n m.dry) m.target (16 + body.length) m.at_ ++ body

end Sys2Proof

namespace Sys2Proof.Machine

/-- A response message (R380 to R382). -/
def Resp.bytes (r : Resp) : List Byte :=
  let body := r.items.flatMap fun i => itemBytes i.1 i.2.1 i.2.2.1 i.2.2.2
  headBytes r.tag (OdOp.code r.op) r.status r.failItem (16 + body.length) r.tick ++ body

/-- A response to a message that is refused whole. -/
def refusal (m : OdMsg) (op : OdOp) (status : Nat) : Resp := { tag := m.tag.toNat, op := op, status := status }

/-- A response from its items: the first item that failed gives the overall status (R382). -/
def answer (m : OdMsg) (op : OdOp) (tick : Nat) (items : List (Nat × Nat × Nat × List Byte)) : Resp :=
  let bad := items.findIdx? fun (i : Nat × Nat × Nat × List Byte) => decide (i.2.2.1 % 128 ≠ 0)
  let r : Resp := { tag := m.tag.toNat, op := op, tick := tick, items := items }
  match bad with
  | some k => { r with status := (items.getD k (0, 0, 0, [])).2.2.1 % 128, failItem := k }
  | none => r

/-- A response that would exceed 1,024 bytes is TOO_BIG instead (R381). -/
def fitted (m : OdMsg) (op : OdOp) (r : Resp) : Resp := if 1024 < r.bytes.length then refusal m op stTooBig else r

/-- Items of a refused transaction: the failing one has its status, the others ABORTED (R382). -/
def refusedItems (m : OdMsg) (k status : Nat) : List (Nat × Nat × Nat × List Byte) :=
  (List.range m.items.length).map fun i =>
    let x := m.items.getD i { index := 0, sub := 0 }
    (x.index, x.sub, if i = k then status else stAborted, [])

/-- The answer to a transaction refused at item `k`. -/
def refusedAt (m : OdMsg) (op : OdOp) (k status : Nat) : Resp :=
  if m.items = [] then refusal m op status else answer m op 0 (refusedItems m k status)

/-- The entry a name stands for (R371, R375). -/
def findEntry (index sub : Nat) : Option Entry :=
  OD.table.find? fun e => decide (e.idx = index ∧ e.sub ≤ sub ∧ sub ≤ e.last)

/-- Highest sub-index in use at an index, none where the index does not exist (R375). -/
def highestSub (index : Nat) : Option Nat :=
  match OD.table.filter fun e => decide (e.idx = index) with
  | [] => none
  | es => some (es.foldl (fun n e => max n e.last) 0)

/-- Expert entries are refused while EXPERT_EN is 0 (R373). -/
def State.levelOk (s : State) (e : Entry) : Bool := !e.expert || decide (s.rd OD.EXPERT_EN = 1)

/-- Unit of an item: an array's by its sub-index, else by the selectors. -/
def State.unitAt (s : State) (pk : Picks) (e : Entry) (sub : Nat) : Option Nat :=
  if e.sel = .array then some (sub - e.sub) else s.unitOf pk e

/-! ### Ranges (R371, R381, and the rules the entries cite) -/

/-- Byte lengths a type takes. -/
def lenOk (e : Entry) (n : Nat) : Bool :=
  match e.typ with
  | .octets size false => decide (n ≤ size)
  | _ => decide (n = e.typ.size)

/-- The value of an item's bytes, reserved bits ignored (R7); a byte string of varying length keeps its length. -/
def valueOf (e : Entry) (bs : List Byte) : Nat :=
  match e.typ with
  | .octets _ false => packArgs bs
  | _ => leNat bs &&& e.mask

/-- Bytes of a value. -/
def bytesOf (e : Entry) (v : Nat) : List Byte :=
  match e.typ with
  | .octets _ false => argBytes v
  | _ => leBytes e.typ.size v

/-- A value as a number: signed types by sign (R371). -/
def numberOf (e : Entry) (v : Nat) : Int :=
  match e.typ with
  | .i32 => toSigned 32 v
  | .i64 => toSigned 64 v
  | _ => v

/-- Every two-bit code of a field keeps clear of 3. -/
def noCode3 (v n : Nat) : Bool := (List.range n).all fun i => decide (bits v (2 * i) 2 ≠ 3)

/-- Ranges that an interval does not give. -/
def State.fineRange (s : State) (e : Entry) (v : Nat) : Bool :=
  if e = OD.ERR_AUTOCLEAR then decide (v = 0 ∨ (16 ≤ v ∧ v ≤ 31))
  else if e = OD.DROOP_THR then decide (v % 5 = 0)
  else if e = OD.SAT_WIN then decide (v = 2 ^ Nat.log2 v)
  else if e = OD.RO_CHUNK then decide (v % 64 = 0)
  else if e = OD.CORE_MHZ then decide (v % 25 = 0 ∧ v ≤ s.lic.clkMax)
  else if e = OD.PCAP then decide (40 ≤ v ∧ v ≤ s.lic.pcapMax)
  else if e = OD.ROLE_OVERRIDE then decide (v ≤ 2 ∨ v = 0xFF)
  else if e = OD.RO_LANE then decide (v ≤ 63 ∨ v = 0xFF)
  else if e = OD.MASK_TAB then decide (v ≤ 7 ∨ v = 0xFF)
  else if e = OD.TL_THR_MODE then noCode3 v 4
  else if e = OD.FLAT_LOAD then noCode3 v 4
  else if e = OD.PIN_CFG then decide (bits v 3 2 ≠ 3 ∧ (bits v 3 2 ≠ 1 ∨ 1 ≤ bits v 16 16))
  else if e = OD.HF_POS then decide (bits v 16 5 ≤ 16)
  else if e = OD.TX_DEC_MAP then (List.range 16).all fun i => decide (bits v (8 * i) 8 ≤ 63 ∨ bits v (8 * i) 8 = 0xFF)
  else if e = OD.TB_INCR then decide (0x00FF8001 ≤ v ∧ v ≤ 0x01007FFF)
  else if e = OD.TB_RATE then decide ((toSigned 32 v).natAbs ≤ s.rd OD.RATE_LIMIT)
  else if e = OD.TB_TIME then (linearOf v).isSome
  else if e = OD.LIC_DATA then decide (1 ≤ v / 2 ^ 8000)
  else true

/-- A value lies in its entry's range. -/
def State.rangeOk (s : State) (e : Entry) (v : Nat) : Bool :=
  decide (e.lo ≤ numberOf e v ∧ (numberOf e v ≤ e.hi ∨ e.hi = 2 ^ 8192)) && s.fineRange e v

/-- A presence-gated write may be made (R372, R424). -/
def State.presenceOk (s : State) (e : Entry) (v : Nat) : Bool :=
  decide (e.acc ≠ .rwp) || s.presenceHolds || decide (e = OD.SEAL_EN ∧ v = 1) || decide (e = OD.DEBUG_UNLOCK ∧ v = 0)

/-! ### One item of a write (R383) -/

/-- An item resolved: entry, sub-index, unit, value. -/
structure Write where
  entry : Entry
  sub : Nat
  unit : Nat
  val : Nat
  deriving DecidableEq, Repr

/-- Level, presence and range of a write, checked at acceptance and again at the commit tick (R383, R385, R424). -/
def State.writeStatus (s : State) (w : Write) : Nat :=
  if ¬ s.levelOk w.entry then stExpert
  else if ¬ s.presenceOk w.entry w.val then stPresence
  else if ¬ s.rangeOk w.entry w.val then stRange
  else 0

/-- An item of a WRITE checked, and resolved with the selectors picked so far. -/
def State.resolve (s : State) (pk : Picks) (i : OdItem) : Nat ⊕ Write :=
  match findEntry i.index i.sub with
  | none => .inl (if i.sub = 0 ∧ (highestSub i.index).isSome then stAccess else stNoEntry)
  | some e =>
    if ¬ lenOk e i.data.length then .inl stType
    else if e.acc = .ro then .inl stAccess
    else
      let v := valueOf e i.data
      let w : Write := { entry := e, sub := i.sub, unit := 0, val := v }
      if s.writeStatus w ≠ 0 then .inl (s.writeStatus w)
      else
        match s.unitAt pk e i.sub with
        | none => .inl stRange
        | some u => .inr { w with unit := u }

/-- Every item of a transaction resolved in order, or the first that fails with its status (R383). -/
def State.resolveAll (s : State) : Picks → Nat → List OdItem → (Nat × Nat) ⊕ List Write
  | _, _, [] => .inr []
  | pk, k, i :: is =>
    match s.resolve pk i with
    | .inl st => .inl (k, st)
    | .inr w =>
      let pk := if w.entry.selector then (w.entry.key 0, w.val) :: pk else pk
      match s.resolveAll pk (k + 1) is with
      | .inl x => .inl x
      | .inr ws => .inr (w :: ws)

/-! ### Rules that look at the state an item meets (R383) -/

/-- Status of an item by the state it meets, 0 where nothing refuses it. -/
def State.itemStatus (s : State) (w : Write) : Nat :=
  let e := w.entry
  let v := w.val
  if s.tape.replaying && ((decide (0x2000 ≤ e.idx ∧ e.idx ≤ 0x5FFF)) || decide (e.idx = 0xA000)) then stState
  else if e = OD.CAPT_CMD then (if v = 1 ∧ 1 ≤ (s.cap w.unit).st ∧ (s.cap w.unit).st ≤ 3 then stRule else 0)
  else if e = OD.MASK_NPTS then (if s.maskNamed w.unit then stRule else 0)
  else if e = OD.MASK_HI then (if s.maskNamed w.unit then stRule else if s.maskLocked w.unit then stRange else 0)
  else if e = OD.LIC_DATA then
    (if s.licBusy then stState else if licLen < s.rd OD.LIC_OFS + v / 2 ^ 8000 then stRange else 0)
  else if e = OD.LIC_CMD ∨ e = OD.LIC_OFS then (if s.licBusy then stState else 0)
  else if e = OD.FUSE_CMD then
    (if v = 0 then 0 else if s.boot.fuseBusy ≠ none then stState
     else if (s.fuseBits (s.rd OD.FUSE_FIELD) (s.rd OD.FUSE_VALUE)).isNone then stRule else 0)
  else if e = OD.DEBUG_UNLOCK then (if v = 1 ∧ ¬ s.debugMayUnlock then stRule else 0)
  else if e = OD.ROLE_OVERRIDE then (if s.roleOverrideOk then 0 else stState)
  else if e = OD.CHAIN_PREV then (if s.audit.made then stState else 0)
  else if e = OD.REPLAY_CMD then (if v = 1 ∧ (s.tape.replaying ∨ s.tape.starting) then stState else 0)
  else if e = OD.LAUNCH_CMD then
    (if v = 0 then 0 else if ¬ s.managing then stState else if s.rd OD.LAUNCH_KIND = 0 ∨ 3 < s.rd OD.LAUNCH_KIND then stRule else 0)
  else if e = OD.TICKIN_OFFSET then (if v < s.nextRd OD.TICKDIV 0 then 0 else stRange)
  else if e = OD.DOMAIN_ID ∨ e = OD.SYNC_LOG2 then (if s.isWorker then stState else 0)
  else if e = OD.TICKDIV then (if s.isWorker ∧ s.agent = 5 then stState else 0)
  else if e = OD.TB_RATE ∨ e = OD.TB_INC_ADJ then
    (if e = OD.TB_RATE ∧ s.rd OD.TB_MODE w.unit ≠ 0 then stState
     else if e = OD.TB_INC_ADJ ∧ s.rd OD.TB_MODE w.unit ≠ 2 then stState
     else if e = OD.TB_INC_ADJ ∧ s.linearNow w.unit + toSigned 32 v < 0 then stRange else 0)
  else if e = OD.TB_STEP then (if s.linearNow w.unit + toSigned 96 v < 0 then stRange else 0)
  else if e = OD.TB_MODE then (if v = 1 ∧ (w.unit ≠ 0 ∨ ¬ s.isWorker) then stRule else 0)
  else 0

/-! ### Rules on the state a transaction would leave (R383) -/

/-- Entries whose writes the lane rules of R250, R257, R261, R263, R270 and R271 bear on. -/
def laneRuled (e : Entry) : Bool :=
  decide (e.idx = 0x3010) || [OD.LANE_EN, OD.TX_KIND, OD.TX_DEC_MAP, OD.TICKDIV, OD.AVG_K].contains e ||
    decide (e.idx = 0x3030 ∧ e.acc = .rw)

/-- RO_LANE of every stream names a readout lane (R308). -/
def State.readoutSound (t : State) : Bool :=
  streams.all fun st =>
    let l := t.nextRd OD.RO_LANE st
    decide (l = 0xFF) || decide (3 ≤ t.nextRd OD.TX_KIND l)

/-- A quad's TX_LOCK fits its coding and the core clock (R270). -/
def State.lockSound (t : State) (q : Nat) : Bool :=
  let lock := t.rd OD.TX_LOCK q
  decide (lock = 0) || decide (t.rd OD.TX_CODING q = (lockRow lock).coding ∧ (lockRow lock).low ≤ t.mhz ∧
    (lockRow lock).low ≤ t.nextRd OD.CORE_MHZ 0)

/-- One write against the state before and the state the whole transaction would leave: status, 0 where its chapter's rules
hold. -/
def State.ruleStatus (s t : State) (w : Write) : Nat :=
  let e := w.entry
  let u := w.unit
  let rule (ok : Bool) : Nat := if ok then 0 else stRule
  if laneRuled e && !(ratesOk t.inForceRd && s.lanesKept t) then stRule
  else if e = OD.TICKDIV then rule (decide (t.nextRd OD.TICKIN_OFFSET 0 < t.nextRd OD.TICKDIV 0))
  else if e = OD.IQ_LO ∨ e = OD.IQ_HI then rule (decide (t.rdI OD.IQ_LO u ≤ t.rdI OD.IQ_HI u))
  else if e.idx = 0x4010 then
    rule (decide (t.rd OD.TF_T1 u ≤ t.rd OD.TF_T2 u) &&
      (decide (t.rd OD.TF_KIND u ≠ 2 ∧ t.rd OD.TF_KIND u ≠ 4) || decide (t.rdI OD.TF_THR_A u < t.rdI OD.TF_THR_B u)))
  else if e.idx = 0x4013 then rule (decide (t.rd OD.TERM_P u &&& t.rd OD.TERM_N u = 0))
  else if e = OD.PIN_STREAMS then
    rule ((maskStreams w.val).all fun st => decide (t.nextRd OD.ST_FIRST_LANE st / 16 = u / 2))
  else if e = OD.RO_LANE ∨ e = OD.TX_KIND then rule t.readoutSound
  else if e = OD.LANE_EN then
    rule (!(decide (bits w.val 0 2 ≠ 0) && s.laneBad u) &&
      !(decide (s.lanesOn < t.lanesOn) && decide (s.lic.lanesMax < t.lanesOn)))
  else if e.idx = 0x3010 then rule (t.lockSound u)
  else if e = OD.TX_EQ then rule (txEqOk w.val)
  else if e = OD.CORE_MHZ then rule (locksAllowed t.inForceRd w.val)
  else if e.idx = 0x5000 then
    rule (decide ((t.nextRd OD.CAPT_GIB 0 + t.nextRd OD.REPLAY_GIB 0 + t.nextRd OD.SCRATCH_GIB 0 + 12) * giB ≤ s.hbmSize) &&
      (decide (t.nextRd OD.REPLAY_GIB 0 ≠ 0) || !s.recLicensed))
  else if e = OD.CLKMON_SEL ∨ e = OD.CLKMON_DIV then
    (if t.clkmonOk (t.rd OD.CLKMON_SEL) (t.rd OD.CLKMON_DIV) then 0 else stRange)
  else 0

/-! ### Effects (R374 and the chapters) -/

/-- SLOT_CMD acts on the slot that SLOT_CMD_SLOT names (R170). -/
def State.slotCmd (s : State) (v : Nat) : State :=
  let slot := s.rd OD.SLOT_CMD_SLOT
  if v = 1 then s.slotOpen slot (s.rd OD.OPEN_SEQ)
  else if v = 2 then s.slotCommit slot (s.rd OD.COMMIT_SIZE) (s.rd OD.EXPECT_PROG) (s.rd OD.EXPECT_WEIGHT)
  else s.slotClear slot

/-- ACT_CMD with the parameters in force (R175); `base` is the first tick an activation may start at. -/
def State.actCmd (s : State) (v base : Nat) : State :=
  if v = 1 then
    s.activate { slot := s.rd OD.ACT_SLOT, mode := s.rd OD.ACT_MODE, at_ := s.rd OD.ACT_AT, resumeAt := s.rd OD.ACT_RESUME_AT } base
  else s.actCancel

/-- ACT_RESUME_AT: an activation in progress goes by the new value (R177). -/
def State.resumeAtWrite (s : State) (v : Nat) : State :=
  if s.act.missed ∨ (1 ≤ s.rd OD.DAMP_STATE ∧ s.rd OD.DAMP_STATE ≤ 5) then s.resumeWrite v else s.wr OD.ACT_RESUME_AT 0 v

/-- LIC_CMD (R417). -/
def State.licCmd (s : State) (v : Nat) : State :=
  if v = 1 then s.licInstall else if v = 2 then s.licRemove else s.licDiscard

/-- A channel's front entry takes a value; a change of what its comparators compare resets them (R286). -/
def State.frontWrite (s : State) (e : Entry) (u v : Nat) : State :=
  let s := s.wr e u v
  if [OD.TF_KIND, OD.TF_POL, OD.TF_THR_A, OD.TF_THR_B, OD.TF_HYST].contains e then
    s.updIng (u / 16) fun i => { i with comps := SMap.erase i.comps (u % 16) }
  else s

/-- An entry whose write does more than store, with what it does to the state by unit and value. -/
abbrev OdEffect := Entry × (State → Nat → Nat → State)

/-- Clears of counters. -/
def clearEffects : List OdEffect :=
  [(OD.HOST_CNT_CLEAR, fun s _ v => if v = 1 then s.hostCntClear else s), (OD.MON_CLEAR, fun s _ v => if v = 1 then s.monClear else s),
   (OD.CORE_CNT_CLEAR, fun s _ v => if v = 1 then s.coreCntClear else s), (OD.SAT_CLEAR, fun s _ v => if v = 1 then s.satClear else s),
   (OD.SAT_WIN, fun s _ v => s.satWin v),
   (OD.FABRIC_CNT_CLEAR, fun s _ v => if v = 1 then s.fabricCntClear else s),
   (OD.LANE_CNT_CLEAR, fun s _ v => if v = 1 then s.laneCntClear else s),
   (OD.TRG_CNT_CLEAR, fun s _ v => if v = 1 then s.trgCntClear else s),
   (OD.DEEP_CNT_CLEAR, fun s _ v => if v = 1 then s.deepCntClear else s),
   (OD.ADAPT_CNT_CLEAR, fun s u v => if v = 1 then s.adaptCntClear u else s),
   (OD.PWR_CNT_CLEAR, fun s _ v => if v = 1 then s.pwrCntClear else s)]

/-- Slots, activation, lanes. `base` is the first tick an activation may start at. -/
def runEffects (base : Nat) : List OdEffect :=
  [(OD.SLOT_CMD, fun s _ v => s.slotCmd v), (OD.ACT_CMD, fun s _ v => s.actCmd v base),
   (OD.ACT_RESUME_AT, fun s _ v => s.resumeAtWrite v), (OD.LANE_EN, fun s u v => s.setLaneEn u v),
   (OD.RX_CODING, fun s u v => s.quadWrite OD.RX_CODING u v), (OD.RX_RATE, fun s u v => s.quadWrite OD.RX_RATE u v),
   (OD.TX_CODING, fun s u v => s.quadWrite OD.TX_CODING u v), (OD.TX_RATE, fun s u v => s.quadWrite OD.TX_RATE u v),
   (OD.TX_LOCK, fun s u v => s.quadWrite OD.TX_LOCK u v), (OD.RX_FEC, fun s u v => s.quadWrite OD.RX_FEC u v),
   (OD.TX_FEC, fun s u v => s.quadWrite OD.TX_FEC u v), (OD.PRECODE, fun s u v => s.quadWrite OD.PRECODE u v),
   (OD.PRBS_TX, fun s u v => s.setPrbsTx u v), (OD.PRBS_RX, fun s u v => s.setPrbsRx u v),
   (OD.INJ_MODE, fun s u v => s.setInjMode u v),
   (OD.INJ_FIRE, fun s u v => if v = 1 then s.inject1 u 1 else s)]

/-- Trigger front, capture, history, rollback. -/
def frontEffects : List OdEffect :=
  [(OD.TF_KIND, fun s u v => s.frontWrite OD.TF_KIND u v), (OD.TF_POL, fun s u v => s.frontWrite OD.TF_POL u v),
   (OD.TF_THR_A, fun s u v => s.frontWrite OD.TF_THR_A u v), (OD.TF_THR_B, fun s u v => s.frontWrite OD.TF_THR_B u v),
   (OD.TF_HYST, fun s u v => s.frontWrite OD.TF_HYST u v),
   (OD.CAPT_CMD, fun s u v => if v = 1 then s.armAt u s.nextTick else s.stopAt u 1 true),
   (OD.CAPT_FREE_TO, fun s u v => s.freeTo u v), (OD.MASK_HI, fun s u v => s.maskPoint u (toSigned 32 v)),
   (OD.HIST_CLEAR, fun s _ v => if v = 1 then s.validFrom s.nextTick else s),
   (OD.ROLLBACK_CMD, fun s u v => if v = 1 then s.rollbackCmd u else s)]

/-- Girder, time bases, firmware store, clock monitor, load hints. -/
def timeEffects : List OdEffect :=
  [(OD.ROLE_OVERRIDE, fun s _ v => s.roleOverride v), (OD.JOIN_CMD, fun s _ v => if v = 1 then s.joinCmd else s),
   (OD.LEAVE_CMD, fun s _ v => s.leaveCmd (decide (v = 1))), (OD.TB_MODE, fun s u v => s.tbMode u v),
   (OD.TB_TIME, fun s u v => s.tbTime u v), (OD.TB_STEP, fun s u v => s.tbStep u (toSigned 96 v)),
   (OD.TB_RATE, fun s u v => s.tbRate u (toSigned 32 v)), (OD.TB_INCR, fun s u v => s.tbIncr u v),
   (OD.TB_INC_ADJ, fun s u v => s.tbStep u (toSigned 32 v)), (OD.FW_IMG_DATA, fun s _ v => s.fwImgData (argBytes v)),
   (OD.CLKMON_SEL, fun s _ v => s.clkmon v (s.rd OD.CLKMON_DIV)), (OD.CLKMON_DIV, fun s _ v => s.clkmon (s.rd OD.CLKMON_SEL) v),
   (OD.LOAD_HINT, fun s _ v => s.loadHint (bits v 0 4) (bits v 16 48))]

/-- Faults, presence, licences, fuses, debug, recorder. -/
def faultEffects : List OdEffect :=
  [(OD.ERR_CLEAR, fun s _ v => s.errClear v), (OD.PLUCK_CMD, fun s _ v => if v = 1 then s.pluckCmd else s),
   (OD.SNAP_RELEASE, fun s _ v => s.snapRelease v), (OD.PRES_CLOSE, fun s _ v => if v = 1 then s.presClose else s),
   (OD.LIC_DATA, fun s _ v => s.licData (argBytes v)), (OD.LIC_CMD, fun s _ v => s.licCmd v),
   (OD.FUSE_CMD, fun s _ v => if v = 1 then s.fuseProgram else s),
   (OD.DEBUG_UNLOCK, fun s _ v => if v = 1 then s.debugUnlock else s.debugRelock),
   (OD.REC_CMD, fun s _ v => if v = 1 then s.recArm else s.recStop)]

/-- Effects that are more than storing. -/
def effects (base : Nat) : List OdEffect :=
  clearEffects ++ runEffects base ++ frontEffects ++ timeEffects ++ faultEffects

/-- A write takes effect, or becomes pending for a Damp or a load (R374); `boundary` says that it commits at the tick boundary
to come. -/
def State.applyWrite (boundary : Bool) (s : State) (w : Write) : State :=
  let base := if boundary then (s.drone + 2) % 2 ^ 64 else s.nextDrone
  let e := w.entry
  match (effects base).find? fun (p : OdEffect) => decide (p.1.key 0 = e.key 0) with
  | some p => p.2 s w.unit w.val
  | none =>
    match e.app with
    | .damp => { s with dict.damp := SMap.set none s.dict.damp (e.key w.unit) (some (w.val, s.nextDrone)) }
    | .load => { s with dict.load := SMap.set none s.dict.load (e.key w.unit) (some (w.val, s.nextDrone)) }
    | _ => s.wr e w.unit w.val

/-- What a write does: `applyWrite`, or that with further commands. -/
abbrev Effect := State → Write → State

/-- A write is recorded for replay and applied (R330, R384). -/
def State.recApply (s : State) (eff : Effect) (girder : Bool) (w : Write) : State :=
  eff (s.recOd w.entry w.sub w.unit (b2n girder) s.nextTick (bytesOf w.entry w.val)) w

/-- The writes of a transaction applied one after another, or the first that the state it meets refuses. -/
def State.runWrites (eff : Effect) (girder : Bool) : Nat → List Write → State → (Nat × Nat) ⊕ State
  | _, [], s => .inr s
  | k, w :: ws, s =>
    if s.itemStatus w ≠ 0 then .inl (k, s.itemStatus w)
    else State.runWrites eff girder (k + 1) ws (s.recApply eff girder w)

/-- First write that the rules refuse in the state the transaction would leave. -/
def State.firstRule (s t : State) : Nat → List Write → Option (Nat × Nat)
  | _, [] => none
  | k, w :: ws => if s.ruleStatus t w ≠ 0 then some (k, s.ruleStatus t w) else State.firstRule s t (k + 1) ws

/-- A transaction tried: the state it leaves, or the item that fails with its status (R383). -/
def State.tryWrites (s : State) (eff : Effect) (girder : Bool) (ws : List Write) : (Nat × Nat) ⊕ State :=
  match State.runWrites eff girder 0 ws s with
  | .inl x => .inl x
  | .inr t =>
    match State.firstRule s t 0 ws with
    | some x => .inl x
    | none => .inr t

/-! ### Transactions (R384 to R386) -/

/-- Limits of AT: at least 2 and at most 2^32 ticks ahead (R384). -/
def State.atStatus (s : State) (at_ : Nat) : Nat :=
  if at_ = 0 then 0 else if at_ < s.drone + 2 then stLate else if s.drone + 2 ^ 32 < at_ then stRange else 0

/-- Every write commits at acceptance (R384). -/
def allImm (ws : List Write) : Bool := ws.all fun w => decide (w.entry.app = .imm)

/-- How a WRITE ends: refused at an item with a status, committed now with the state it leaves, or timed for a tick with its
writes. -/
inductive Verdict where
  | refused (item status : Nat)
  | now (t : State)
  | timed (tick : Nat) (ws : List Write)

/-- The checks of a WRITE at acceptance (R383 to R385). `launch` is the commit tick of a transaction that a LAUNCH carries. -/
def State.judge (s : State) (eff : Bool → Effect) (girder : Bool) (m : OdMsg) (launch : Option Nat) : Verdict :=
  let at_ := launch.getD m.at_
  if s.atStatus at_ ≠ 0 then .refused 0 (s.atStatus at_)
  else
    match s.resolveAll [] 0 m.items with
    | .inl x => .refused x.1 x.2
    | .inr ws =>
      let imm := decide (at_ = 0) && allImm ws
      match s.tryWrites (eff (!imm)) girder ws with
      | .inl x => .refused x.1 x.2
      | .inr t =>
        if imm then .now t
        else if 8 ≤ s.dict.txns.length then .refused 0 stBusy
        else .timed (if at_ = 0 then s.nextDrone else at_) ws

/-- A write as a timed transaction holds it. -/
def Write.pack (w : Write) : Nat × Nat × Nat × List Byte :=
  (w.entry.key w.unit, w.entry.idx * 256 + w.sub, w.unit, bytesOf w.entry w.val)

/-- A write back from a timed transaction. -/
def unpackWrite (p : Nat × Nat × Nat × List Byte) : Option Write :=
  (findEntry (p.2.1 / 256) (p.2.1 % 256)).map fun e =>
    { entry := e, sub := p.2.1 % 256, unit := p.2.2.1, val := valueOf e p.2.2.2 }

/-- A timed transaction is queued (R385). -/
def State.queueTxn (s : State) (tag tick : Nat) (girder : Bool) (ws : List Write) : State :=
  { s with dict.txns := s.dict.txns ++ [{ items := ws.map Write.pack, tag := tag, commitAt := tick, girder := girder }] }

/-- A FUSE_CMD refused under R427 or R428 shows in FUSE_STATUS (R430). -/
def State.noteFuse (s : State) (m : OdMsg) (item status : Nat) : State :=
  match m.items[item]? with
  | some i => if i.index = OD.FUSE_CMD.idx ∧ i.sub = OD.FUSE_CMD.sub ∧ status = stRule then s.wr OD.FUSE_STATUS 0 4 else s
  | none => s

/-- A WRITE is checked, and committed, queued or refused (R383 to R385). A DRY one only gets its answer (R386). -/
def State.writeMsg (s : State) (eff : Bool → Effect) (girder : Bool) (m : OdMsg) : State × Resp :=
  let ok (tick : Nat) : Resp := answer m .write tick (m.items.map fun i => (i.index, i.sub, 0, []))
  match s.judge eff girder m none with
  | .refused k st =>
    let r := refusedAt m .write k st
    if m.dry then (s, r) else ((s.noteFuse m k st).inc OD.TXN_REFUSED 0, r)
  | .now t => if m.dry then (s, ok 0) else (t.inc OD.TXN_COMMITTED 0, ok 0)
  | .timed tick ws => if m.dry then (s, ok 0) else (s.queueTxn m.tag.toNat tick girder ws, ok tick)

/-- First write whose level, presence or range no longer passes at the commit tick (R385, R424). -/
def State.recheck (s : State) : Nat → List Write → Option (Nat × Nat)
  | _, [] => none
  | k, w :: ws => if s.writeStatus w ≠ 0 then some (k, s.writeStatus w) else s.recheck (k + 1) ws

/-- TXN_FAILED (R385, R400, R401). -/
def State.txnFailed (s : State) (x : Txn) (item status : Nat) : State :=
  let s := (s.inc OD.TXN_FAILED_CNT 0).wr OD.LAST_TXN_FAIL 0
    (x.tag + 2 ^ 16 * (item % 2 ^ 16) + 2 ^ 32 * status + 2 ^ 40 * b2n x.girder)
  s.raiseD 0x0D01 pkgUnit 0xFFFF (x.tag + 2 ^ 16 * (item % 2 ^ 16))

/-- A timed transaction at its commit tick (R385). -/
def State.commitTxn (s : State) (eff : Bool → Effect) (x : Txn) : State :=
  let ws := x.items.filterMap unpackWrite
  match s.recheck 0 ws with
  | some (k, st) => s.txnFailed x k st
  | none =>
    match s.tryWrites (eff true) x.girder ws with
    | .inl (k, st) => s.txnFailed x k st
    | .inr t => t.inc OD.TXN_COMMITTED 0

/-- The first transaction due at the tick boundary to come (R386). -/
def State.dueTxn (s : State) : Option Txn := s.dict.txns.find? fun x => decide (x.commitAt ≤ s.nextDrone)

/-- It leaves the queue and commits. -/
def State.commitFirst (s : State) (eff : Bool → Effect) : State :=
  match s.dueTxn with
  | some x =>
    let s := s.advanceTo s.nextBoundary
    let s := { s with dict.txns := s.dict.txns.erase x }
    s.commitTxn eff x
  | none => s

/-- Every transaction due commits, in order of acceptance. -/
def State.commitDue (s : State) (eff : Bool → Effect) : State :=
  (List.range 8).foldl (fun s _ => s.commitFirst eff) s

/-! ### Reads (R387 to R389) -/

/-- Value pending for a cell, if any (R388). -/
def State.pendingOf (s : State) (key : Nat) : Option Nat :=
  match SMap.get none s.dict.damp key with
  | some (v, _) => some v
  | none => (SMap.get none s.dict.load key).map Prod.fst

/-- A selector value in a READ: status, 0 where it selects (R389). -/
def State.pickStatus (s : State) (e : Entry) (bs : List Byte) : Nat :=
  if ¬ e.selector ∨ ¬ lenOk e bs.length then stType
  else if ¬ s.levelOk e then stExpert
  else if ¬ s.rangeOk e (valueOf e bs) then stRange
  else 0

/-- One READ item: status with bit 7 for a pending value, data, selectors picked. -/
def State.readItem (s : State) (pend : Bool) (pk : Picks) (i : OdItem) : Nat × List Byte × Picks :=
  match findEntry i.index i.sub with
  | none =>
    if i.sub = 0 then
      match highestSub i.index with
      | some n => if i.data = [] then (0, leBytes 1 n, pk) else (stType, [], pk)
      | none => (stNoEntry, [], pk)
    else (stNoEntry, [], pk)
  | some e =>
    if i.data ≠ [] then
      (if s.pickStatus e i.data = 0 then (0, [], (e.key 0, valueOf e i.data) :: pk) else (s.pickStatus e i.data, [], pk))
    else if e.acc = .wo then (stAccess, [], pk)
    else if ¬ s.levelOk e then (stExpert, [], pk)
    else
      match s.unitAt pk e i.sub with
      | none => (stRange, [], pk)
      | some u =>
        match (if pend then s.pendingOf (e.key u) else none) with
        | some v => (0x80, bytesOf e v, pk)
        | none => (0, s.readBytes pk e u, pk)

/-- Every item of a READ in order, with what reading them does (R327). -/
def State.readItems (s : State) (pend : Bool) : Picks → List OdItem → State → List (Nat × Nat × Nat × List Byte) × State
  | _, [], t => ([], t)
  | pk, i :: is, t =>
    let r := s.readItem pend pk i
    let t := match findEntry i.index i.sub with
      | some e => if r.1 = 0 ∧ i.data = [] then t.noteSealRead pk e else t
      | none => t
    let rest := s.readItems pend r.2.2 is t
    ((i.index, i.sub, r.1, r.2.1) :: rest.1, rest.2)

/-- A READ sampled at tick boundary `tick` (R387). -/
def State.sample (s : State) (m : OdMsg) (tick : Nat) : State × Resp :=
  let x := s.readItems m.pend [] m.items s
  let r := answer m .read tick x.1
  if 1024 < r.bytes.length then (s, refusal m .read stTooBig) else (x.2, r)

/-! ### DESCRIBE and LIST (R381) -/

/-- One DESCRIBE item. -/
def State.describeItem (s : State) (i : OdItem) : Nat × List Byte :=
  if i.data ≠ [] then (stFormat, [])
  else
    match findEntry i.index i.sub with
    | none =>
      if i.sub = 0 ∧ (highestSub i.index).isSome then (0, leBytes 8 (1 + 2 ^ 8 + 2 ^ 32)) else (stNoEntry, [])
    | some e =>
      if s.levelOk e then
        (0, leBytes 1 e.typ.code ++ leBytes 1 e.acc.code ++ leBytes 1 (b2n e.expert) ++ leBytes 1 e.app.code ++
          leBytes 2 e.typ.size ++ leBytes 2 0)
      else (stExpert, [])

/-- One LIST item: the sub-indices that exist at this level. -/
def State.listItem (s : State) (i : OdItem) : Nat × List Byte :=
  if i.sub ≠ 0 ∨ i.data ≠ [] then (stFormat, [])
  else if (highestSub i.index).isNone then (stNoEntry, [])
  else
    let es := OD.table.filter fun e => decide (e.idx = i.index) && s.levelOk e
    let has (n : Nat) : Bool := decide (n = 0) || es.any fun e => decide (e.sub ≤ n ∧ n ≤ e.last)
    (0, leBytes 32 ((List.range 256).foldl (fun b n => b + b2n (has n) * 2 ^ n) 0))

/-- The answer to a DESCRIBE or LIST. -/
def State.describeMsg (s : State) (m : OdMsg) (op : OdOp) : Resp :=
  let one (i : OdItem) : Nat × List Byte := if op = .list then s.listItem i else s.describeItem i
  fitted m op (answer m op 0 (m.items.map fun i => (i.index, i.sub, (one i).1, (one i).2)))

end Sys2Proof.Machine
end

