-- ==== Sys2Proof/Machine/Replay.lean ====
section
/-! DEFINITION. Replay of a recording (R333 to R336): its start and stop, and what the replay reader applies at a tick. -/

namespace Sys2Proof.Machine

/-! ### Entries of the recording (R330, R334) -/

/-- An OD_WRITE entry as a write, if it names an entry. -/
def RecEnt.write (e : RecEnt) : Option Write :=
  let idx := leNat (e.payload.take 2)
  let sub := leNat ((e.payload.drop 2).take 1)
  (findEntry idx sub).map fun x =>
    { entry := x, sub := sub, unit := e.aux, val := valueOf x ((e.payload.drop 4).take x.typ.size) }

/-- Number of OD_WRITE entries that follow an ANCHOR for its configuration. -/
def anchorCount : Nat := (OD.table.filter anchored).foldl (fun n e => n + e.units) 0

/-- The configuration writes of an anchor. -/
def State.anchorConfig (s : State) (ofs : Nat) : List Write :=
  (((s.tapeAt 2 (s.anchorAt ofs).tr).take anchorCount).filterMap RecEnt.write)

/-- The OD_WRITE entries of a tick that are not an anchor's configuration. -/
def State.recordedWrites (s : State) (tick : Nat) : List Write :=
  let all := s.tapeAt 2 tick
  let own := if s.tapeAt 1 tick = [] then all else all.drop anchorCount
  own.filterMap RecEnt.write

/-! ### Start and stop (R333 to R335) -/

/-- The anchor's configuration writes applied (R334). -/
def State.applyConfig (s : State) (ofs : Nat) : State := (s.anchorConfig ofs).foldl (State.applyWrite false) s

/-- The activation a replay asks for (R334). -/
def replayActivation (slot : Nat) : Activation :=
  { slot := slot, mode := 0, at_ := 0, resumeAt := 0 }

/-- Why a replay is refused, 0 when it is accepted (R333). -/
def State.replayCode (s : State) (ofs slot : Nat) : Nat :=
  let a := s.anchorAt ofs
  let st := s.rd (odState slot)
  let rec_ := bits (s.rd OD.REC_STATE) 0 3
  if ¬ s.tape.held.any fun h => decide (h.1 = ofs ∧ h.2.2.1 = 1) then 3
  else if ¬ ((st = 3 ∨ st = 4) ∧ s.rd (odProg slot) = a.prog ∧ s.rd (odWeight slot) = a.weight) then 4
  else if ((s.applyConfig ofs).requestCode (replayActivation slot) (s.nextDrone + 1)).1 ≠ 0 then 5
  else if s.isWorker ∨ (s.isManager ∧ s.rd OD.ROSTER_COUNT ≠ 0) then 6
  else if ¬ s.recLicensed then 7
  else if rec_ = 1 ∨ rec_ = 2 then 8
  else 0

/-- REPLAY_CMD = 1 with the parameters in force (R333, R334). -/
def State.replayStart (s : State) : State :=
  let ofs := s.rd OD.REPLAY_ANCHOR
  let slot := s.rd OD.REPLAY_SLOT
  if s.tape.replaying ∨ s.tape.starting then s
  else if s.replayCode ofs slot ≠ 0 then s.wr OD.REPLAY_STATUS 0 (s.replayCode ofs slot)
  else
    let last := s.rd OD.REPLAY_END
    let s := s.applyConfig ofs
    let s := s.activate (replayActivation slot) (s.nextDrone + 1)
    let s := { s with tape.starting := true, tape.rdPtr := ofs, tape.endTick := last }
    (s.wr OD.REPLAY_STATUS 0 1).wr OD.REPLAY_MISMATCH 0 0

/-- A replay ends: what it closed is judged, the part in progress is dropped, and outputs are held as in a Damp pause; the
device's own windows and parts go on from where they were (R335). -/
def State.replayEnd (s : State) (status : Nat) : State :=
  let s := s.judgeClosed
  let s := { s with audit.cur := none, audit.waiting := [] }
  let s := (s.pause s.nextTick).abandonDeep false
  let s := { s with audit.lastWin := s.tape.ownWin, audit.lastPart := s.tape.ownPart, tape.replaying := false }
  s.wr OD.REPLAY_STATUS 0 status

/-- REPLAY_CMD = 2: a replay that has not reached its resume tick stops there. -/
def State.replayStop (s : State) : State :=
  if s.tape.replaying then s.replayEnd 9 else if s.tape.starting then s.wr OD.REPLAY_STATUS 0 9 else s

/-- REPLAY_START: command and parameters come in one transaction (R333). -/
def execReplayStart (anchor : Word64) (slot : Fin 2) (end_ : Word64) (s : State) : Answer :=
  if ¬ s.host.ready ∨ s.tape.replaying ∨ s.tape.starting then .next s
  else
    let s := s.noteWrites [(OD.REPLAY_ANCHOR, 0, anchor.toNat), (OD.REPLAY_SLOT, 0, slot.val), (OD.REPLAY_END, 0, end_.toNat),
      (OD.REPLAY_CMD, 0, 1)]
    let s := (s.wr OD.REPLAY_ANCHOR 0 anchor.toNat).wr OD.REPLAY_SLOT 0 slot
    .next (s.wr OD.REPLAY_END 0 end_.toNat).replayStart

/-- REPLAY_STOP (R335). -/
def execReplayStop (s : State) : Answer :=
  if s.host.ready then .next (s.noteWrites [(OD.REPLAY_CMD, 0, 2)]).replayStop else .next s

/-! ### The replay reader at a tick (R334) -/

/-- A slot that holds an anchor's image, or REPLAY_SLOT. -/
def State.slotOfAnchor (s : State) (a : AnchorRec) : Nat :=
  let holds (k : Nat) : Bool := decide (s.rd (odProg k) = a.prog ∧ s.rd (odWeight k) = a.weight ∧ 3 ≤ s.rd (odState k) ∧
    s.rd (odState k) ≤ 4)
  if holds (s.rd OD.REPLAY_SLOT) then s.rd OD.REPLAY_SLOT else if holds 0 then 0 else if holds 1 then 1 else s.rd OD.REPLAY_SLOT

/-- A later ANCHOR whose T_s is the tick to come is replayed as the activation it records. -/
def State.replayAnchor (s : State) : State :=
  let n := s.nextTick
  match s.tape.held.find? fun h => decide (h.2.2.1 = 1 ∧ h.1 ≠ s.tape.rdPtr ∧ (s.anchorAt h.1).ts = n) with
  | none => s
  | some h =>
    let a := s.anchorAt h.1
    let slot := s.slotOfAnchor a
    let x : Activation := { slot := slot, mode := a.mode, at_ := s.nextDrone, resumeAt := s.nextDrone + (a.tr - n) }
    { s with act.pending := some x, tape.rdPtr := h.1 }

/-- Commands that a replay does not repeat: activations follow the anchors, launches are entries of their own, and the recorder
and the replay reader are the replaying device's. -/
def replayable (w : Write) : Bool :=
  !([OD.ACT_CMD, OD.REC_CMD, OD.REPLAY_CMD, OD.SLOT_CMD, OD.LAUNCH_CMD].contains w.entry)

/-- A core starts from zero state (R134, R314). -/
def Core.zeroed (c : Core) : Core :=
  { c with act := [], opr := [], acc := [], mg := [], lc0 := 0, lc1 := 0, lc2 := 0 }

/-- A recorded repair window, from its first repaired tick on: the records released from that frame's deadline, for frames up to
the last repaired tick, carry repair (R323, R334, R478). -/
def State.replayRepair (s : State) (core last mask : Nat) : State :=
  let n := s.nextTick
  let r : Repair :=
    { core := core, detected := s.nextBoundary + 12 + s.rd OD.LAT_P - 64, mask := mask, started := true, loaded := some s.now,
      connect := some (n + (last + 2 ^ 48 - n % 2 ^ 48) % 2 ^ 48 + 1), first := some n }
  { s with faults.repairs := s.faults.repairs ++ [r] }

/-- A recorded fabric event takes effect and enters the part (R323, R334). -/
def State.replayEvent (s : State) (e : RecEnt) : State :=
  let p := e.payload
  let f (o n : Nat) : Nat := leNat ((p.drop o).take n)
  let s := s.enterEvent { etype := f 0 1, tick := s.tickOf48 (f 2 6), payload := p.drop 8 }
  if f 0 1 = 3 ∧ f 8 1 = 1 then
    let c := pcidCluster (f 9 2)
    let s := s.updCore (s.serving c (pcidPos (f 9 2))) Core.zeroed
    if s.deepCluster c then s.updQuad (quadOf c) fun x => { x with zLeft := s.dslotTicks } else s
  else if f 0 1 = 3 ∧ f 8 1 = 2 then (if (s.quad (f 9 2)).resetDue then s.resetRecurrence (f 9 2) else s)
  else if f 0 1 = 3 ∧ f 8 1 = 3 then (if (s.grp (f 11 1)).masters = [] then s else s.resetGroup (f 11 1))
  else if f 0 1 = 4 then s.replayRepair (f 8 2) (f 10 6) (f 16 8)
  else s

/-- A recorded Girder command: of the three kinds only a Pluck is not repeated by other entries (R330, R361). -/
def State.replayGirder (s : State) (e : RecEnt) : State :=
  if e.payload.getD 8 0 = 2 then s.pluckFrom 2 s.nextBoundary 0 else s

/-- Recorded writes, Girder commands and fabric events of the tick to come (R334). -/
def State.replayTick (s : State) : State :=
  let n := s.nextTick
  let s := ((s.recordedWrites n).filter replayable).foldl (State.applyWrite true) s
  let s := (s.tapeAt 3 n).foldl State.replayGirder s
  (s.tapeAt 4 n).foldl State.replayEvent s

/-- The recording or the range asked for ends with the tick to come (R335). -/
def State.replayLast (s : State) : Bool :=
  let n := s.nextTick
  decide (s.tape.endTick ≠ 0 ∧ s.tape.endTick ≤ n) || s.tape.held.any fun h => decide (h.2.2.1 = 9 ∧ h.2.2.2 ≤ n)

end Sys2Proof.Machine
end

