-- ==== Sys2Proof/Machine/GirderOd.lean ====
section
/-! DEFINITION. Launches at an agreed count (R360 to R362), and what a write of the dictionary does (R383) with them and
replay among its effects. -/

namespace Sys2Proof.Machine

/-- What a write does, short of sending a launch. -/
def odEffect0 (boundary : Bool) (s : State) (w : Write) : State :=
  if w.entry = OD.REPLAY_CMD then (if w.val = 1 then s.replayStart else s.replayStop)
  else if w.entry = OD.LAUNCH_CMD then s
  else s.applyWrite boundary w

/-! ### Messages as bytes (R380, R381, R391) -/

/-- Items of a message, none where an item is malformed; `n` bounds their number. -/
def parseItems : Nat → List Byte → Option (List OdItem)
  | 0, bs => if bs = [] then some [] else none
  | n + 1, bs =>
    if bs = [] then some []
    else
      let len := leNat ((bs.drop 4).take 2)
      let padded := ceilDiv len 8 * 8
      if bs.length < 8 + padded then none
      else
        (parseItems n (bs.drop (8 + padded))).map fun is =>
          { index := leNat (bs.take 2), sub := leNat ((bs.drop 2).take 1), data := (bs.drop 8).take len } :: is

/-- A WRITE message, none where it is malformed or another operation (R391). -/
def parseWrite (bs : List Byte) : Option OdMsg :=
  let f (o n : Nat) : Nat := leNat ((bs.drop o).take n)
  if bs.length < 16 ∨ f 2 1 ≠ OdOp.code .write ∨ f 6 2 ≠ bs.length then none
  else
    (parseItems 126 (bs.drop 16)).map fun is =>
      { bell := BitVec.ofNat 16 (f 0 2), tag := BitVec.ofNat 16 (f 0 2), pend := bit (f 3 1) 0, dry := bit (f 3 1) 1,
        target := f 4 2, at_ := f 8 8, items := is }

end Sys2Proof.Machine

namespace Sys2Proof

/-- ARGS of a LAUNCH (R361). -/
def LaunchMsg.args (m : LaunchMsg) : List Byte :=
  if m.kind = 1 then
    leBytes 1 m.slot ++ leBytes 1 m.mode ++ leBytes 8 m.resumeAt ++ leBytes 4 m.tickdiv
  else if m.kind = 3 then m.msg.elim [] fun x => OdMsg.bytes x .write
  else []

/-- Payload of a LAUNCH frame (R361). -/
def LaunchMsg.bytes (m : LaunchMsg) : List Byte :=
  leBytes 8 m.count ++ leBytes 1 m.kind ++ leBytes 32 m.targets ++ m.args

end Sys2Proof

namespace Sys2Proof.Machine

/-! ### A target acts (R361, R362) -/

/-- Its answer: code, and the code of a refusal. -/
abbrev LaunchAnswer := Nat × Nat

/-- The loader cannot run the TICKDIV that the frame carries (R360). -/
def State.launchTickdivBad (s : State) (td : Nat) : Bool :=
  let t := { s with dict.damp := SMap.set none s.dict.damp (OD.TICKDIV.key 0) (some (td, s.drone)) }
  decide (td < 4 ∨ 65536 < td) || decide (s.ruleStatus t { entry := OD.TICKDIV, sub := 1, unit := 0, val := td } ≠ 0)

/-- KIND 1, ACTIVATE: a local activation with ACT_AT = COUNT (R175, R361). -/
def State.launchActivate (s : State) (m : LaunchMsg) : State × LaunchAnswer :=
  let a : Activation := { slot := m.slot, mode := m.mode, at_ := m.count, resumeAt := m.resumeAt,
                          tickdiv := some m.tickdiv }
  let code := (s.requestCode a s.nextDrone).1
  if s.actBusy then (s, (3, 0))
  else if 1 < m.slot ∨ 1 < m.mode ∨ s.tape.replaying then (s, (2, 16))
  else if code ≠ 0 then (s, (2, code))
  else if s.launchTickdivBad m.tickdiv then (s, (2, 9))
  else (s.activate a s.nextDrone, (0, 0))

/-- KIND 3, an OD transaction: a local transaction at COUNT (R361, R385, R391). -/
def State.launchOd (s : State) (m : LaunchMsg) : State × LaunchAnswer :=
  match m.msg with
  | none => (s, (2, stFormat))
  | some x =>
    match s.judge odEffect0 true x (some m.count) with
    | .refused _ st => (s, (2, st))
    | .now _ => (s, (0, 0))
    | .timed tick ws => (if x.dry then s else s.queueTxn x.tag.toNat tick true ws, (0, 0))

/-- What a target makes of a launch (R362); one that refuses does nothing. -/
def State.launchAct (s : State) (m : LaunchMsg) : State × LaunchAnswer :=
  let r : State × LaunchAnswer :=
    if m.count < s.drone + 2 then (s, (1, 0))
    else if m.kind = 1 then s.launchActivate m
    else if m.kind = 2 then ({ s with girder.pluckAt := s.girder.pluckAt ++ [m.count] }, (0, 0))
    else s.launchOd m
  if r.2.1 = 0 then
    (r.1.recQueue { rtype := 3, tick := (s.nextTick + (m.count - s.nextDrone)) % 2 ^ 64, payload := m.bytes }, r.2)
  else r

/-- Payload of a LAUNCH_ACK (R345). -/
def ackBytes (count code refuse addr : Nat) : List Byte :=
  leBytes 8 count ++ leBytes 1 code ++ leBytes 1 refuse ++ leBytes 2 addr

/-- The manager notes an answer to the launch outstanding (R362). -/
def State.noteAck (s : State) (count code addr : Nat) : State :=
  if s.girder.launchOpen ∧ s.girder.launchCount = count then
    let e := if code = 0 then OD.LAUNCH_ACKED else OD.LAUNCH_REFUSED
    s.wr e 0 (s.rd e ||| 2 ^ addr)
  else s

/-- LAUNCH from the upstream port: relayed down, and acted on by a member whose address bit is set (R347, R361). A KIND that is
reserved is not acted on. -/
def State.launch (s : State) (rx : GFrame) (m : LaunchMsg) : State :=
  let s := s.sendDown 0x20 m.bytes (relayVia rx)
  let a := s.rd OD.NODE_ADDR
  if s.agent = 5 ∧ bit m.targets a ∧ 1 ≤ m.kind ∧ m.kind ≤ 3 then
    let r := s.launchAct m
    r.1.sendUp 0x21 (ackBytes m.count r.2.1 r.2.2 a)
  else s

def execLaunch (rx : GFrame) (m : LaunchMsg) (s : State) : Answer := s.onFrame rx 0x20 fun s => s.launch rx m

/-- LAUNCH_ACK: collected by the manager, relayed by a worker (R347, R362). -/
def execLaunchAck (rx : GFrame) (count : Word64) (code : Fin 4) (refuse : Byte) (addr : Fin 256) (s : State) : Answer :=
  s.onFrame rx 0x21 fun s =>
    if s.isManager then s.noteAck count.toNat code addr
    else s.sendUp 0x21 (ackBytes count.toNat code refuse.toNat addr) (relayVia rx)

/-- LAUNCH_ACK_TIMEOUT: after 100 ms no further answer is collected (R362). -/
def execLaunchAckTimeout (s : State) : Answer := .next { s with girder.launchOpen := false }

/-! ### The manager issues a launch (R361) -/

/-- LAUNCH_CMD = 1: the frame goes to every member, and the manager acts on it when bit 0 is set. -/
def State.launchSend (s : State) (m : LaunchMsg) : State :=
  let s := (s.wr OD.LAUNCH_ACKED 0 0).wr OD.LAUNCH_REFUSED 0 0
  let s := { s with girder.launchOpen := true, girder.launchCount := m.count }.sendDown 0x20 m.bytes
  if bit m.targets 0 then
    let r := s.launchAct m
    r.1.noteAck m.count r.2.1 0
  else s

/-- The launch that the entries of OD 6030 describe. -/
def State.launchOfCells (s : State) : LaunchMsg :=
  let bs := argBytes (s.rd OD.LAUNCH_ARGS)
  let f (o n : Nat) : Nat := leNat ((bs.drop o).take n)
  { count := s.rd OD.LAUNCH_COUNT, kind := s.rd OD.LAUNCH_KIND, targets := s.rd OD.LAUNCH_TARGETS, slot := f 0 1, mode := f 1 1,
    resumeAt := f 2 8, tickdiv := f 10 4, msg := parseWrite bs }

/-- LAUNCH_CMD through the dictionary. -/
def State.launchCells (s : State) : State :=
  if ¬ s.managing ∨ s.rd OD.LAUNCH_KIND = 0 ∨ 3 < s.rd OD.LAUNCH_KIND then s
  else
    s.launchSend s.launchOfCells

/-- What a write of the dictionary does (R361, R374, R383). -/
def odEffect (boundary : Bool) (s : State) (w : Write) : State :=
  if w.entry = OD.LAUNCH_CMD then (if w.val = 1 then s.launchCells else s) else odEffect0 boundary s w

/-- LAUNCH_CMD: command and parameters come in one transaction (R361). -/
def execLaunchCmd (m : LaunchMsg) (s : State) : Answer :=
  if ¬ s.host.ready ∨ ¬ s.managing ∨ m.kind = 0 ∨ 3 < m.kind ∨ 983 < m.args.length then .next s
  else
    let args := packArgs m.args
    let s := s.noteWrites [(OD.LAUNCH_COUNT, 0, m.count), (OD.LAUNCH_TARGETS, 0, m.targets), (OD.LAUNCH_KIND, 0, m.kind)]
    let s := s.recOd OD.LAUNCH_ARGS OD.LAUNCH_ARGS.sub 0 0 s.nextTick m.args
    let s := s.noteWrites [(OD.LAUNCH_CMD, 0, 1)]
    let s := ((s.wr OD.LAUNCH_COUNT 0 m.count).wr OD.LAUNCH_TARGETS 0 m.targets).wr OD.LAUNCH_KIND 0 m.kind
    .next ((s.wr OD.LAUNCH_ARGS 0 args).launchSend m)

end Sys2Proof.Machine
end

