-- ==== Sys2Proof/Machine/PostOps.lean ====
section
/-! DEFINITION. The commands of the post ops (R83, R86 to R88, R105 to R110, R128, R129) and of the emits 1, 2, 3 and 5 (R75,
R82, R83) of a microword. An uncorrectable word of the requantiser or lookup table fences the core (R78). -/

namespace Sys2Proof.Machine

/-- REQUANTISE: post op 1 with OFMT 0 to 3; a post op 1 with OFMT 4 to 6 is a block encode (R107, R110, R128). -/
def execRequantise (core : Nat) (w : Word64) (ecc : Ecc) (s : State) : Answer :=
  if s.alive core then .next (s.withTable core ecc fun s => s.issue core fun _ c => c.post1 w) else .next s

/-- REQUANTISE_LOOKUP: post op 2 (R110). -/
def execRequantiseLookup (core : Nat) (w : Word64) (ecc : Ecc) (s : State) : Answer :=
  if s.alive core then .next (s.withTable core ecc fun s => s.issue core fun _ c => c.requantiseAcc w true) else .next s

/-- LOOKUP: post op 3 (R87). -/
def execLookup (core : Nat) (w : Word64) (ecc : Ecc) (s : State) : Answer :=
  if s.alive core then .next (s.withTable core ecc fun s => s.issue core fun _ c => c.lookupInPlace w) else .next s

/-- MERGE_IN: post op 4 (R88). -/
def execMergeIn (core : Nat) (w : Word64) (s : State) : Answer :=
  if s.alive core then .next (s.issue core fun _ c => c.mergeAdd w) else .next s

/-- MERGE_OUT: post op 5 (R88). -/
def execMergeOut (core : Nat) (w : Word64) (ecc : Ecc) (s : State) : Answer :=
  if s.alive core then .next (s.withTable core ecc fun s => s.issue core fun _ c => c.requantiseMg w false) else .next s

/-- MERGE_OUT_LOOKUP: post op 6 (R88). -/
def execMergeOutLookup (core : Nat) (w : Word64) (ecc : Ecc) (s : State) : Answer :=
  if s.alive core then .next (s.withTable core ecc fun s => s.issue core fun _ c => c.requantiseMg w true) else .next s

/-- BLOCK_ENCODE: post op 1 with OFMT 4 to 6 (R128, R129). -/
def execBlockEncode (core : Nat) (w : Word64) (ecc : Ecc) (s : State) : Answer :=
  if s.alive core then .next (s.withTable core ecc fun s => s.issue core fun _ c => c.post1 w) else .next s

/-- EMIT_DATA: EMT 1 (R75, R119). -/
def execEmitData (core : Nat) (w : Word64) (s : State) : Answer :=
  if s.alive core then .next (s.issue core fun i c => c.emitData i w) else .next s

/-- EMIT_PARTIAL_SUMS: EMT 2 (R59, R75, R82). -/
def execEmitPartialSums (core : Nat) (w : Word64) (s : State) : Answer :=
  if s.alive core then .next (s.issue core fun i c => c.emitSums i w) else .next s

/-- EMIT_CONTROL_TEMPLATE: EMT 3 (R60, R75). -/
def execEmitControlTemplate (core : Nat) (w : Word64) (s : State) : Answer :=
  if s.alive core then .next (s.issue core fun i c => c.emitTemplate i w) else .next s

/-- EMIT_DECISION_RECORD: EMT 5 (R83). -/
def execEmitDecisionRecord (core : Nat) (w : Word64) (s : State) : Answer :=
  if s.alive core then .next (s.issue core fun i c => c.emitRecord i w) else .next s

end Sys2Proof.Machine
end

