-- ==== Sys2Proof/Machine/Serve.lean ====
section
/-! DEFINITION. Requests of the dictionary: the mailbox (R379, R380), the one engine that serves every source (R390), requests
over Girder (R391 to R393) and the commit of a timed transaction (R385). -/

namespace Sys2Proof.Machine

/-! ### The engine (R390) -/

/-- A request is in service. -/
def State.engineBusy (s : State) : Bool := s.dict.read.isSome || s.girder.forward.isSome

/-- A response leaves: into the mailbox, with vector 0 signalled when enabled (R378, R379), or over Girder (R391). -/
def State.respond (s : State) (girder : Bool) (r : Resp) : State :=
  if girder then { s with dict.girderResp := some r }.sendUp 0x31 r.bytes
  else
    let s := { s with host.busy := false, host.done := true, host.resp := r }
    if s.host.irqEn then s.signal 0 else s

/-- A READ is accepted and waits for its sampling boundary, or is refused under the limits of R384 (R387). -/
def State.readMsg (s : State) (girder : Bool) (m : OdMsg) : State :=
  let st := s.atStatus m.at_
  if st ≠ 0 then
    s.respond girder (if m.items = [] then refusal m .read st
      else fitted m .read (answer m .read 0 (m.items.map fun i => (i.index, i.sub, st, []))))
  else { s with dict.read := some (m, if m.at_ = 0 then s.nextDrone else m.at_, girder) }

/-- The TARGET names this device (R392). -/
def State.targetHere (s : State) (t : Nat) : Bool :=
  decide (t = 0xFFFD) || (decide (t = s.rd OD.NODE_ADDR) && decide ((t = 0 ∧ s.isManager) ∨ (1 ≤ t ∧ t ≤ 255)))

/-- The member a manager forwards a request to (R392). -/
def State.targetMember (s : State) (t : Nat) : Bool :=
  s.managing && decide (1 ≤ t ∧ t ≤ 255 ∧ (s.roster t).state = 1 ∧ SMap.get 0 s.girder.routes t ≠ 0)

/-- The engine takes a request (R379 to R392). -/
def State.serve (s : State) (op : OdOp) (m : OdMsg) (girder : Bool) : State :=
  if ¬ girder ∧ (m.bell ≠ m.tag ∨ 1024 < (m.bytes op).length) then s.respond girder (refusal m op stFormat)
  else if girder || s.targetHere m.target then
    match op with
    | .read => s.readMsg girder m
    | .write =>
      let r := s.writeMsg odEffect girder m
      r.1.respond girder r.2
    | .describe => s.respond girder (s.describeMsg m .describe)
    | .list => s.respond girder (s.describeMsg m .list)
  else if s.targetMember m.target then
    let s := { s with girder.forward := some (m.target, m.tag.toNat, op) }
    s.sendFrame (SMap.get 0 s.girder.routes m.target - 1) 0x30 (m.bytes op) { dst := some m.target }
  else s.respond girder (refusal m op stNoRoute)

/-- The requests that wait are taken in order while the engine is free. -/
def State.serveWaiting : Nat → State → State
  | 0, s => s
  | n + 1, s =>
    if s.engineBusy then s
    else
      match s.dict.waiting with
      | [] => s
      | (op, m, g) :: rest => State.serveWaiting n ({ s with dict.waiting := rest }.serve op m g)

/-- A request arrives and waits for its turn. -/
def State.request (s : State) (op : OdOp) (m : OdMsg) (girder : Bool) : State :=
  let s := { s with dict.waiting := s.dict.waiting ++ [(op, m, girder)] }
  State.serveWaiting s.dict.waiting.length s

/-- The request in service is answered, and the next is taken. -/
def State.finish (s : State) (girder : Bool) (r : Resp) : State :=
  let s := s.respond girder r
  State.serveWaiting s.dict.waiting.length s

/-- MB_DOORBELL (R378, R379). -/
def State.doorbell (s : State) (op : OdOp) (m : OdMsg) : State :=
  if ¬ s.host.ready then s
  else if s.host.busy ∨ s.host.done then { s with host.overrun := true }.inc OD.MB_OVERRUNS 0
  else { s with host.busy := true }.request op m false

/-- OD_READ, OD_WRITE, OD_WRITE_DRY, OD_DESCRIBE, OD_LIST. -/
def execOdRead (m : OdMsg) (s : State) : Answer := .next (s.doorbell .read m)
def execOdWrite (m : OdMsg) (s : State) : Answer := .next (s.doorbell .write { m with dry := false })
def execOdWriteDry (m : OdMsg) (s : State) : Answer := .next (s.doorbell .write { m with dry := true })
def execOdDescribe (m : OdMsg) (s : State) : Answer := .next (s.doorbell .describe m)
def execOdList (m : OdMsg) (s : State) : Answer := .next (s.doorbell .list m)

/-! ### Requests over Girder (R347, R391 to R393) -/

/-- OD_REQ: a MEMBER takes one from address 0 that is for it, and relays one for another (R347, R393). -/
def execOdReq (rx : GFrame) (op : OdOp) (m : OdMsg) (s : State) : Answer :=
  s.onFrame rx 0x30 fun s =>
    if rx.dst.toNat ≠ s.rd OD.NODE_ADDR then s.relayTo rx 0x30 (m.bytes op)
    else if rx.src = 0 ∧ s.agent = 5 ∧ s.host.ready then s.request op m true else s

/-- OD_RESP: the answer to the request forwarded (R392), or relayed up (R347). -/
def execOdResp (rx : GFrame) (addr : Fin 256) (tag : Word16) (op : OdOp) (status : Byte) (failItem : Word16) (tick : Word64)
    (items : List (OdItem × Byte)) (s : State) : Answer :=
  let r : Resp :=
    { tag := tag.toNat, op := op, status := status.toNat, failItem := failItem.toNat, tick := tick.toNat,
      items := items.map fun i => (i.1.index, i.1.sub, i.2.toNat, i.1.data) }
  s.onFrame rx 0x31 fun s =>
    if s.isWorker then s.sendUp 0x31 r.bytes (relayVia rx)
    else if s.girder.forward = some (addr.val, tag.toNat, op) then { s with girder.forward := none }.finish false r else s

/-- OD_FORWARD_TIMEOUT: no OD_RESP within 100 ms (R392). -/
def execOdForwardTimeout (s : State) : Answer :=
  match s.girder.forward with
  | some (_, tag, op) => .next ({ s with girder.forward := none }.finish false { tag := tag, op := op, status := stTimeout })
  | none => .next s

/-! ### Timed transactions (R385) -/

/-- TXN_COMMIT: the first transaction due at the tick boundary to come commits or fails (R386). -/
def execTxnCommit (s : State) : Answer := if s.clock.running then .next (s.commitFirst odEffect) else .next s

end Sys2Proof.Machine
end

