-- ==== Sys2Proof/Machine/Tick.lean ====
section
/-! DEFINITION. The tick: the boundary with all that happens at it (R30, R38, R51, R178, R267, R298, R321, R330, R334, R387), and
the TICKIN pin (R35 to R37). -/

namespace Sys2Proof.Machine

/-! ### Where a tick's frames come from (R18, R265, R267) -/

/-- What a stream brings to a tick: header and sample region of a complete frame, or the CAUSE of a void one. -/
inductive FrameIn where
  | complete (hdr region : List Byte)
  | void (cause : Nat)
  deriving DecidableEq, Repr

/-- The frame held in the alignment buffer for a tick. -/
def State.heldFrame (s : State) (st tick : Nat) : FrameIn :=
  let q := s.seqOf st tick
  match (s.ing st).align.find? fun f => decide (f.seq = q) && f.complete with
  | some f => if (s.ing st).voidMark then .void 1 else .complete f.header (f.region (s.regionBytes st) (s.rd OD.ST_NLANES st))
  | none => .void 1

/-- The frame that the recording gives a stream for a tick; an uncorrected read makes it void (R334, R335). -/
def State.tapeFrame (s : State) (es : List RecEnt) (st : Nat) (ue : Bool) : FrameIn :=
  match es.find? fun e => decide (e.stream = st) with
  | none => .void 1
  | some e =>
    if ue then .void 1
    else if bit e.aux 0 then .void (bits e.aux 8 8)
    else
      let hb := s.rd OD.ST_HDR_BYTES st
      .complete (e.payload.take hb) ((e.payload.drop hb).take (s.regionBytes st))

/-- What the alignment buffer held for a tick is gone after it; in a replay all lane data is discarded. -/
def State.clearTick (s : State) (st tick : Nat) : State :=
  let q := s.seqOf st tick
  let rep := s.tape.replaying
  s.updIng st fun i =>
    { (if rep then { i with align := [] } else i.expire q) with
             checkFail := i.checkFail.filter fun x => decide (x ≠ q), voidMark := false }

/-! ### Admission of one stream (R14, R15, R38, R50, R51) -/

/-- A frame in flight towards its deadline (R46, R292). -/
def State.takeFlight (s : State) (st : Nat) (cause : Option Nat) (g : Stages) : State :=
  let f : Flight :=
    { tick := s.tickNo, bnd := s.clock.bnd, p := s.rd OD.LAT_P, void := cause.isSome, cause := cause.getD 0, inputs := g.inputs,
      cfg := s.trigCfg st, hdr := g.hdr }
  s.updDec st fun d => { d with flights := d.flights ++ [f] }

/-- The router queue at the logical edge row of a die through which the ingest unit feeds a column: row y = 0 on D0 and D1, the
highest row on D2 and D3 (R16, R149); tokens come in at the port that faces the edge (log entry 138). -/
def State.edgeQueue (s : State) (d x : Nat) : Option Nat :=
  let y := if d < 2 then 0 else 8 * s.dieRows - 1
  (s.clusterAt (x / 4) (y / 4)).map fun c => mkPcid c (4 * (y % 4) + x % 4) * 5 + (if d < 2 then 0 else 2)

/-- A lane quad of a stream feeds a logical column: quad q of its home die the columns x0 + 8q to x0 + 8q + 7 (R16). -/
def State.feedsColumn (s : State) (st x : Nat) : Bool :=
  let d := s.homeDie st
  let lo := s.rd OD.ST_FIRST_LANE st
  let x0 := 32 * (d % 2)
  (List.range (s.rd OD.ST_NLANES st)).any fun k =>
    let q := (lo + k) % 16 / 4
    decide (x0 + 8 * q ≤ x ∧ x ≤ x0 + 8 * q + 7)

/-- Links of the injection map that carry a stream: column, route label and first element of each data flit (R16, R164). -/
def State.links (s : State) (st : Nat) : List InjectMap :=
  s.act.content.inject.filter fun m => decide (m.stream = st) && s.feedsColumn st m.x

/-- A token on a link into the fabric. -/
def State.linkToken (s : State) (st : Nat) (m : InjectMap) (ctrl : Bool) (f : Flit) : List (Nat × Bool × Tok) :=
  match s.edgeQueue (s.homeDie st) m.x with
  | some k => [(k, ctrl, { flit := f, label := m.label })]
  | none => []

/-- The data flit of a link: eight INT8 elements, with M when one of them was clamped (R59, R103). -/
def State.dataFlit (s : State) (m : InjectMap) (g : Stages) : Flit :=
  { payload := pack8 ((g.elems.drop m.ch).take 8),
    tag := mkTag s.epoch 0 s.tickNo (((g.sats.drop m.ch).take 8).any id) }

/-- The tokens of a frame (R15, R16, R62; log entry 138): BOF on every link before the first frame after an activation, then its
data flits, or one VOID with its cause on every link. -/
def State.frameTokens (s : State) (st : Nat) (cause : Option Nat) (g : Stages) : List (Nat × Bool × Tok) :=
  let ls := s.links st
  let once := ls.foldl (fun l m => if l.any fun n : InjectMap => decide (n.x = m.x ∧ n.label = m.label) then l else l ++ [m]) []
  let bof := if s.tickNo = s.act.tr then
      once.flatMap fun m => s.linkToken st m true (ctlFlit s.epoch 1 s.tickNo st) else []
  bof ++ match cause with
    | some c => once.flatMap fun m => s.linkToken st m true (ctlFlit s.epoch 5 s.tickNo c)
    | none => ls.flatMap fun m => s.linkToken st m false (s.dataFlit m g)

/-- Tokens wait in the injection buffer of the home die until they enter the fabric, 12 cycles after the boundary and the die's
lag later (R41, R51). -/
def State.inject (s : State) (st : Nat) (cause : Option Nat) (g : Stages) : State :=
  let d := s.homeDie st
  let x : Inject := { stream := st, tick := s.tickNo, cycle := s.clock.bnd + 12, left := s.frameTokens st cause g }
  { s with fabric.inject := SMap.set [] s.fabric.inject d (SMap.get [] s.fabric.inject d ++ [x]) }

/-- STREAM_CRC of the part over one tick: a status byte, and the bytes of a complete frame (R321). -/
def State.sealFrame (s : State) (st : Nat) (f : FrameIn) : State :=
  match s.audit.cur with
  | none => s
  | some p =>
    let bs : List Byte := match f with
      | .complete h r => 0 :: (h ++ r)
      | .void _ => [1]
    { s with audit.cur := some { p with crc := SMap.set 0 p.crc st (crc64Run (SMap.get 0 p.crc st) bs) } }

/-- The FRAME entry of a stream and a tick (R330). -/
def frameEntry (st tick : Nat) : FrameIn → RecEnt
  | .complete h r => { rtype := 5, tick := tick, stream := st, payload := h ++ r }
  | .void c => { rtype := 5, tick := tick, stream := st, aux := 1 + 256 * c }

/-- A capture frame goes to the hub (R298). -/
def State.captureCopy (s : State) (st : Nat) (f : FrameIn) (xs : List Int) : State :=
  if s.rd OD.SEG_COUNT st = 0 then s
  else
    let bytes : List Byte := match f with
      | .void _ => []
      | .complete _ r => if s.rd OD.CAPT_SRC st = 1 then xs.flatMap fun x => leBytes 3 (ofSigned 24 x) else r
    let void : Bool := match f with
      | .void _ => true
      | .complete _ _ => false
    s.captPush st { tick := s.tickNo, void := void, bytes := bytes }

/-- A calibration frame gives a label event (R230). -/
def State.calibration (s : State) (st : Nat) (hdr : List Byte) : State :=
  if s.rd OD.CAL_EN = 0 then s
  else
    match s.hdrField st (s.rd OD.CAL_FIELD) hdr with
    | some v =>
      if bits v 8 8 = s.rd OD.CAL_KEY then s.labelEvent { tick := s.tickNo, stream := st, label := bits v 0 8, kind := 2 } else s
    | none => s

/-- A stream's frame is admitted at this tick; one that cannot enter a full injection buffer is admitted void (R51). -/
def State.admitOne (s : State) (st : Nat) (f : FrameIn) : State :=
  let droop := decide (256 < s.lagOf (s.homeDie st) s.now)
  match f, droop with
  | .complete h r, false =>
    let x := s.stages st h r
    let s := ((x.1.inc OD.FRAMES_OK st).takeFlight st none x.2).inject st none x.2
    ((s.sealFrame st f).captureCopy st f x.2.xs).calibration st h
  | .complete _ _, true =>
    let v := FrameIn.void 7
    let s := ((s.inc OD.FRAMES_VOID st).takeFlight st (some 7) {}).inject st (some 7) {}
    let s := (s.sealFrame st v).captureCopy st v []
    s.updIng st fun i => { i with needReset := true }
  | .void c, _ =>
    let s := (s.takeFlight st (some c) {}).inject st (some c) {}
    let s := (s.sealFrame st f).captureCopy st f []
    s.updIng st fun i => { i with needReset := true }

/-- The entry the recorder keeps of it. -/
def State.recordedFrame (s : State) (st : Nat) (f : FrameIn) : RecEnt :=
  match f with
  | .complete _ _ =>
    if 256 < s.lagOf (s.homeDie st) s.now then frameEntry st s.tickNo (.void 7) else frameEntry st s.tickNo f
  | .void _ => frameEntry st s.tickNo f

/-- A tick of a pause: nothing is admitted, what came for it is discarded and counted, and the capture copy is void (R178,
R298). -/
def State.pausedOne (s : State) (st : Nat) : State :=
  let s := if s.fed st ∧ s.rd OD.DAMP_STATE ≠ 0 ∧ ¬ s.faults.safe then s.inc OD.DAMP_DROP st else s
  if s.act.tr = 0 then s else s.captureCopy st (.void 0) []

/-- A stream that the running image does not admit has void capture frames (R298). -/
def State.unusedOne (s : State) (st : Nat) : State := if s.admitted st then s else s.captureCopy st (.void 0) []

/-! ### Steps of a boundary -/

/-- Admission stops at the first tick boundary after SAFE entry (R474). -/
def State.safeStops (s : State) : State :=
  if s.faults.safe ∧ s.act.admitOn then
    let quiet (_ : Nat) (d : Decide) : Decide := if d.flights = [] then d.setFailsafe true (s.now + 10) else d
    { s with act.admitOn := false, decisions := SMap.mapVals {} quiet s.decisions }
  else s

/-- What runs at a boundary before the count moves: commits (R384), an activation due (R176), the window (R319), the resume
tick or its miss (R177). -/
def State.beforeTick (s : State) : State :=
  let s := (s.advanceTo (s.nextBoundary - 2)).deadline
  let s := (s.advanceTo s.nextBoundary).settleCores.fillAll.commitDue odEffect
  let s := if s.tape.replaying then s.replayAnchor else s
  let s := s.startDue.windowBoundary
  let s := if s.resumeReady then s.resume else if s.launchLate then s.missLaunch else s
  s.safeStops

/-- What a replay applies before its tick is admitted, or its end on command (R334, R335). -/
def State.replayBefore (s : State) : State :=
  if s.tape.replaying then (if s.rd OD.REPLAY_STATUS ≠ 1 then s.replayEnd 9 else s.replayTick) else s

/-- The Drone count, and the replay count, advance (R30, R334). -/
def State.countTick (s : State) : State :=
  { s with clock.drone := s.nextDrone, clock.bnd := s.nextBoundary, clock.short := 0, clock.deadlineOf := none,
           tape.count := if s.tape.replaying then (s.tape.count + 1) % 2 ^ 64 else s.tape.count }

/-- Every stream of the tick with what it brings. -/
def State.frames (s : State) (ue : Word64) : List (Nat × FrameIn) :=
  let es := if s.tape.replaying then s.tapeAt 5 s.tickNo else []
  (streams.filter s.admitted).map fun st =>
    (st, if s.tape.replaying then s.tapeFrame es st (ue.getLsbD st) else s.heldFrame st s.tickNo)

/-- Uncorrected reads of FRAME entries are counted (R335). -/
def State.countUe (s : State) (ue : Word64) (fs : List (Nat × FrameIn)) : State :=
  if s.tape.replaying then s.inc OD.REPLAY_UE 0 (fs.countP fun f => ue.getLsbD f.1) else s

/-- The part's first and last admitted tick (R322). -/
def State.sealTick (s : State) : State :=
  match s.audit.cur with
  | some p => if s.act.admitOn then
      { s with audit.cur := some { p with first := some (p.first.getD s.tickNo), last := some s.tickNo } } else s
  | none => s

/-- Admission of a tick (R38, R178). -/
def State.admitTick (s : State) (ue : Word64) : State :=
  let fs := s.frames ue
  let rec_ := if s.recording then fs.map fun f => s.recordedFrame f.1 f.2 else []
  let s := s.countUe ue fs
  let s := fs.foldl (fun s f => s.admitOne f.1 f.2) s
  let s := streams.foldl (if s.act.admitOn then State.unusedOne else State.pausedOne) s
  let s := streams.foldl (fun s st => s.clearTick st s.tickNo) s
  let s := s.sealTick.recFlush rec_ s.tickNo
  if s.tape.stopDue then s.endRecording s.tickNo 1 else s

/-- Lag falls by the idle cycles of a tick once a stretch has ended. R39 says that it falls by at least that much; the model takes
off exactly TICKDIV + 1 − TICKDIV_MIN, all at once at each boundary outside a stretch (DESIGN CHOICE, log entry 147). -/
def State.recoverLag (s : State) : State :=
  let idle := s.tickdiv + 1 - s.rd OD.TICKDIV_MIN
  (List.range 4).foldl (fun s d =>
    let s := s.noteLag d
    s.updDie d fun x => if x.stretch.isSome then x else { x with lag := x.lag - idle }) s

/-- Plucks whose source is this boundary (R361, R483). -/
def State.tickPlucks (s : State) : State :=
  let n := s.drone
  let s := if s.rd OD.PLUCK_AT = n then s.pluckFrom 1 s.clock.bnd 0 else s
  let s := if s.girder.pluckAt.contains n then s.pluckFrom 2 s.clock.bnd 0 else s
  { s with girder.pluckAt := s.girder.pluckAt.filter fun x => decide (n < x) }

/-- TB0 at the first tick of a window (R369). -/
def State.noteWindow (s : State) : State :=
  if s.tickNo % 65536 = 0 then s.wr OD.WIN_TIME 0 (time96 (s.linearNow 0)) else s

/-- The replay's last tick has been admitted (R335, R337). -/
def State.replayAfter (s : State) (last : Bool) : State :=
  if s.tape.replaying then
    let s := s.wr OD.REPLAY_TICK 0 s.tape.count
    if last then s.replayEnd 2 else s
  else s

/-- A READ that waits for this boundary is sampled and answered (R387). -/
def State.readDue (s : State) : State :=
  match s.dict.read with
  | some (m, at_, girder) =>
    if at_ ≤ s.drone then
      let x := s.sample m s.drone
      { x.1 with dict.read := none }.finish girder x.2
    else s
  | none => s

/-- The next tick boundary. -/
def State.tick (s : State) (ue : Word64) : State :=
  let s := s.beforeTick.replayBefore
  let last := s.tape.replaying && s.replayLast
  let s := s.countTick
  let s := ((s.admitTick ue).recoverLag.noteWindow).tickPlucks
  (s.replayAfter last).readDue

/-- TICK_BOUNDARY. `ue` names the streams whose FRAME entry reads uncorrected in a replay. -/
def execTickBoundary (ue : Word64) (s : State) : Answer := if s.clock.running then .next (s.tick ue) else .next s

/-! ### TICKIN (R34 to R37) -/

/-- The first boundary of the new phase lies TICKIN_OFFSET cycles after the synchronised edge (R35). TICKIN_STATUS[0] stays set
from then on, later Damps without a phase included, and the phase of later edges goes on being measured (DESIGN CHOICE, log
entry 147). -/
def State.phaseTo (s : State) (edge : Nat) : State :=
  let first := edge + s.rd OD.TICKIN_OFFSET
  let s := { s with clock.tickinWait := none, clock.bnd := first - s.tickdiv, clock.short := s.tickdiv - first,
                    clock.deadlineOf := none }
  s.wr OD.TICKIN_STATUS 0 1

/-- Phase of an edge against the running tick, positive when late; half a period has no stated sign (log entry 29). -/
def State.tickinError (s : State) (edge : Nat) : Int × State :=
  let e := (((edge : Int) + s.rd OD.TICKIN_OFFSET - s.nextBoundary) % s.tickdiv).toNat
  if 2 * e = s.tickdiv then
    let (d, s) := s.draw
    (if bit d 0 then (e : Int) else -(e : Int), s)
  else (if 2 * e < s.tickdiv then (e : Int) else (e : Int) - s.tickdiv, s)

/-- TICKIN_EDGE: an edge of the pin comes at a cycle; the selected one (R34) appears two cycles later behind the synchroniser,
always two where R35 leaves ±1 cycle (DESIGN CHOICE, log entry 147). A worker ignores it. -/
def execTickinEdge (rising : Bool) (cycle : Nat) (s : State) : Answer :=
  if ¬ s.clock.running ∨ s.isWorker ∨ (rising = true ↔ s.rd OD.TICKIN_EDGE = 1) then .next s
  else
    let edge := cycle + 2
    let s := s.advanceTo edge
    let s := { s with clock.tickinSeen := some edge }
    if s.clock.tickinWait.isSome then .next (s.phaseTo edge)
    else if s.rd OD.TICKIN_STATUS % 2 = 1 then
      let x := s.tickinError edge
      let s := x.2.wrI OD.TICKIN_PHASE 0 x.1
      .next (if s.rd OD.TICKIN_TOL < x.1.natAbs then s.raisePkg 0x0203 else s)
    else .next s

/-- TICKIN_TIMEOUT: no edge within 2^24 cycles of the wait's start (R35). -/
def execTickinTimeout (s : State) : Answer :=
  match s.clock.tickinWait with
  | none => .next s
  | some c =>
    let s := s.advanceTo (c + 2 ^ 24)
    let s := { s with clock.tickinWait := none, act.admitOn := false }
    .next (((s.wr OD.DAMP_STATE 0 6).wr OD.ACT_STATUS 0 9).raisePkg 0x0204)

end Sys2Proof.Machine
end

