-- ==== Sys2Proof/Machine/Dispatch.lean ====
section
/-! DEFINITION. The meaning of every command: one arm per constructor of `Instr`, each one call of the command's meaning. -/

namespace Sys2Proof.Machine

def exec (i : Instr) (s : State) : Host.Outcome State Fault Refusal :=
  match i with
  | .perstNRelease role refdly => Sys2Proof.Machine.execPerstNRelease role refdly s
  | .refdlyWaitEnd => Sys2Proof.Machine.execRefdlyWaitEnd s
  | .pllLockComplete => Sys2Proof.Machine.execPllLockComplete s
  | .pllLockTimeout => Sys2Proof.Machine.execPllLockTimeout s
  | .fuseReadComplete array => Sys2Proof.Machine.execFuseReadComplete array s
  | .fwChunk ofs len => Sys2Proof.Machine.execFwChunk ofs len s
  | .fwCmdVerify => Sys2Proof.Machine.execFwCmdVerify s
  | .fwCmdDiscard => Sys2Proof.Machine.execFwCmdDiscard s
  | .fwVerifyDone => Sys2Proof.Machine.execFwVerifyDone s
  | .selfTestDone r => Sys2Proof.Machine.execSelfTestDone r s
  | .trainingDone failed => Sys2Proof.Machine.execTrainingDone failed s
  | .defectMergeDone ms => Sys2Proof.Machine.execDefectMergeDone ms s
  | .conventionalReset => Sys2Proof.Machine.execConventionalReset s
  | .supplyMonitorReset => Sys2Proof.Machine.execSupplyMonitorReset s
  | .tickBoundary ue => Sys2Proof.Machine.execTickBoundary ue s
  | .ingestDeadline => Sys2Proof.Machine.execIngestDeadline s
  | .tickinEdge rising cycle => Sys2Proof.Machine.execTickinEdge rising cycle s
  | .tickinTimeout => Sys2Proof.Machine.execTickinTimeout s
  | .inputFifoArrival core ctrl label flit => Sys2Proof.Machine.execInputFifoArrival core ctrl label flit s
  | .bof core label tag ftag stream => Sys2Proof.Machine.execBof core label tag ftag stream s
  | .eof core label tag ftag => Sys2Proof.Machine.execEof core label tag ftag s
  | .select core label tag ftag sel => Sys2Proof.Machine.execSelect core label tag ftag sel s
  | .skip core label tag ftag => Sys2Proof.Machine.execSkip core label tag ftag s
  | .void core label tag ftag cause => Sys2Proof.Machine.execVoid core label tag ftag cause s
  | .frameAccept core ecc => Sys2Proof.Machine.execFrameAccept core ecc s
  | .steerTimeout core => Sys2Proof.Machine.execSteerTimeout core s
  | .mac8 core w ecc => Sys2Proof.Machine.execMac8 core w ecc s
  | .mac4 core w ecc => Sys2Proof.Machine.execMac4 core w ecc s
  | .scaleStep core w ecc => Sys2Proof.Machine.execScaleStep core w ecc s
  | .dataStep core w ecc => Sys2Proof.Machine.execDataStep core w ecc s
  | .loadInputFlit core w => Sys2Proof.Machine.execLoadInputFlit core w s
  | .loadActivationWord core w ecc => Sys2Proof.Machine.execLoadActivationWord core w ecc s
  | .weightWordRewrite core addr => Sys2Proof.Machine.execWeightWordRewrite core addr s
  | .loadPartialSum core w => Sys2Proof.Machine.execLoadPartialSum core w s
  | .requantise core w ecc => Sys2Proof.Machine.execRequantise core w ecc s
  | .requantiseLookup core w ecc => Sys2Proof.Machine.execRequantiseLookup core w ecc s
  | .lookup core w ecc => Sys2Proof.Machine.execLookup core w ecc s
  | .mergeIn core w => Sys2Proof.Machine.execMergeIn core w s
  | .mergeOut core w ecc => Sys2Proof.Machine.execMergeOut core w ecc s
  | .mergeOutLookup core w ecc => Sys2Proof.Machine.execMergeOutLookup core w ecc s
  | .blockEncode core w ecc => Sys2Proof.Machine.execBlockEncode core w ecc s
  | .emitData core w => Sys2Proof.Machine.execEmitData core w s
  | .emitPartialSums core w => Sys2Proof.Machine.execEmitPartialSums core w s
  | .emitControlTemplate core w => Sys2Proof.Machine.execEmitControlTemplate core w s
  | .storeActivation core w => Sys2Proof.Machine.execStoreActivation core w s
  | .emitDecisionRecord core w => Sys2Proof.Machine.execEmitDecisionRecord core w s
  | .coreParity core => Sys2Proof.Machine.execCoreParity core s
  | .routerHop pos out fault => Sys2Proof.Machine.execRouterHop pos out fault s
  | .gatewayCrossing cluster outbound port ctrl => Sys2Proof.Machine.execGatewayCrossing cluster outbound port ctrl s
  | .trussHop cluster out lane ecc => Sys2Proof.Machine.execTrussHop cluster out lane ecc s
  | .viaductCrossing via chan lane ctrl back ecc => Sys2Proof.Machine.execViaductCrossing via chan lane ctrl back ecc s
  | .hubRelay src chan lane ctrl => Sys2Proof.Machine.execHubRelay src chan lane ctrl s
  | .deckWrite cluster label ctrl flit => Sys2Proof.Machine.execDeckWrite cluster label ctrl flit s
  | .deckRead cluster label ctrl flit ue ce => Sys2Proof.Machine.execDeckRead cluster label ctrl flit ue ce s
  | .recordArrival stream record epoch cycle => Sys2Proof.Machine.execRecordArrival stream record epoch cycle s
  | .recordRelease stream => Sys2Proof.Machine.execRecordRelease stream s
  | .deadlineMiss stream => Sys2Proof.Machine.execDeadlineMiss stream s
  | .staleRecord stream => Sys2Proof.Machine.execStaleRecord stream s
  | .trigoutPulseEnd pin stream => Sys2Proof.Machine.execTrigoutPulseEnd pin stream s
  | .decisionBurst lane => Sys2Proof.Machine.execDecisionBurst lane s
  | .laneSubstitute lane rank => Sys2Proof.Machine.execLaneSubstitute lane rank s
  | .laneBlockReceived lane bytes fault fill pin => Sys2Proof.Machine.execLaneBlockReceived lane bytes fault fill pin s
  | .fecCodeword lane corrected => Sys2Proof.Machine.execFecCodeword lane corrected s
  | .laneEnable lane value => Sys2Proof.Machine.execLaneEnable lane value s
  | .quadConfigWrite quad sub value => Sys2Proof.Machine.execQuadConfigWrite quad sub value s
  | .lanePllLocked quad => Sys2Proof.Machine.execLanePllLocked quad s
  | .cdrLocked lane => Sys2Proof.Machine.execCdrLocked lane s
  | .adaptConverged lane ctle dfe => Sys2Proof.Machine.execAdaptConverged lane ctle dfe s
  | .adaptTimeout lane ctle dfe => Sys2Proof.Machine.execAdaptTimeout lane ctle dfe s
  | .fecLock lane => Sys2Proof.Machine.execFecLock lane s
  | .blockLock lane => Sys2Proof.Machine.execBlockLock lane s
  | .delineated lane => Sys2Proof.Machine.execDelineated lane s
  | .laneDown lane why => Sys2Proof.Machine.execLaneDown lane why s
  | .laneTrainFail lane => Sys2Proof.Machine.execLaneTrainFail lane s
  | .prbsLock lane rx => Sys2Proof.Machine.execPrbsLock lane rx s
  | .injFire lane => Sys2Proof.Machine.execInjFire lane s
  | .injPeriodic lane => Sys2Proof.Machine.execInjPeriodic lane s
  | .deepBurst lane => Sys2Proof.Machine.execDeepBurst lane s
  | .readoutBurst lane ecc => Sys2Proof.Machine.execReadoutBurst lane ecc s
  | .captureFrameWrite stream => Sys2Proof.Machine.execCaptureFrameWrite stream s
  | .captArm stream => Sys2Proof.Machine.execCaptArm stream s
  | .captStop stream => Sys2Proof.Machine.execCaptStop stream s
  | .captFreeTo stream segno => Sys2Proof.Machine.execCaptFreeTo stream segno s
  | .ovfRearm stream => Sys2Proof.Machine.execOvfRearm stream s
  | .maskTestDone stream ueFirst ce => Sys2Proof.Machine.execMaskTestDone stream ueFirst ce s
  | .maskPointWrite hi => Sys2Proof.Machine.execMaskPointWrite hi s
  | .gateTimeout stream => Sys2Proof.Machine.execGateTimeout stream s
  | .deepSlotBoundary => Sys2Proof.Machine.execDeepSlotBoundary s
  | .refreshWindow t0 t1 corrected reissued => Sys2Proof.Machine.execRefreshWindow t0 t1 corrected reissued s
  | .handoffDrain stream => Sys2Proof.Machine.execHandoffDrain stream s
  | .recallRequest core f0 q0 q1 => Sys2Proof.Machine.execRecallRequest core f0 q0 q1 s
  | .recallStart ueAddrs ce => Sys2Proof.Machine.execRecallStart ueAddrs ce s
  | .recallResponse => Sys2Proof.Machine.execRecallResponse s
  | .deepItemStart => Sys2Proof.Machine.execDeepItemStart s
  | .deepResult payload sat hist reset repair programVoid => Sys2Proof.Machine.execDeepResult payload sat hist reset repair programVoid s
  | .deepStrictRelease => Sys2Proof.Machine.execDeepStrictRelease s
  | .histClear => Sys2Proof.Machine.execHistClear s
  | .labelCutoff group => Sys2Proof.Machine.execLabelCutoff group s
  | .adaptUpdate group grads banksWritten => Sys2Proof.Machine.execAdaptUpdate group grads banksWritten s
  | .adaptBankRelease group => Sys2Proof.Machine.execAdaptBankRelease group s
  | .adaptSwap group => Sys2Proof.Machine.execAdaptSwap group s
  | .rollbackCmd => Sys2Proof.Machine.execRollbackCmd s
  | .satReport core layer count => Sys2Proof.Machine.execSatReport core layer count s
  | .driftWindowBoundary => Sys2Proof.Machine.execDriftWindowBoundary s
  | .slotOpen slot seq => Sys2Proof.Machine.execSlotOpen slot seq s
  | .slotCommit slot size prog weight => Sys2Proof.Machine.execSlotCommit slot size prog weight s
  | .slotClear slot => Sys2Proof.Machine.execSlotClear slot s
  | .slotCheckDone slot content => Sys2Proof.Machine.execSlotCheckDone slot content s
  | .bar2Write ofs bytes => Sys2Proof.Machine.execBar2Write ofs bytes s
  | .bar2Read ofs len ecc => Sys2Proof.Machine.execBar2Read ofs len ecc s
  | .winBaseWrite value => Sys2Proof.Machine.execWinBaseWrite value s
  | .actCmdActivate slot mode at_ resumeAt => Sys2Proof.Machine.execActCmdActivate slot mode at_ resumeAt s
  | .actCmdCancel => Sys2Proof.Machine.execActCmdCancel s
  | .actStart => Sys2Proof.Machine.execActStart s
  | .drainDone => Sys2Proof.Machine.execDrainDone s
  | .verifyPass => Sys2Proof.Machine.execVerifyPass s
  | .dampStuck => Sys2Proof.Machine.execDampStuck s
  | .loadDone ecc => Sys2Proof.Machine.execLoadDone ecc s
  | .rampWave wave => Sys2Proof.Machine.execRampWave wave s
  | .resumeTick => Sys2Proof.Machine.execResumeTick s
  | .launchMissed => Sys2Proof.Machine.execLaunchMissed s
  | .epochSweep found => Sys2Proof.Machine.execEpochSweep found s
  | .auditWindowBoundary => Sys2Proof.Machine.execAuditWindowBoundary s
  | .sealComplete => Sys2Proof.Machine.execSealComplete s
  | .sealEnWrite value => Sys2Proof.Machine.execSealEnWrite value s
  | .recArm => Sys2Proof.Machine.execRecArm s
  | .recStop => Sys2Proof.Machine.execRecStop s
  | .recOverrun => Sys2Proof.Machine.execRecOverrun s
  | .replayStart anchor slot end_ => Sys2Proof.Machine.execReplayStart anchor slot end_ s
  | .replayStop => Sys2Proof.Machine.execReplayStop s
  | .beaconSend => Sys2Proof.Machine.execBeaconSend s
  | .beacon rx domain mgrSerial rosterGen joins => Sys2Proof.Machine.execBeacon rx domain mgrSerial rosterGen joins s
  | .joinReq rx info => Sys2Proof.Machine.execJoinReq rx info s
  | .joinAck rx serial addr depth => Sys2Proof.Machine.execJoinAck rx serial addr depth s
  | .joinNak rx serial reason => Sys2Proof.Machine.execJoinNak rx serial reason s
  | .leave rx addr orderly subtree => Sys2Proof.Machine.execLeave rx addr orderly subtree s
  | .heartbeat rx addr drone => Sys2Proof.Machine.execHeartbeat rx addr drone s
  | .heartbeatSend => Sys2Proof.Machine.execHeartbeatSend s
  | .heartbeatMissed addr => Sys2Proof.Machine.execHeartbeatMissed addr s
  | .sync rx m ingress frac => Sys2Proof.Machine.execSync rx m ingress frac s
  | .syncSend egressFrac => Sys2Proof.Machine.execSyncSend egressFrac s
  | .delayMeasure => Sys2Proof.Machine.execDelayMeasure s
  | .delayReq rx turn => Sys2Proof.Machine.execDelayReq rx turn s
  | .delayResp rx t1 t4 turn => Sys2Proof.Machine.execDelayResp rx t1 t4 turn s
  | .launch rx m => Sys2Proof.Machine.execLaunch rx m s
  | .launchAck rx count code refuse addr => Sys2Proof.Machine.execLaunchAck rx count code refuse addr s
  | .launchAckTimeout => Sys2Proof.Machine.execLaunchAckTimeout s
  | .odReq rx op m => Sys2Proof.Machine.execOdReq rx op m s
  | .odResp rx addr tag op status failItem tick items => Sys2Proof.Machine.execOdResp rx addr tag op status failItem tick items s
  | .odForwardTimeout => Sys2Proof.Machine.execOdForwardTimeout s
  | .fwData rx ofs bytes last => Sys2Proof.Machine.execFwData rx ofs bytes last s
  | .fwStatus rx addr received status => Sys2Proof.Machine.execFwStatus rx addr received status s
  | .linkAck rx lseq nak => Sys2Proof.Machine.execLinkAck rx lseq nak s
  | .resendTimeout port => Sys2Proof.Machine.execResendTimeout port s
  | .joinRetry => Sys2Proof.Machine.execJoinRetry s
  | .refusedWaitEnd => Sys2Proof.Machine.execRefusedWaitEnd s
  | .beaconWatchdog => Sys2Proof.Machine.execBeaconWatchdog s
  | .servoHoldover => Sys2Proof.Machine.execServoHoldover s
  | .addrHoldExpiry addr => Sys2Proof.Machine.execAddrHoldExpiry addr s
  | .joinCmd => Sys2Proof.Machine.execJoinCmd s
  | .leaveCmd value => Sys2Proof.Machine.execLeaveCmd value s
  | .launchCmd m => Sys2Proof.Machine.execLaunchCmd m s
  | .roleOverride value => Sys2Proof.Machine.execRoleOverride value s
  | .upstreamLoss refclk => Sys2Proof.Machine.execUpstreamLoss refclk s
  | .holdoverEnd refclk => Sys2Proof.Machine.execHoldoverEnd refclk s
  | .tbTimeWrite tb time => Sys2Proof.Machine.execTbTimeWrite tb time s
  | .tbStep tb step => Sys2Proof.Machine.execTbStep tb step s
  | .tbRateWrite tb rate => Sys2Proof.Machine.execTbRateWrite tb rate s
  | .tbIncrWrite tb incr => Sys2Proof.Machine.execTbIncrWrite tb incr s
  | .tbIncAdj tb adj => Sys2Proof.Machine.execTbIncAdj tb adj s
  | .odRead m => Sys2Proof.Machine.execOdRead m s
  | .odWrite m => Sys2Proof.Machine.execOdWrite m s
  | .odWriteDry m => Sys2Proof.Machine.execOdWriteDry m s
  | .odDescribe m => Sys2Proof.Machine.execOdDescribe m s
  | .odList m => Sys2Proof.Machine.execOdList m s
  | .mbAck => Sys2Proof.Machine.execMbAck s
  | .txnCommit => Sys2Proof.Machine.execTxnCommit s
  | .bar0RegisterWrite reg value => Sys2Proof.Machine.execBar0RegisterWrite reg value s
  | .functionLevelReset => Sys2Proof.Machine.execFunctionLevelReset s
  | .pcieLinkDown => Sys2Proof.Machine.execPcieLinkDown s
  | .licData bytes => Sys2Proof.Machine.execLicData bytes s
  | .licInstall => Sys2Proof.Machine.execLicInstall s
  | .licCheckDone => Sys2Proof.Machine.execLicCheckDone s
  | .licRemove => Sys2Proof.Machine.execLicRemove s
  | .licDiscard => Sys2Proof.Machine.execLicDiscard s
  | .presenceBtnPress => Sys2Proof.Machine.execPresenceBtnPress s
  | .presenceWindowExpiry => Sys2Proof.Machine.execPresenceWindowExpiry s
  | .presClose => Sys2Proof.Machine.execPresClose s
  | .presentNChange level => Sys2Proof.Machine.execPresentNChange level s
  | .sealLoopBreak => Sys2Proof.Machine.execSealLoopBreak s
  | .sealLoopRestored => Sys2Proof.Machine.execSealLoopRestored s
  | .fuseProgram field value => Sys2Proof.Machine.execFuseProgram field value s
  | .fuseProgramDone good => Sys2Proof.Machine.execFuseProgramDone good s
  | .debugUnlock => Sys2Proof.Machine.execDebugUnlock s
  | .debugRelock => Sys2Proof.Machine.execDebugRelock s
  | .tapInstruction ins => Sys2Proof.Machine.execTapInstruction ins s
  | .powerEstimate mw => Sys2Proof.Machine.execPowerEstimate mw s
  | .thermSample readings => Sys2Proof.Machine.execThermSample readings s
  | .thermalDemandStep => Sys2Proof.Machine.execThermalDemandStep s
  | .marginShort die => Sys2Proof.Machine.execMarginShort die s
  | .avsTransactionDone die ok mv deciAmps => Sys2Proof.Machine.execAvsTransactionDone die ok mv deciAmps s
  | .loadHint dies drone48 => Sys2Proof.Machine.execLoadHint dies drone48 s
  | .hintBoostStart => Sys2Proof.Machine.execHintBoostStart s
  | .hintBoostEnd => Sys2Proof.Machine.execHintBoostEnd s
  | .droopTrip die cycle => Sys2Proof.Machine.execDroopTrip die cycle s
  | .stretchEnd die cycle => Sys2Proof.Machine.execStretchEnd die cycle s
  | .gateIdleAck block => Sys2Proof.Machine.execGateIdleAck block s
  | .gateRefused block => Sys2Proof.Machine.execGateRefused block s
  | .pllUnlock pll => Sys2Proof.Machine.execPllUnlock pll s
  | .clockMuxSwitch mux src => Sys2Proof.Machine.execClockMuxSwitch mux src s
  | .deadClock mux src => Sys2Proof.Machine.execDeadClock mux src s
  | .clkmonWrite sel div => Sys2Proof.Machine.execClkmonWrite sel div s
  | .errClear unit => Sys2Proof.Machine.execErrClear unit s
  | .errAutoclearExpiry unit => Sys2Proof.Machine.execErrAutoclearExpiry unit s
  | .hubFault => Sys2Proof.Machine.execHubFault s
  | .safeDrainEnd => Sys2Proof.Machine.execSafeDrainEnd s
  | .repairWindowStart core => Sys2Proof.Machine.execRepairWindowStart core s
  | .standInLoadDone core => Sys2Proof.Machine.execStandInLoadDone core s
  | .standIn core => Sys2Proof.Machine.execStandIn core s
  | .pluckCmd => Sys2Proof.Machine.execPluckCmd s
  | .pluckInEdge rising => Sys2Proof.Machine.execPluckInEdge rising s
  | .pluckLatch => Sys2Proof.Machine.execPluckLatch s
  | .snapshotCopyDone bank => Sys2Proof.Machine.execSnapshotCopyDone bank s
  | .snapRelease bank => Sys2Proof.Machine.execSnapRelease bank s
  | .monClear => Sys2Proof.Machine.execMonClear s
  | .coreCntClear => Sys2Proof.Machine.execCoreCntClear s
  | .satClear => Sys2Proof.Machine.execSatClear s
  | .fabricCntClear => Sys2Proof.Machine.execFabricCntClear s
  | .deepCntClear => Sys2Proof.Machine.execDeepCntClear s
  | .adaptCntClear => Sys2Proof.Machine.execAdaptCntClear s
  | .laneCntClear => Sys2Proof.Machine.execLaneCntClear s
  | .trgCntClear => Sys2Proof.Machine.execTrgCntClear s
  | .hostCntClear => Sys2Proof.Machine.execHostCntClear s
  | .pwrCntClear => Sys2Proof.Machine.execPwrCntClear s
  | .fwImgData bytes => Sys2Proof.Machine.execFwImgData bytes s
  | .girderPortLock port => Sys2Proof.Machine.execGirderPortLock port s
  | .girderPortLossOfLock port => Sys2Proof.Machine.execGirderPortLossOfLock port s
  | .referenceReturn src => Sys2Proof.Machine.execReferenceReturn src s
  | .pcieLinkUp rate width => Sys2Proof.Machine.execPcieLinkUp rate width s
  | .evtModExpiry vector => Sys2Proof.Machine.execEvtModExpiry vector s
  | .hubFirmwareRestartDone => Sys2Proof.Machine.execHubFirmwareRestartDone s

end Sys2Proof.Machine
end

