-- ==== Sys2Proof/Machine/TimePasses.lean ====
section
/-! DEFINITION. What the block does while no command waits (log entry 1). -/

namespace Sys2Proof.Machine

/-- One reference cycle passes, once the clocks run (R8, R354); the bodies of running cores issue their words (R79, R84), and
what the cores have counted is reported. -/
def State.cyclePasses (s : State) : State :=
  if s.clock.running then (s.advanceTo (s.now + 1)).settleCores else s

end Sys2Proof.Machine
end

