-- ==== Sys2Proof/WellFormed.lean ====
section
/-! DEFINITION. Which commands are well formed: an operand names a unit that exists, a microword spells the row's operation, and a
message or section keeps the sizes the rules give it. The types of the operands exclude what they can; the rest stands here. -/

namespace Sys2Proof

/-- A PCID of a core or a spare (R151): position 0 to 15, spare 16. -/
def coreOk (p : Nat) : Bool := decide (p < 8192 ∧ p % 32 ≤ 16)

/-- A PCID of a home position (R151). -/
def homeOk (p : Nat) : Bool := decide (p < 8192 ∧ p % 32 < 16)

/-- Self-test names units that exist (R405, R410). -/
def SelfTest.wf (r : SelfTest) : Bool :=
  r.badCores.all coreOk && r.badRouters.all (fun c => decide (c < 256)) && r.badTruss.all (fun c => decide (c < 256)) &&
  r.badRows.all (fun x => coreOk x.1 && decide (1 ≤ x.2.1 ∧ x.2.1 ≤ 2)) &&
  r.badBankRows.all (fun x => decide (x.1 < 256)) && decide (r.badLanes < 2 ^ 64) && r.badViaducts.all (fun v => decide (v < 8))

/-- An item of a message (R381). -/
def OdItem.wf (i : OdItem) : Bool := decide (i.index < 65536 ∧ i.sub < 256 ∧ i.data.length < 65536)

/-- Bytes of an item with its header and padding (R381). -/
def OdItem.size (i : OdItem) : Nat := 8 + (i.data.length + 7) / 8 * 8

/-- A message holds at most 1,024 bytes (R380). -/
def OdMsg.wf (m : OdMsg) : Bool :=
  m.items.all OdItem.wf && decide (m.target < 65536 ∧ m.at_ < 2 ^ 64 ∧ 16 + (m.items.map OdItem.size).sum ≤ 1024)

/-- Operands of an MXINT8 gradient block (R235). -/
def GradBlock.wf (g : GradBlock) : Bool :=
  decide (g.scale < 256 ∧ g.elems.length = 32) && g.elems.all fun e => decide (-128 ≤ e ∧ e ≤ 127)

/-- Sections of one core (R82, R84, R87, R105). -/
def CoreImage.wf (c : CoreImage) : Bool :=
  decide (c.x < 64 ∧ c.y < 64 ∧ c.micro.length ≤ 256 ∧ c.templates.length ≤ 8) &&
  c.req.all (fun p => decide (p.1 < 64)) && c.lut.all (fun p => decide (p.1 < 256)) &&
  c.weights.all (fun p => decide (p.1 < 32768)) && c.ctrl.loops.all fun l => decide (l.start < 256 ∧ l.limit < 65536)

/-- Sections of one cluster (R133, R136, R137). -/
def ClusterImage.wf (c : ClusterImage) : Bool :=
  decide (c.num < 256) && c.outbound.all (fun p => decide (p.1 < 16)) && c.inbound.all (fun p => decide (p.1 < 16)) &&
  c.deck.all (fun p => decide (p.1 < 64)) && c.mem.all fun p => decide (p.1 < 131072)

/-- Sections of an image (R164). -/
def ImageContent.wf (c : ImageContent) : Bool :=
  c.cores.all CoreImage.wf && c.clusters.all ClusterImage.wf && decide (c.adapt.length ≤ 8) &&
  c.inject.all (fun m => decide (m.stream < 64 ∧ m.label < 16 ∧ m.ch < 1024)) &&
  c.iq.all (fun p => decide (p.1 < 1024)) && c.thresh.all (fun p => decide (p.1 < 1088))

/-- Identity in a JOIN_REQ (R345, R349). -/
def JoinInfo.wf (i : JoinInfo) : Bool :=
  decide (i.serial < 2 ^ 64 ∧ i.grade < 256 ∧ i.stepping < 256 ∧ i.latClass < 256 ∧ i.held < 65536 ∧ i.parent < 256 ∧
    i.pport < 4)

/-- Fields of a SYNC (R356). -/
def SyncMsg.wf (m : SyncMsg) : Bool :=
  decide (m.cyc < 2 ^ 64 ∧ m.cycFrac < 65536 ∧ m.drone < 2 ^ 64 ∧ m.tphase < 2 ^ 32 ∧ 4 ≤ m.tickdiv ∧ m.tickdiv ≤ 65536 ∧
    4 ≤ m.syncLog2 ∧ m.syncLog2 ≤ 14)

/-- A LAUNCH (R361): KIND 1 to 3, and an OD transaction where KIND is 3. -/
def LaunchMsg.wf (m : LaunchMsg) : Bool :=
  decide (m.count < 2 ^ 64 ∧ 1 ≤ m.kind ∧ m.kind ≤ 3 ∧ m.targets < 2 ^ 256 ∧ m.slot < 256 ∧ m.mode < 256 ∧ m.resumeAt < 2 ^ 64 ∧
    m.tickdiv < 2 ^ 32) &&
  (match m.msg with
   | some x => x.wf && decide (m.kind = 3 ∧ 16 + (x.items.map OdItem.size).sum ≤ 983)
   | none => decide (m.kind ≠ 3))

/-- A BAR0 access stays in its window and is at most 128 bytes long (R376, R377). -/
def Bar0Reg.wf : Bar0Reg → Bool
  | .mbIrqEn => true
  | .evtTail => true
  | .evtMod => true
  | .staging ofs bytes => decide (1 ≤ bytes.length ∧ bytes.length ≤ 128 ∧ ofs.val + bytes.length ≤ 16384)
  | .msix _ _ => true

/-- A command is well formed. -/
def Instr.wf : Instr → Bool
  | .perstNRelease _ _ => true
  | .refdlyWaitEnd => true
  | .pllLockComplete => true
  | .pllLockTimeout => true
  | .fuseReadComplete _ => true
  | .fwChunk ofs len => decide (1 ≤ len.val ∧ len.val ≤ 16384 ∧ ofs.val + len.val ≤ 4194304)
  | .fwCmdVerify => true
  | .fwCmdDiscard => true
  | .fwVerifyDone => true
  | .selfTestDone r => r.wf
  | .trainingDone _ => true
  | .defectMergeDone _ => true
  | .conventionalReset => true
  | .supplyMonitorReset => true
  | .tickBoundary _ => true
  | .ingestDeadline => true
  | .tickinEdge _ _ => true
  | .tickinTimeout => true
  | .inputFifoArrival core _ _ _ => coreOk core
  | .bof core _ _ _ _ => coreOk core
  | .eof core _ _ _ => coreOk core
  | .select core _ _ _ _ => coreOk core
  | .skip core _ _ _ => coreOk core
  | .void core _ _ _ _ => coreOk core
  | .frameAccept core _ => coreOk core
  | .steerTimeout core => coreOk core
  | .mac8 core w _ => coreOk core && decide (bits w.toNat 62 2 = 1)
  | .mac4 core w _ => coreOk core && decide (bits w.toNat 62 2 = 2)
  | .scaleStep core w _ => coreOk core && decide (bits w.toNat 62 2 = 3)
  | .dataStep core w _ => coreOk core && decide (bits w.toNat 62 2 = 3)
  | .loadInputFlit core w => coreOk core && decide (bits w.toNat 48 2 = 1)
  | .loadActivationWord core w _ => coreOk core && decide (bits w.toNat 48 2 = 2)
  | .weightWordRewrite core addr => coreOk core && decide (addr.val % 8 = 0)
  | .loadPartialSum core w => coreOk core && decide (bits w.toNat 48 2 = 3)
  | .requantise core w _ => coreOk core && decide (bits w.toNat 38 3 = 1)
  | .requantiseLookup core w _ => coreOk core && decide (bits w.toNat 38 3 = 2)
  | .lookup core w _ => coreOk core && decide (bits w.toNat 38 3 = 3)
  | .mergeIn core w => coreOk core && decide (bits w.toNat 38 3 = 4)
  | .mergeOut core w _ => coreOk core && decide (bits w.toNat 38 3 = 5)
  | .mergeOutLookup core w _ => coreOk core && decide (bits w.toNat 38 3 = 6)
  | .blockEncode core w _ => coreOk core && decide (bits w.toNat 38 3 = 1)
  | .emitData core w => coreOk core && decide (bits w.toNat 26 3 = 1)
  | .emitPartialSums core w => coreOk core && decide (bits w.toNat 26 3 = 2)
  | .emitControlTemplate core w => coreOk core && decide (bits w.toNat 26 3 = 3)
  | .storeActivation core w => coreOk core && decide (bits w.toNat 26 3 = 4)
  | .emitDecisionRecord core w => coreOk core && decide (bits w.toNat 26 3 = 5)
  | .coreParity core => coreOk core
  | .routerHop pos _ _ => homeOk pos
  | .gatewayCrossing _ _ _ _ => true
  | .trussHop _ _ _ _ => true
  | .viaductCrossing _ _ _ _ _ _ => true
  | .hubRelay _ _ _ _ => true
  | .deckWrite _ _ _ _ => true
  | .deckRead _ _ _ _ _ _ => true
  | .recordArrival _ _ _ _ => true
  | .recordRelease _ => true
  | .deadlineMiss _ => true
  | .staleRecord _ => true
  | .trigoutPulseEnd _ _ => true
  | .decisionBurst _ => true
  | .laneSubstitute _ _ => true
  | .laneBlockReceived _ bytes _ _ _ => decide (2 ≤ bytes.length)
  | .fecCodeword _ _ => true
  | .laneEnable _ _ => true
  | .quadConfigWrite _ _ _ => true
  | .lanePllLocked _ => true
  | .cdrLocked _ => true
  | .adaptConverged _ _ _ => true
  | .adaptTimeout _ _ _ => true
  | .fecLock _ => true
  | .blockLock _ => true
  | .delineated _ => true
  | .laneDown _ _ => true
  | .laneTrainFail _ => true
  | .prbsLock _ _ => true
  | .injFire _ => true
  | .injPeriodic _ => true
  | .deepBurst _ => true
  | .readoutBurst _ _ => true
  | .captureFrameWrite _ => true
  | .captArm _ => true
  | .captStop _ => true
  | .captFreeTo _ _ => true
  | .ovfRearm _ => true
  | .maskTestDone _ _ _ => true
  | .maskPointWrite _ => true
  | .gateTimeout _ => true
  | .deepSlotBoundary => true
  | .refreshWindow _ _ _ _ => true
  | .handoffDrain _ => true
  | .recallRequest core _ _ _ => coreOk core
  | .recallStart _ _ => true
  | .recallResponse => true
  | .deepItemStart => true
  | .deepResult _ _ _ _ _ _ => true
  | .deepStrictRelease => true
  | .histClear => true
  | .labelCutoff _ => true
  | .adaptUpdate _ grads _ => grads.all GradBlock.wf
  | .adaptBankRelease _ => true
  | .adaptSwap _ => true
  | .rollbackCmd => true
  | .satReport core _ _ => coreOk core
  | .driftWindowBoundary => true
  | .slotOpen _ _ => true
  | .slotCommit _ _ _ _ => true
  | .slotClear _ => true
  | .slotCheckDone _ content => content.wf
  | .bar2Write ofs bytes => decide (1 ≤ bytes.length ∧ ofs.val + bytes.length ≤ 268435456)
  | .bar2Read ofs len _ => decide (1 ≤ len.val ∧ ofs.val + len.val ≤ 268435456)
  | .winBaseWrite _ => true
  | .actCmdActivate _ _ _ _ => true
  | .actCmdCancel => true
  | .actStart => true
  | .drainDone => true
  | .verifyPass => true
  | .dampStuck => true
  | .loadDone _ => true
  | .rampWave _ => true
  | .resumeTick => true
  | .launchMissed => true
  | .epochSweep _ => true
  | .auditWindowBoundary => true
  | .sealComplete => true
  | .sealEnWrite _ => true
  | .recArm => true
  | .recStop => true
  | .recOverrun => true
  | .replayStart _ _ _ => true
  | .replayStop => true
  | .beaconSend => true
  | .beacon _ _ _ _ _ => true
  | .joinReq _ info => info.wf
  | .joinAck _ _ addr depth => decide (1 ≤ addr.toNat ∧ addr.toNat ≤ 255 ∧ 1 ≤ depth.val ∧ depth.val ≤ 8)
  | .joinNak _ _ reason => decide (1 ≤ reason.val ∧ reason.val ≤ 5)
  | .leave _ addr _ _ => decide (1 ≤ addr.val)
  | .heartbeat _ addr _ => decide (1 ≤ addr.val)
  | .heartbeatSend => true
  | .heartbeatMissed addr => decide (1 ≤ addr.val)
  | .sync _ m _ _ => m.wf
  | .syncSend _ => true
  | .delayMeasure => true
  | .delayReq _ _ => true
  | .delayResp _ _ _ _ => true
  | .launch _ m => m.wf
  | .launchAck _ _ _ _ _ => true
  | .launchAckTimeout => true
  | .odReq _ op m => m.wf && decide (op = .write ∨ m.dry = false)
  | .odResp _ addr _ _ status _ _ items => decide (1 ≤ addr.val ∧ status.toNat ≤ 15) && items.all fun i => i.1.wf
  | .odForwardTimeout => true
  | .fwData _ ofs bytes _ => decide (1 ≤ bytes.length ∧ bytes.length ≤ 1016 ∧ ofs.toNat + bytes.length ≤ 4194304)
  | .fwStatus _ _ _ _ => true
  | .linkAck _ _ _ => true
  | .resendTimeout _ => true
  | .joinRetry => true
  | .refusedWaitEnd => true
  | .beaconWatchdog => true
  | .servoHoldover => true
  | .addrHoldExpiry addr => decide (1 ≤ addr.val)
  | .joinCmd => true
  | .leaveCmd _ => true
  | .launchCmd m => m.wf
  | .roleOverride _ => true
  | .upstreamLoss _ => true
  | .holdoverEnd _ => true
  | .tbTimeWrite _ _ => true
  | .tbStep _ _ => true
  | .tbRateWrite _ _ => true
  | .tbIncrWrite _ _ => true
  | .tbIncAdj _ _ => true
  | .odRead m => m.wf
  | .odWrite m => m.wf && decide (m.dry = false)
  | .odWriteDry m => m.wf && m.dry
  | .odDescribe m => m.wf
  | .odList m => m.wf
  | .mbAck => true
  | .txnCommit => true
  | .bar0RegisterWrite reg _ => reg.wf
  | .functionLevelReset => true
  | .pcieLinkDown => true
  | .licData bytes => decide (1 ≤ bytes.length ∧ bytes.length ≤ 1000)
  | .licInstall => true
  | .licCheckDone => true
  | .licRemove => true
  | .licDiscard => true
  | .presenceBtnPress => true
  | .presenceWindowExpiry => true
  | .presClose => true
  | .presentNChange _ => true
  | .sealLoopBreak => true
  | .sealLoopRestored => true
  | .fuseProgram _ _ => true
  | .fuseProgramDone _ => true
  | .debugUnlock => true
  | .debugRelock => true
  | .tapInstruction _ => true
  | .powerEstimate _ => true
  | .thermSample readings => decide (readings.length = 68)
  | .thermalDemandStep => true
  | .marginShort _ => true
  | .avsTransactionDone _ _ _ _ => true
  | .loadHint _ _ => true
  | .hintBoostStart => true
  | .hintBoostEnd => true
  | .droopTrip _ _ => true
  | .stretchEnd _ _ => true
  | .gateIdleAck block => decide (block < 8272)
  | .gateRefused block => decide (block < 8272)
  | .pllUnlock _ => true
  | .clockMuxSwitch _ _ => true
  | .deadClock _ _ => true
  | .clkmonWrite _ _ => true
  | .errClear _ => true
  | .errAutoclearExpiry _ => true
  | .hubFault => true
  | .safeDrainEnd => true
  | .repairWindowStart core => homeOk core
  | .standInLoadDone core => homeOk core
  | .standIn core => homeOk core
  | .pluckCmd => true
  | .pluckInEdge _ => true
  | .pluckLatch => true
  | .snapshotCopyDone _ => true
  | .snapRelease _ => true
  | .monClear => true
  | .coreCntClear => true
  | .satClear => true
  | .fabricCntClear => true
  | .deepCntClear => true
  | .adaptCntClear => true
  | .laneCntClear => true
  | .trgCntClear => true
  | .hostCntClear => true
  | .pwrCntClear => true
  | .fwImgData bytes => decide (1 ≤ bytes.length ∧ bytes.length ≤ 1000)
  | .girderPortLock _ => true
  | .girderPortLossOfLock _ => true
  | .referenceReturn _ => true
  | .pcieLinkUp _ _ => true
  | .evtModExpiry _ => true
  | .hubFirmwareRestartDone => true

/-- The PCIDs a command names (R151). -/
def Instr.pcids : Instr → List Nat
  | .perstNRelease _ _ => []
  | .refdlyWaitEnd => []
  | .pllLockComplete => []
  | .pllLockTimeout => []
  | .fuseReadComplete _ => []
  | .fwChunk _ _ => []
  | .fwCmdVerify => []
  | .fwCmdDiscard => []
  | .fwVerifyDone => []
  | .selfTestDone _ => []
  | .trainingDone _ => []
  | .defectMergeDone _ => []
  | .conventionalReset => []
  | .supplyMonitorReset => []
  | .tickBoundary _ => []
  | .ingestDeadline => []
  | .tickinEdge _ _ => []
  | .tickinTimeout => []
  | .inputFifoArrival core _ _ _ => [core]
  | .bof core _ _ _ _ => [core]
  | .eof core _ _ _ => [core]
  | .select core _ _ _ _ => [core]
  | .skip core _ _ _ => [core]
  | .void core _ _ _ _ => [core]
  | .frameAccept core _ => [core]
  | .steerTimeout core => [core]
  | .mac8 core _ _ => [core]
  | .mac4 core _ _ => [core]
  | .scaleStep core _ _ => [core]
  | .dataStep core _ _ => [core]
  | .loadInputFlit core _ => [core]
  | .loadActivationWord core _ _ => [core]
  | .weightWordRewrite core _ => [core]
  | .loadPartialSum core _ => [core]
  | .requantise core _ _ => [core]
  | .requantiseLookup core _ _ => [core]
  | .lookup core _ _ => [core]
  | .mergeIn core _ => [core]
  | .mergeOut core _ _ => [core]
  | .mergeOutLookup core _ _ => [core]
  | .blockEncode core _ _ => [core]
  | .emitData core _ => [core]
  | .emitPartialSums core _ => [core]
  | .emitControlTemplate core _ => [core]
  | .storeActivation core _ => [core]
  | .emitDecisionRecord core _ => [core]
  | .coreParity core => [core]
  | .routerHop pos _ _ => [pos]
  | .gatewayCrossing _ _ _ _ => []
  | .trussHop _ _ _ _ => []
  | .viaductCrossing _ _ _ _ _ _ => []
  | .hubRelay _ _ _ _ => []
  | .deckWrite _ _ _ _ => []
  | .deckRead _ _ _ _ _ _ => []
  | .recordArrival _ _ _ _ => []
  | .recordRelease _ => []
  | .deadlineMiss _ => []
  | .staleRecord _ => []
  | .trigoutPulseEnd _ _ => []
  | .decisionBurst _ => []
  | .laneSubstitute _ _ => []
  | .laneBlockReceived _ _ _ _ _ => []
  | .fecCodeword _ _ => []
  | .laneEnable _ _ => []
  | .quadConfigWrite _ _ _ => []
  | .lanePllLocked _ => []
  | .cdrLocked _ => []
  | .adaptConverged _ _ _ => []
  | .adaptTimeout _ _ _ => []
  | .fecLock _ => []
  | .blockLock _ => []
  | .delineated _ => []
  | .laneDown _ _ => []
  | .laneTrainFail _ => []
  | .prbsLock _ _ => []
  | .injFire _ => []
  | .injPeriodic _ => []
  | .deepBurst _ => []
  | .readoutBurst _ _ => []
  | .captureFrameWrite _ => []
  | .captArm _ => []
  | .captStop _ => []
  | .captFreeTo _ _ => []
  | .ovfRearm _ => []
  | .maskTestDone _ _ _ => []
  | .maskPointWrite _ => []
  | .gateTimeout _ => []
  | .deepSlotBoundary => []
  | .refreshWindow _ _ _ _ => []
  | .handoffDrain _ => []
  | .recallRequest core _ _ _ => [core]
  | .recallStart _ _ => []
  | .recallResponse => []
  | .deepItemStart => []
  | .deepResult _ _ _ _ _ _ => []
  | .deepStrictRelease => []
  | .histClear => []
  | .labelCutoff _ => []
  | .adaptUpdate _ _ _ => []
  | .adaptBankRelease _ => []
  | .adaptSwap _ => []
  | .rollbackCmd => []
  | .satReport core _ _ => [core]
  | .driftWindowBoundary => []
  | .slotOpen _ _ => []
  | .slotCommit _ _ _ _ => []
  | .slotClear _ => []
  | .slotCheckDone _ _ => []
  | .bar2Write _ _ => []
  | .bar2Read _ _ _ => []
  | .winBaseWrite _ => []
  | .actCmdActivate _ _ _ _ => []
  | .actCmdCancel => []
  | .actStart => []
  | .drainDone => []
  | .verifyPass => []
  | .dampStuck => []
  | .loadDone _ => []
  | .rampWave _ => []
  | .resumeTick => []
  | .launchMissed => []
  | .epochSweep _ => []
  | .auditWindowBoundary => []
  | .sealComplete => []
  | .sealEnWrite _ => []
  | .recArm => []
  | .recStop => []
  | .recOverrun => []
  | .replayStart _ _ _ => []
  | .replayStop => []
  | .beaconSend => []
  | .beacon _ _ _ _ _ => []
  | .joinReq _ _ => []
  | .joinAck _ _ _ _ => []
  | .joinNak _ _ _ => []
  | .leave _ _ _ _ => []
  | .heartbeat _ _ _ => []
  | .heartbeatSend => []
  | .heartbeatMissed _ => []
  | .sync _ _ _ _ => []
  | .syncSend _ => []
  | .delayMeasure => []
  | .delayReq _ _ => []
  | .delayResp _ _ _ _ => []
  | .launch _ _ => []
  | .launchAck _ _ _ _ _ => []
  | .launchAckTimeout => []
  | .odReq _ _ _ => []
  | .odResp _ _ _ _ _ _ _ _ => []
  | .odForwardTimeout => []
  | .fwData _ _ _ _ => []
  | .fwStatus _ _ _ _ => []
  | .linkAck _ _ _ => []
  | .resendTimeout _ => []
  | .joinRetry => []
  | .refusedWaitEnd => []
  | .beaconWatchdog => []
  | .servoHoldover => []
  | .addrHoldExpiry _ => []
  | .joinCmd => []
  | .leaveCmd _ => []
  | .launchCmd _ => []
  | .roleOverride _ => []
  | .upstreamLoss _ => []
  | .holdoverEnd _ => []
  | .tbTimeWrite _ _ => []
  | .tbStep _ _ => []
  | .tbRateWrite _ _ => []
  | .tbIncrWrite _ _ => []
  | .tbIncAdj _ _ => []
  | .odRead _ => []
  | .odWrite _ => []
  | .odWriteDry _ => []
  | .odDescribe _ => []
  | .odList _ => []
  | .mbAck => []
  | .txnCommit => []
  | .bar0RegisterWrite _ _ => []
  | .functionLevelReset => []
  | .pcieLinkDown => []
  | .licData _ => []
  | .licInstall => []
  | .licCheckDone => []
  | .licRemove => []
  | .licDiscard => []
  | .presenceBtnPress => []
  | .presenceWindowExpiry => []
  | .presClose => []
  | .presentNChange _ => []
  | .sealLoopBreak => []
  | .sealLoopRestored => []
  | .fuseProgram _ _ => []
  | .fuseProgramDone _ => []
  | .debugUnlock => []
  | .debugRelock => []
  | .tapInstruction _ => []
  | .powerEstimate _ => []
  | .thermSample _ => []
  | .thermalDemandStep => []
  | .marginShort _ => []
  | .avsTransactionDone _ _ _ _ => []
  | .loadHint _ _ => []
  | .hintBoostStart => []
  | .hintBoostEnd => []
  | .droopTrip _ _ => []
  | .stretchEnd _ _ => []
  | .gateIdleAck _ => []
  | .gateRefused _ => []
  | .pllUnlock _ => []
  | .clockMuxSwitch _ _ => []
  | .deadClock _ _ => []
  | .clkmonWrite _ _ => []
  | .errClear _ => []
  | .errAutoclearExpiry _ => []
  | .hubFault => []
  | .safeDrainEnd => []
  | .repairWindowStart core => [core]
  | .standInLoadDone core => [core]
  | .standIn core => [core]
  | .pluckCmd => []
  | .pluckInEdge _ => []
  | .pluckLatch => []
  | .snapshotCopyDone _ => []
  | .snapRelease _ => []
  | .monClear => []
  | .coreCntClear => []
  | .satClear => []
  | .fabricCntClear => []
  | .deepCntClear => []
  | .adaptCntClear => []
  | .laneCntClear => []
  | .trgCntClear => []
  | .hostCntClear => []
  | .pwrCntClear => []
  | .fwImgData _ => []
  | .girderPortLock _ => []
  | .girderPortLossOfLock _ => []
  | .referenceReturn _ => []
  | .pcieLinkUp _ _ => []
  | .evtModExpiry _ => []
  | .hubFirmwareRestartDone => []

end Sys2Proof
end

