-- ==== Sys2Proof/Safety.lean ====
section
/-! DEFINITION. What counts as a safe run: no step stops with a fault or a refusal, and the HBM keeps its canonical form. And the words
the statements are written in: a command that completes, and what it leaves unchanged. -/

namespace Sys2Proof.Machine

/-- The invariant of the HBM's table: addresses strictly rising, and no entry equal to what an unlisted address reads as where that is
known (R194, R198). -/
abbrev State.Inv (s : State) : Prop := s.hbm.wf = true

/-- Every command that waits is well formed. -/
def State.queueOk (s : State) : Bool := s.pending.all Instr.wf

/-- An outcome that goes on. -/
def goesOn (o : Host.Outcome State Fault Refusal) : Bool :=
  match o with
  | .next _ => true
  | .fault _ => false
  | .refused _ => false

/-- `n` steps from a state all answer a next state. -/
def safeFor : Nat → State → Bool
  | 0, _ => true
  | n + 1, s =>
    match step s with
    | .next t => safeFor n t
    | .fault _ => false
    | .refused _ => false

/-- No step of a run from a state stops. -/
def State.safe (s : State) : Prop := ∀ n, safeFor n s = true

/-! ### What a command leaves unchanged -/

/-- The pieces of the state, one for each of its fields. -/
inductive Piece where
  | queue | clock | boot | lic | dict | host | act | fabric | ingest | decisions | pins | lanes | capt | masks | deep | groups
  | hbm | audit | tape | girder | bases | power | faults | draws
  deriving DecidableEq, Repr

/-- A piece is the same in two states. -/
def Piece.same (s t : State) : Piece → Prop
  | .queue => t.pending = s.pending
  | .clock => t.clock = s.clock
  | .boot => t.boot = s.boot
  | .lic => t.lic = s.lic
  | .dict => t.dict = s.dict
  | .host => t.host = s.host
  | .act => t.act = s.act
  | .fabric => t.fabric = s.fabric
  | .ingest => t.ingest = s.ingest
  | .decisions => t.decisions = s.decisions
  | .pins => t.pins = s.pins
  | .lanes => t.lanes = s.lanes
  | .capt => t.capt = s.capt
  | .masks => t.masks = s.masks
  | .deep => t.deep = s.deep
  | .groups => t.groups = s.groups
  | .hbm => t.hbm = s.hbm
  | .audit => t.audit = s.audit
  | .tape => t.tape = s.tape
  | .girder => t.girder = s.girder
  | .bases => t.bases = s.bases
  | .power => t.power = s.power
  | .faults => t.faults = s.faults
  | .draws => t.freeCtr = s.freeCtr

/-- From `s` to `t` every piece but those listed is unchanged. Where `hbm` is not listed, every byte of HBM reads as before. -/
def keeps (l : List Piece) (s t : State) : Prop := ∀ p, p ∉ l → p.same s t

/-- Every cell of the dictionary but those of the keys listed is unchanged, and so are the values and transactions that are
pending, the requests that wait and the response given. -/
def keepsCells (l : List Nat) (s t : State) : Prop :=
  (∀ k d, k ∉ l → SMap.get d t.dict.cells k = SMap.get d s.dict.cells k) ∧
  t.dict = { s.dict with cells := t.dict.cells }

/-- Every cell of the dictionary but those of the entries listed, in all their units, is unchanged, and so is what else it holds. -/
def keepsEntries (l : List Entry) (s t : State) : Prop :=
  (∀ k d, (∀ e ∈ l, ¬(e.key 0 ≤ k ∧ k < e.key 0 + 65536)) → SMap.get d t.dict.cells k = SMap.get d s.dict.cells k) ∧
  t.dict = { s.dict with cells := t.dict.cells }

/-- Every core but one is unchanged, and so is all of the fabric outside the cores. -/
def keepsCores (p : Nat) (s t : State) : Prop :=
  (∀ q, q ≠ p → t.core q = s.core q) ∧ t.fabric = { s.fabric with cores := t.fabric.cores }

/-- What a read of a register or word issued `m` fabric cycles from now sees (R73, R77, R83). -/
def Core.oprIn (c : Core) (m r : Nat) : Opr := c.oprOld.seeIn (r % 32) m (c.opr' r)
def Core.accIn (c : Core) (m r : Nat) : AccReg := c.accOld.seeIn (r % 16) m (c.acc' r)
def Core.mgIn (c : Core) (m r : Nat) : Mg := c.mgOld.seeIn (r % 4) m (c.mg' r)
def Core.actIn (c : Core) (m a : Nat) : Opr := c.actOld.seeIn a m (c.act' a)

/-- No write of register `k` is on its way that lands later than `n` cycles from now. -/
def Late.landsBy {α : Type} (l : Late α) (k n : Nat) : Prop := ∀ e ∈ l, e.1 = k → e.2.1 ≤ n

/-- From core `c` to `c'` one operand register, accumulator, merge register or activation word takes a value that a read sees from
`n` cycles from now on; until then a read sees what it would have seen, and a read of any other sees what it would have seen. -/
def Core.oprTakes (c c' : Core) (r n : Nat) (x : Opr) : Prop :=
  ∀ m q, c'.oprIn m q = if q % 32 = r % 32 ∧ n ≤ m then x else c.oprIn m q
def Core.accTakes (c c' : Core) (r n : Nat) (x : AccReg) : Prop :=
  ∀ m q, c'.accIn m q = if q % 16 = r % 16 ∧ n ≤ m then x else c.accIn m q
def Core.mgTakes (c c' : Core) (r n : Nat) (x : Mg) : Prop :=
  ∀ m q, c'.mgIn m q = if q % 4 = r % 4 ∧ n ≤ m then x else c.mgIn m q
def Core.actTakes (c c' : Core) (a n : Nat) (x : Opr) : Prop :=
  ∀ m b, c'.actIn m b = if b = a ∧ n ≤ m then x else c.actIn m b

/-- A core as it stands when what it has counted is reported and its records have left, with the tokens `out` on their way. -/
def Core.settled (c : Core) (out : List (Nat × Bool × Tok)) : Core := { c with out := out, recs := [], rep := {} }

/-- Of the cores only one may have changed; of the rest of the fabric, the queues of its router's local port, and the records that
leave the fabric. -/
def onlyCore (p : Nat) (s t : State) : Prop :=
  (∀ q, q ≠ p → t.core q = s.core q) ∧
  (∀ k, k / 2 ≠ s.routerOf p * 5 + 4 → SMap.get [] t.fabric.routerQ k = SMap.get [] s.fabric.routerQ k) ∧
  t.fabric = { s.fabric with cores := t.fabric.cores, routerQ := t.fabric.routerQ, recordsOut := t.fabric.recordsOut }

/-- Every cluster but one is unchanged, and so is all of the fabric outside the clusters. -/
def keepsClusters (c : Nat) (s t : State) : Prop :=
  (∀ n, n ≠ c → t.cluster n = s.cluster n) ∧ t.fabric = { s.fabric with clusters := t.fabric.clusters }

/-- Every unit of a table but one is unchanged. -/
def keepsUnits {α : Type} (d : α) (n : Nat) (m m' : SMap α) : Prop := ∀ k, k ≠ n → SMap.get d m' k = SMap.get d m k

/-- A command completes: it answers a next state, of which `P` holds. -/
def completes (c : Instr) (s : State) (P : State → Prop) : Prop := ∃ t, exec c s = .next t ∧ P t

end Sys2Proof.Machine
end

