-- ==== Sys2Proof/Certificates/Slice0/Obligations.lean ====
section
/-! DEFINITION. The statements for the provers, each named for what it says. -/

open Sys2Proof Sys2Proof.Machine

/-- The block convention: a step with a command at the front of the queue is that command's effect on the state with the queue's rest; with
none waiting one reference cycle passes, once the clocks run (the model's choice, log entry 1). -/
def Obligations.StepRunsFrontCommand : Prop :=
  (∀ (s : State) (c : Instr) (rest : List Instr), step { s with pending := c :: rest } = exec c { s with pending := rest }) ∧
  (∀ s : State, s.pending = [] → s.clock.running = false → step s = .next s) ∧
  (∀ s : State, s.pending = [] → s.clock.running = true →
    ∃ t, step s = .next t ∧ t.clock.cycle = s.clock.cycle + 1 ∧ t.clock.drone = s.clock.drone ∧
      (∀ p : Nat, (s.core p).running = false → (t.core p).ftab = (s.core p).ftab ∧ (t.core p).fifoD = (s.core p).fifoD ∧
        (t.core p).fifoC = (s.core p).fifoC) ∧
      keeps [.clock, .fabric, .dict, .host, .faults] s t)

/-- R194, R197, R198: every step keeps the canonical form of the HBM: addresses strictly rising, and no byte listed that an unlisted address
reads as. -/
def Obligations.EveryStepKeepsHbmCanonical : Prop :=
  ∀ s t : State, s.Inv → step s = .next t → t.Inv

/-- R5, R173, R251, R377, R402, R418, R422, R429, R430, R434, R463, R474: what reset leaves, of the values the manual gives: the clocks
stopped at boot stage 0, the base envelope and no licence, no slot loaded, no configuration, SAFE left, the debug port locked, no seal
break latched, nothing waiting, and the HBM in canonical form. -/
def Obligations.ResetState : Prop :=
  let s := State.reset
  s.Inv ∧ s.pending = [] ∧ s.boot.stage = 0 ∧ s.clock.running = false ∧ s.host.ready = false ∧ s.boot.unlocked = false ∧
  s.lic.installed = false ∧ s.rd OD.LIC_FEATURES = 0 ∧ s.rd OD.LIC_ENVELOPE = 400 + 90 * 2 ^ 16 + 32 * 2 ^ 32 ∧ s.rd OD.LIC_STATE = 0 ∧
  s.rd OD.CORE_MHZ = 400 ∧ s.rd OD.PCAP = 90 ∧ s.rd OD.THERM_THR = 105 ∧ s.rd OD.TICKDIV = 60 ∧ s.rd OD.THROTTLE_LVL = 0 ∧
  s.rd OD.A_STATE = 0 ∧ s.rd OD.B_STATE = 0 ∧ s.rd OD.ACTIVE_SLOT = 255 ∧ s.rd OD.DAMP_STATE = 0 ∧ s.rd OD.ACT_STATUS = 0 ∧
  s.rd OD.NODE_ADDR = 0xFFFE ∧ s.rd OD.SEAL_EN = 1 ∧ s.rd OD.EXPERT_EN = 0 ∧ s.rd OD.SAFE_STATE = 0 ∧ s.faults.safe = false ∧
  s.lic.sealLatched = false ∧ s.rd OD.SEAL_BREAKS = 0 ∧ s.act.running = false ∧ s.act.pending = none ∧ s.act.admitOn = false ∧
  (∀ l : Nat, s.rd OD.LANE_EN l = 0 ∧ s.rd OD.RX_STATE l = 0 ∧ s.rd OD.TX_STATE l = 0)

/-- Every command of the table but one answers a next state in every state: nothing a host, a sender or the block itself does ends a run.
The reading of the fuses alone may stop, on a reserved code (its own statement says where). -/
def Obligations.EveryCommandGoesOn : Prop :=
  ∀ (s : State) (c : Instr), (∀ array, c ≠ .fuseReadComplete array) → ∃ t, exec c s = .next t

/-- R507: of two 32-bit numbers a is greater than b, and b precedes a, when (a − b) mod 2^32 lies from 1 to 2^31 − 1; at exactly 2^31
neither is greater, so that a comparison that requires it fails. -/
def Obligations.SerialOrderOfSequenceNumbers : Prop :=
  ∀ a b : Nat,
    (serialGreater a b = true ↔ 1 ≤ ((a : Int) - b) % 2 ^ 32 ∧ ((a : Int) - b) % 2 ^ 32 ≤ 2 ^ 31 - 1) ∧
    (((a : Int) - b) % 2 ^ 32 = 2 ^ 31 → serialGreater a b = false ∧ serialGreater b a = false)

/-- R402 to R404, R354: straps, the REFDLY wait and PLL lock. A standalone device or a manager counts REFCLK (REF_SRC 1);
ROLE 3 is reserved and acts as 0 (R339). -/
def Obligations.StrapsReferenceAndPllLock : Prop :=
  ∀ s : State,
    (∀ (role : Fin 4) (refdly : Fin 8), s.boot.inReset = true → completes (.perstNRelease role refdly) s fun t =>
      t.boot = { s.boot with inReset := false, stage := 1, strapRole := role, refdly := refdly } ∧
      t.rd OD.ROLE = (if role.val = 3 then 0 else role.val) ∧ keeps [.boot, .dict, .girder] s t) ∧
    (s.boot.stage = 1 → s.boot.inReset = false →
      exec .refdlyWaitEnd s = .next ({ s with boot.stage := 2 }.wr OD.REF_SRC 0 s.firstReference) ∧
      (s.isWorker = false → s.firstReference = 1)) ∧
    (s.boot.stage = 2 → s.boot.halted = false → completes .pllLockComplete s fun t =>
      t.boot = { s.boot with stage := 3 } ∧ t.clock = { running := true, cycle := 0, fine := 0, drone := 0, bnd := 0 } ∧
      t.rd OD.PLL_LOCK = s.pllsLocked ∧ keepsCells [OD.PLL_LOCK.key 0] s t ∧ keeps [.boot, .clock, .dict, .power] s t) ∧
    (s.boot.stage = 2 → exec .pllLockTimeout s = .next { s with boot.err := 0x21, boot.halted := true })

/-- R405, R403, R377: the fuse array is sensed; with a good CRC the device awaits firmware, with a bad one it halts with 0x31.
A grade or BAD_CORE field that holds a reserved code is the model's one stop. Chunks of an image are copied from the staging
window, and FW_CMD starts the check or discards the image. -/
def Obligations.FusesAndFirmwareImage : Prop :=
  ∀ s : State,
    (∀ a : BitVec 8192, s.boot.stage = 3 → s.boot.halted = false →
      (bits a.toNat 8160 32 ≠ crc32 (leBytes 608 (bits a.toNat 0 4864)) →
        exec (.fuseReadComplete a) s = .next { s with boot.err := 0x31, boot.halted := true }) ∧
      (bits a.toNat 8160 32 = crc32 (leBytes 608 (bits a.toNat 0 4864)) →
        { s with boot.fuses := a }.fusesLegal = false → exec (.fuseReadComplete a) s = .fault .reservedFuse) ∧
      (bits a.toNat 8160 32 = crc32 (leBytes 608 (bits a.toNat 0 4864)) →
        { s with boot.fuses := a }.fusesLegal = true → completes (.fuseReadComplete a) s fun t =>
          t.boot = { s.boot with fuses := a, stage := 4, copied := true } ∧
          t.rd OD.SERIAL = bits (a.toNat ||| s.boot.otp.toNat) 32 64 ∧ t.rd OD.GRADE = bits (a.toNat ||| s.boot.otp.toNat) 104 2 ∧
          keeps [.boot, .dict] s t)) ∧
    (∀ (ofs : Fin 16777216) (len : Fin 65536), s.boot.stage = 4 → s.boot.copied = true → s.boot.source ≠ some true → 1 ≤ len.val →
      len.val ≤ 16384 → ofs.val + len.val ≤ 2 ^ 22 →
      exec (.fwChunk ofs len) s = .next { s with
        boot.source := some false, boot.received := max s.boot.received (ofs.val + len.val),
        boot.image := SMap.putRange 0 s.boot.image ofs.val (SMap.range 0 s.boot.staging 0 len.val) }) ∧
    (s.boot.stage = 4 → exec .fwCmdVerify s = .next { s with boot.stage := 5, boot.presence := s.presenceHolds }) ∧
    (s.boot.stage = 4 ∨ s.boot.stage = 14 → exec .fwCmdDiscard s = .next { s with
      boot.stage := 4, boot.refused := false, boot.image := [], boot.received := 0, boot.source := none, boot.girderDone := false })

/-- R402, R409, R410, R412, R415: a verified image starts the self-test and its key slot and SVN are reported; a refused one is
dropped with its BOOT_ERR code. Self-test, training and the merge end in stage 9 with the dictionary served; a pseudo-channel
that fails training puts HBM out of service. -/
def Obligations.VerifyTestTrainMerge : Prop :=
  ∀ s : State,
    (s.boot.stage = 5 → s.fwCode = 0 → completes .fwVerifyDone s fun t =>
      t.boot.stage = 6 ∧ t.boot.verified = true ∧ t.rd OD.BRINGUP = 1 ∧ t.rd OD.FW_KEY_SLOT = s.fwField 13 1 ∧
      t.rd OD.FW_SVN_RUN = s.fwField 12 1 ∧ keeps [.boot, .dict, .girder] s t) ∧
    (s.boot.stage = 5 → s.fwCode ≠ 0 → completes .fwVerifyDone s fun t =>
      t.boot.stage = 14 ∧ t.boot.err = s.fwCode ∧ t.boot.image = [] ∧ keeps [.boot, .dict, .girder] s t) ∧
    (∀ r : SelfTest, s.boot.stage = 6 →
      exec (.selfTestDone r) s = .next ({ s with boot.stage := 7, boot.test := r }.wr OD.BRINGUP 0 3)) ∧
    (s.boot.stage = 7 → exec (.trainingDone []) s = .next ({ s with boot.stage := 8 }.wr OD.BRINGUP 0 0xF)) ∧
    (∀ (x : Fin 128) (xs : List (Fin 128)), s.boot.stage = 7 → exec (.trainingDone (x :: xs)) s =
      .next (({ s with boot.stage := 8, boot.err := 0x71, boot.hbmFailed := true }.wr OD.BRINGUP 0 0xB).raisePkg 0x0405)) ∧
    (∀ ms : Word32, s.boot.stage = 8 → completes (.defectMergeDone ms) s fun t =>
      t.boot.stage = 9 ∧ t.host.ready = true ∧ t.rd OD.BOOT_MS = ms.toNat)

/-- R496, R497, R368: a reset leaves what power-up gives, but for the commands that wait, the fuses programmed since, the pins'
levels and the draws; the supply monitors act as PERST_N. When a reference returns to PLLs that have stopped they lock again, with
time from zero; a device left with no reference at all restarts at the REFDLY wait. -/
def Obligations.ResetAndReferenceReturn : Prop :=
  ∀ s : State,
    (∀ c, c = .conventionalReset ∨ c = .supplyMonitorReset → completes c s fun t =>
      keeps [.queue, .boot, .lic, .hbm, .draws] State.reset t ∧ t.pending = s.pending ∧ t.boot = { otp := t.boot.otp } ∧
      (s.boot.fuseBusy = none → t.boot.otp = s.boot.otp) ∧
      t.lic = { presentN := s.lic.presentN, sealIntact := s.lic.sealIntact } ∧ t.hbm.cells = []) ∧
    (∀ src : Fin 6, s.girder.refStopped = true → s.girder.refDead = false → 1 ≤ src.val → (s.isWorker = true → src.val ≠ 1) →
      completes (.referenceReturn src) s fun t =>
        t.girder = { s.girder with refStopped := false, refDead := false } ∧ t.bases = [] ∧ t.clock = { running := true } ∧
        t.rd OD.REF_SRC = src.val ∧ keeps [.girder, .bases, .clock, .dict, .power] s t) ∧
    (∀ src : Fin 6, s.girder.refStopped = true → s.girder.refDead = true → 1 ≤ src.val →
      completes (.referenceReturn src) s fun t =>
        t.boot = { otp := t.boot.otp, inReset := false, stage := 1, strapRole := s.boot.strapRole, refdly := s.boot.refdly } ∧
        t.act = {} ∧ t.fabric = {} ∧ t.lanes = [])

/-- R60, R69, R70, R91: a flit or control token of the current epoch that finds room, and in the case of data no EOF of its frame, leaves
the flight list of the local port and joins its queue of the core's input FIFO, behind what waits; at the head the steering unit takes an
EOF of the running frame and discards data of an earlier frame, counted once per frame. A token of another epoch is counted as stale and
one of the wrong form as malformed, and the frame it names is void; a token that finds no room stays where it is. A control row's token
has the payload of R60. -/
def Obligations.TokensReachTheInputFifo : Prop :=
  ∀ (s : State) (p : Nat) (label : Fin 16), s.alive p = true → (s.core p).rep = {} →
    let c := s.core p
    let joined (ctrl : Bool) (k : Tok) (c' : Core) (t : State) : Prop :=
      t.core p = c'.settled (t.core p).out ∧ onlyCore p (s.landed p ctrl k) t ∧ keeps [.fabric] s t
    let counted (es : List (Entry × Nat)) (ctrl : Bool) (k : Tok) (t : State) : Prop :=
      (∀ e ∈ es, t.rd e.1 e.2 = (s.inc e.1 e.2).rd e.1 e.2) ∧
      t.fabric.localQ = (s.landed p ctrl k).fabric.localQ ∧ keeps [.fabric, .dict, .host, .faults] s t
    let stays (d : Tok) : Prop := c.distIn c.running d.flit.stag < 128 ∧
      (c.distIn c.running d.flit.stag = 0 → ∀ l, c.wantedSource c.running = some l → l = d.label)
    (∀ f : Flit, let k : Tok := { flit := f, label := label.val }
      f.epoch = s.epoch → c.ended f.stag label.val = false → c.fifoD.length < 6 → c.fifoD.length + c.fifoC.length < 8 →
      (∀ x, c.fifoC.head? = some x → c.headStep c.running x = none) →
      ((∀ x, (c.fifoD ++ [k]).head? = some x → stays x) → completes (.inputFifoArrival p false label f) s
        (joined false k { c with fifoD := c.fifoD ++ [k] })) ∧
      (c.fifoD = [] → 128 ≤ c.distIn c.running f.stag → f.stag ∉ c.mmTags → completes (.inputFifoArrival p false label f) s fun t =>
        t.core p = ({ c with mmTags := f.stag :: c.mmTags } : Core).settled (t.core p).out ∧
        counted [(OD.CORE_STEER_MM, p), (OD.STEER_MISMATCH_TOTAL, 0)] false k t)) ∧
    (∀ f : Flit, let k : Tok := { flit := f, label := label.val }
      (f.epoch ≠ s.epoch → ∀ ctrl, completes (.inputFifoArrival p ctrl label f) s fun t =>
        t.core p = c.hurtBy f.stag true ∧ counted [(OD.CORE_STALE, p), (OD.STALE_TOKEN_TOTAL, 0)] ctrl k t) ∧
      (f.epoch = s.epoch → f.wellFormed = false → completes (.inputFifoArrival p true label f) s fun t =>
        t.core p = c.hurtBy f.stag false ∧ counted [(OD.TOKEN_FORMAT_TOTAL, 0)] true k t) ∧
      (f.epoch = s.epoch → c.fifoD.length + c.fifoC.length < 8 → c.fifoD.length < 6 → c.ended f.stag label.val = true →
        completes (.inputFifoArrival p false label f) s fun t =>
          t.core p = c ∧ counted [(OD.CORE_STEER_MM, p), (OD.STEER_MISMATCH_TOTAL, 0)] false k t) ∧
      (f.epoch = s.epoch → 8 ≤ c.fifoD.length + c.fifoC.length ∨ 6 ≤ c.fifoD.length →
        exec (.inputFifoArrival p false label f) s = .next s)) ∧
    (∀ (i : Instr) (tag ftag : Word16) (k x : Nat) (st : Fin 64) (sel : Fin 16) (cause : Byte),
      (i = .bof p label tag ftag st ∧ k = 1 ∧ x = st.val) ∨ (i = .eof p label tag ftag ∧ k = 2 ∧ x = 0) ∨
        (i = .select p label tag ftag sel ∧ k = 3 ∧ x = sel.val) ∨ (i = .skip p label tag ftag ∧ k = 4 ∧ x = 0) ∨
        (i = .void p label tag ftag cause ∧ k = 5 ∧ x = cause.toNat) →
      bits tag.toNat 13 3 = s.rd OD.EPOCH → bits tag.toNat 1 8 = bits ftag.toNat 0 8 →
      c.fifoD.length + c.fifoC.length < 8 → (∀ d, c.fifoD.head? = some d → stays d) →
      let tok : Tok := { flit := { payload := BitVec.ofNat 64 (k * 2 ^ 61 + x * 2 ^ 16 + ftag.toNat), tag := tag }, label := label.val }
      ((∀ y, (c.fifoC ++ [tok]).head? = some y → c.headStep c.running y = none) →
        completes i s (joined true tok { c with fifoC := c.fifoC ++ [tok] })) ∧
      (c.fifoC = [] → k = 2 → c.running = true → (c.frameAt 0).ftag = ftag → c.ctrl.mode ≠ .merge →
        completes i s (joined true tok { c with eofSeen := true })))

/-- R62, R78 to R81, R84, R89, R90, R92: within the STEER_WINDOW cycles of a core's window its expected frame is accepted when its tokens
are at the heads: in PASS mode a data flit, in SELECT mode a SELECT token naming a body, which is used up, and a data flit, in MERGE mode
a data flit from the source that SELECT has named; SKIP and VOID tokens enter it skipped or void, and a stale or malformed token of it
void. A frame enters the frame table, its body starts at its entry, and the expectation moves on. After the window a timeout enters it
void with CAUSE 0x02, counted; the frame is not accepted then. An uncorrectable microcode word fences the core. -/
def Obligations.FramesAreAcceptedAndBodiesStart : Prop :=
  ∀ (s : State) (p n : Nat), s.windowAge p = some n → (s.core p).rep = {} →
    let c := s.core p
    let tag := c.expect.toNat % 256
    let body (c : Core) (f : FrameEnt) : Core :=
      { c with ftab := { f with ftag := c.expect, newBank := c.newBankFor c.expect } :: c.ftab.take 7, running := true, pc := f.entry,
               lc0 := 0, lc1 := 0, lc2 := 0, age := 0, rest := 0, expect := c.expect + 1, expectSet := true, eofSeen := false,
               mergeSel := none, taken := [], mmTags := c.mmTags.filter fun x => decide (x ≠ tag),
               hurt := c.hurt.filter fun x => decide (x.1 ≠ tag) }
    let mine (t : Tok) : Prop := t.flit.stag = tag
    let first := c.ctrl.entries.getD (c.expect.toNat % max 1 c.ctrl.phaseN) 0
    let taken (c' : Core) (t : State) : Prop := t.core p = c'.settled (t.core p).out ∧ onlyCore p s t ∧ keeps [.fabric] s t
    let usual := if c.ctrl.mode = .pass then first else c.ctrl.entries.getD 0 0
    let sound : Prop := ∀ x ∈ c.hurt, x.1 ≠ tag
    (c.taken = [] → n < c.ctrl.steerWindow →
      (∀ (d : Tok) (ds : List Tok), c.fifoC = [] → c.fifoD = d :: ds → mine d →
        (c.ctrl.mode = .pass → sound → completes (.frameAccept p .ok) s (taken (body c { entry := first }))) ∧
        (c.ctrl.mode = .pass → ∀ stale, (tag, stale) ∈ c.hurt → (∀ x ∈ c.hurt, x.1 = tag → x.2 = stale) →
          completes (.frameAccept p .ok) s (taken (body c
            { void := true, dead := true, stale := stale, cause := if stale then 4 else 8, entry := first }))) ∧
        (c.ctrl.mode = .merge → sound → c.mergeSel = some d.label → d.label < 15 →
          completes (.frameAccept p .ok) s (taken (body c { entry := c.ctrl.entries.getD 0 0, src := d.label })))) ∧
      (∀ (k d : Tok) (ds : List Tok), c.ctrl.mode = .select → sound → c.fifoC = [k] → mine k → k.flit.kind = 3 → k.flit.sel ≤ 3 →
        c.fifoD = d :: ds → mine d →
        completes (.frameAccept p .ok) s (taken (body { c with fifoC := [] } { entry := c.ctrl.entries.getD k.flit.sel 0 }))) ∧
      (∀ k : Tok, c.ctrl.mode = .pass → sound → c.fifoC = [k] → mine k → c.fifoD = [] →
        (k.flit.kind = 4 → completes (.frameAccept p .ok) s
          (taken (body { c with fifoC := [] } { skip := true, entry := c.ctrl.skipEntry.getD first }))) ∧
        (k.flit.kind = 5 → completes (.frameAccept p .ok) s
          (taken (body { c with fifoC := [] } { void := true, dead := true, cause := k.flit.cause, entry := first }))))) ∧
    (c.ctrl.steerWindow ≤ n → ∀ ecc, exec (.frameAccept p ecc) s = .next s) ∧
    (n < c.ctrl.steerWindow → exec (.frameAccept p .uncorrected) s = .next ((s.coreUe p).fence p)) ∧
    (c.ctrl.steerWindow ≤ n → c.ftab ≠ [] → sound → c.taken = [] → c.fifoC = [] → c.fifoD = [] → completes (.steerTimeout p) s fun t =>
      t.core p = (body c { void := true, dead := true, cause := 2, entry := usual }).settled (t.core p).out ∧
      t.rd OD.CORE_STEER_MM p = (s.inc OD.CORE_STEER_MM p).rd OD.CORE_STEER_MM p ∧
      (∀ q, q ≠ p → t.core q = s.core q) ∧ keeps [.fabric, .dict, .host, .faults] s t)

/-- R71 to R74, R78, R109, R115: an integer step adds its eight sums of products to the accumulator, or replaces it in the first pass of a
clearing step, each lane saturated at 32 bits, and lanes under a void mark are zero; marks of operand and accumulator join, S where a
lane clamped, V where a weight word did not correct. A read sees the result ten cycles after the issue, a later step adds to it at once.
The operand is what a read sees, or the flit that the same word loads into it. Corrected and uncorrected words are counted. -/
def Obligations.IntegerStepsAccumulate : Prop :=
  ∀ (s : State) (p : Nat) (w : Word64) (e : Ecc), s.alive p = true → (s.core p).rep = {} →
    let c := s.core p
    let o := if uLds w = 1 ∧ uLdr w = c.stepOpr w then c.opr' (c.stepOpr w) else c.oprIn 0 (c.stepOpr w)
    let ue : Bool := decide (e = .uncorrected)
    let tile := c.tile (c.tileAt w)
    let r := c.stepAcc w
    let old : AccReg := if uClr w = true ∧ c.lc0 = 0 then {} else c.acc' r
    let sum (k : Instr) (i : Nat) : Int := if k = .mac8 p w e then sumTo 8 (fun j => tile8 tile i j * elem8 o.val j)
      else sumTo 16 (fun j => tile4 tile i j * elem4 o.val j)
    ∀ k, k = .mac8 p w e ∨ k = .mac4 p w e → c.accOld.landsBy r 10 → completes k s fun t =>
      ∃ a : AccReg, c.accTakes (t.core p) r 10 a ∧ (t.core p).acc' r = a ∧
        t.core p = ({ c with acc := (t.core p).acc, accOld := (t.core p).accOld } : Core).settled (t.core p).out ∧ a.grp = old.grp ∧
        (∀ i, i < 8 → laneOf a.lanes i = if a.marks.v = true then 0 else satTo 32 (laneOf old.lanes i + sum k i)) ∧
        a.marks.v = (old.marks.v || o.marks.v || ue) ∧ a.marks.k = (old.marks.k || o.marks.k) ∧
        (a.marks.s = true ↔ old.marks.s = true ∨ o.marks.s = true ∨
          ∃ i, i < 8 ∧ satTo 32 (laneOf old.lanes i + sum k i) ≠ laneOf old.lanes i + sum k i) ∧
        onlyCore p s t ∧
        (e = .ok → keeps [.fabric, .dict] s t ∧ keepsCells [OD.CORE_ACC_SAT.key p, OD.ACC_SAT_TOTAL.key 0] s t) ∧
        (e = .corrected → t.rd OD.CORE_CE p = (s.inc OD.CORE_CE p).rd OD.CORE_CE p ∧ keeps [.fabric, .dict] s t) ∧
        keeps [.fabric, .dict, .host, .faults, .groups] s t

/-- R73, R118, R120, R121, R126, R127: a scale step opens a group on an emptied accumulator, with each lane's largest sum of scale bytes
as its exponent; where its block tag is neither 0 nor 8 it voids the accumulator with CAUSE 0x05 and is counted. A data step sums products
over its block and, with the block's last, adds the sum aligned to the group's exponent, saturated at 32 bits; where the block tag is not
the group's plus the block number, or the block's scales hold 0xFF, the accumulator is void and that block adds nothing. -/
def Obligations.BlockStepsAccumulateGroups : Prop :=
  ∀ (s : State) (p : Nat) (w : Word64), s.alive p = true → (s.core p).rep = {} →
    let c := s.core p
    let o := if uLds w = 1 ∧ uLdr w = c.stepOpr w then c.opr' (c.stepOpr w) else c.oprIn 0 (c.stepOpr w)
    let tile := c.tile (c.tileAt w)
    let r := c.stepAcc w
    let gets (a : AccReg) (t : State) : Prop := c.accTakes (t.core p) r 10 a ∧ (t.core p).acc' r = a ∧
      t.core p = ({ c with acc := (t.core p).acc, accOld := (t.core p).accOld } : Core).settled (t.core p).out ∧ onlyCore p s t
    c.accOld.landsBy r 10 →
    (completes (.scaleStep p w .ok) s fun t =>
      ∃ a g, gets a t ∧ a.grp = some g ∧ g.g = o.bt ∧ g.step = 0 ∧ g.ea = o.val ∧ g.tile = c.tileAt w ∧ (∀ i, laneOf a.lanes i = 0) ∧
        (∀ i, i < 8 → laneOf g.xe i = (List.range 8).foldl (fun m b => max m ((scaleByte o.val b + scaleTile tile i b : Nat) : Int)) 0) ∧
        (o.bt = 0 ∨ o.bt = 8 → a.marks = { v := o.marks.v } ∧ keeps [.fabric] s t) ∧
        (o.bt ≠ 0 → o.bt ≠ 8 → a.marks = { v := true } ∧ (o.marks.v = false → a.cause = 5) ∧
          t.rd OD.SCALE_SKEW_TOTAL = (s.inc OD.SCALE_SKEW_TOTAL 0).rd OD.SCALE_SKEW_TOTAL ∧
          keeps [.fabric, .dict, .host, .faults] s t)) ∧
    (∀ g : Group, (c.acc' r).grp = some g →
      let n := if c.ctrl.xmode1 = true then 1 else 4
      let b := g.step / n
      let first : Prop := g.step % n = 0
      let illegal : Prop := scaleByte g.ea b = 0xFF ∨ ∃ i, i < 8 ∧ scaleTile (c.tile g.tile) i b = 0xFF
      let sum (i : Nat) : Int := (if g.step % n = 0 then 0 else laneOf g.sum i) +
        (if c.ctrl.xmode1 = true then mac4Sum tile o.val i else mac8Sum tile o.val i)
      completes (.dataStep p w .ok) s fun t =>
        ∃ a h, gets a t ∧ a.grp = some h ∧ h.step = g.step + 1 ∧ h.xe = g.xe ∧ h.g = g.g ∧ h.ea = g.ea ∧ h.tile = g.tile ∧
          (∀ i, i < 8 → laneOf h.sum i = sum i) ∧
          (o.bt = g.g + BitVec.ofNat 4 b → (first → ¬illegal) → (¬first → g.bad = false) →
            a.marks.v = ((c.acc' r).marks.v || o.marks.v) ∧ h.bad = false ∧
            (∀ i, i < 8 → laneOf a.lanes i = if a.marks.v = true then 0 else
              satTo 32 (laneOf (c.acc' r).lanes i + if g.step % n = n - 1
                then rnd (sum i) (laneOf g.xe i - scaleByte g.ea b - scaleTile (c.tile g.tile) i b) false else 0)) ∧
            keeps [.fabric, .dict] s t) ∧
          (o.bt ≠ g.g + BitVec.ofNat 4 b ∨ first ∧ illegal → a.marks.v = true ∧ h.bad = true ∧
            t.rd OD.SCALE_SKEW_TOTAL = (s.inc OD.SCALE_SKEW_TOTAL 0).rd OD.SCALE_SKEW_TOTAL) ∧
          keeps [.fabric, .dict, .host, .faults] s t)

/-- R74, R77, R78, R83, R88, R93: loads and stores of a core. An input load takes the current frame's next data flit, with its M mark as
S, or gives zero with V or K where the frame was accepted void or skipped; where the flit is missing the frame is void with CAUSE 0x02
and the mismatch counted. It is read from the next cycle on, an activation word two cycles later: with its marks, or void with CAUSE
0x03 where it does not correct. A partial-sum flit fills two lanes, the first of four replacing what was there; a store keeps the marks
and is read from the next cycle on. -/
def Obligations.LoadsAndStoresOfACore : Prop :=
  ∀ (s : State) (p : Nat) (w : Word64), s.alive p = true → (s.core p).rep = {} →
    let c := s.core p
    let f := c.frameAt 0
    let only (t : State) : Prop := onlyCore p s t ∧ keeps [.fabric] s t
    let loaded (c' : Core) (n : Nat) (x : Opr) (t : State) : Prop := c'.oprTakes (t.core p) (uLdr w) n x ∧
      t.core p = ({ c' with opr := (t.core p).opr, oprOld := (t.core p).oprOld } : Core).settled (t.core p).out
    (c.oprOld.landsBy (uLdr w) 1 →
      (f.dead = true → completes (.loadInputFlit p w) s fun t => loaded c 1 { marks := { v := true }, cause := f.cause } t ∧ only t) ∧
      (f.dead = false → f.skip = true → completes (.loadInputFlit p w) s fun t => loaded c 1 { marks := { k := true } } t ∧ only t) ∧
      (f.dead = false → f.skip = false → c.fifoC = [] → c.fifoD = [] → completes (.loadInputFlit p w) s fun t =>
        loaded (c.setFrame 0 { f with void := true, cause := firstCause f.void f.cause 2 }) 1 { marks := { v := true }, cause := 2 } t ∧
        t.rd OD.CORE_STEER_MM p = (s.inc OD.CORE_STEER_MM p).rd OD.CORE_STEER_MM p ∧ onlyCore p s t ∧
        keeps [.fabric, .dict, .host, .faults] s t)) ∧
    (∀ (d : Tok) (ds : List Tok), f.dead = false → f.skip = false → f.src = 16 → c.fifoC = [] → c.fifoD = d :: ds →
      d.flit.stag = f.ftag.toNat % 256 →
      let c' := (if d.flit.m = true then { c with fifoD := ds }.setFrame 0 { f with sat := true } else { c with fifoD := ds } : Core)
      (c.oprOld.landsBy (uLdr w) 1 → completes (.loadInputFlit p w) s fun t => loaded c' 1
        { val := d.flit.payload, bt := BitVec.ofNat 4 (bits d.flit.tag.toNat 9 4), marks := { s := d.flit.m } } t ∧ only t) ∧
      (∀ a : AccReg, a = c.acc' (uLdr w % 16) → a.filled < 4 → c.accOld.landsBy (uLdr w % 16) 1 →
        completes (.loadPartialSum p w) s fun t =>
          ∃ b : AccReg, c.accTakes (t.core p) (uLdr w) 1 b ∧
          t.core p = ({ c' with acc := (t.core p).acc, accOld := (t.core p).accOld } : Core).settled (t.core p).out ∧ only t ∧
          b.filled = (a.filled + 1) % 4 ∧ (b.marks.v = false → ∀ i, i < 8 → laneOf b.lanes i =
            if i / 2 = a.filled then toSigned 32 (bits d.flit.payload.toNat (32 * (i % 2)) 32)
            else if a.filled = 0 then 0 else laneOf a.lanes i) ∧
          b.marks = (if a.filled = 0 then { s := d.flit.m } else { a.marks with s := a.marks.s || d.flit.m }))) ∧
    (c.oprOld.landsBy (uLdr w) 2 →
      let old := c.actIn 0 (c.agAddr (uLda w) 1024)
      (completes (.loadActivationWord p w .ok) s fun t => loaded c 2 old t ∧ only t) ∧
      (completes (.loadActivationWord p w .corrected) s fun t => loaded c 2 old t ∧ onlyCore p s t ∧
        t.rd OD.CORE_CE p = (s.inc OD.CORE_CE p).rd OD.CORE_CE p ∧ keeps [.fabric, .dict] s t) ∧
      (completes (.loadActivationWord p w .uncorrected) s fun t => loaded c 2 { marks := { v := true }, cause := 3 } t ∧
        onlyCore p s t ∧ t.rd OD.CORE_UE_TOTAL = (s.inc OD.CORE_UE_TOTAL 0).rd OD.CORE_UE_TOTAL ∧
        keeps [.fabric, .dict, .host, .faults] s t)) ∧
    (c.actOld.landsBy (c.agAddr (uSag w) 1024) 1 → completes (.storeActivation p w) s fun t =>
      c.actTakes (t.core p) (c.agAddr (uSag w) 1024) 1 (c.oprIn 0 (uSreg w)) ∧
      t.core p = ({ c with act := (t.core p).act, actOld := (t.core p).actOld } : Core).settled (t.core p).out ∧ only t)

/-- R78, R94, R477: the word that failed is written again with its value in the active slot image, eight bytes, or with the baseline's in an
adaptable pair; a second failure within 2^30 cycles fences the core. A parity error fences it at once. -/
def Obligations.CoreMemoryErrors : Prop :=
  ∀ (s : State) (p : Nat), s.alive p = true →
    (∀ a : Fin 32768,
      let v := s.loadedWord p (a.val / 8)
      let c := { s.core p with weights := SMap.putRange 0 (s.core p).weights (a.val / 8 * 8) (leBytes 8 v.toNat),
                               weightFail := SMap.put (s.core p).weightFail (a.val / 8) s.clock.cycle }
      let seen := (s.core p).weightFail.find? fun x => decide (x.1 = a.val / 8)
      (∀ i, s.servedImage p = some i → ∀ k, k < 8 → (leBytes 8 v.toNat).getD k 0 = SMap.get 0 i.weights (a.val / 8 * 8 + k)) ∧
      ((∀ x, seen = some x → x.2 + 2 ^ 30 ≤ s.clock.cycle) → exec (.weightWordRewrite p a) s = .next (s.setCore p c)) ∧
      (∀ x, seen = some x → s.clock.cycle < x.2 + 2 ^ 30 → exec (.weightWordRewrite p a) s = .next ((s.setCore p c).fence p))) ∧
    (completes (.coreParity p) s fun t => t = (s.raise 0x0007 p p).fence p ∧ t.fenced p = true)

/-- R78, R83, R87, R88, R107, R109, R110: the requantising post ops put eight codes, computed lane by lane from what a read of an
accumulator or a merge register sees (zero lanes where that is void) and passed through the lookup unit where asked, into OPR[PDST] in
the packing of OFMT 0 to 3, with the source's marks, S where a lane clamped; a read sees them three cycles after the issue, five with a
lookup. A merge register read is cleared. Nothing else of the core changes but the saturation counts; an uncorrectable table word fences
the core instead. -/
def Obligations.RequantisingPostOps : Prop :=
  ∀ (s : State) (p : Nat) (w : Word64) (merge look : Bool) (ecc : Ecc), s.alive p = true →
    let k : Instr := if merge then (if look then .mergeOutLookup p w ecc else .mergeOut p w ecc)
      else if look then .requantiseLookup p w ecc else .requantise p w ecc
    let c := s.core p
    let a := c.accIn 0 (uPacc w)
    let m := c.mgIn 0 (uPacc w)
    let marks : Marks := if merge then m.marks else a.marks
    let cause : Byte := if merge then m.cause else a.cause
    let e (i : Nat) := c.rqEntry (uQsel w) i
    let lane (i : Nat) : Int := if marks.v = true then 0 else if merge then laneOf m.lanes i else laneOf a.lanes i
    let q (i : Nat) : Int × Bool :=
      requant (lane i) (rqMult (e i)) (effShift (e i) (if merge then none else a.grp) i) (rqZp (e i)) (rqLo (e i)) (rqHi (e i)) (rqMode (e i))
    let y (i : Nat) : Int × Bool :=
      if look then ((c.lookupLane (q i).1 (decide (rqFmt (e i) = 3))).1, (q i).2 || (c.lookupLane (q i).1 (decide (rqFmt (e i) = 3))).2)
      else q i
    let dst := uPdst w
    let n := if look then 5 else 3
    let new (v : Word64) : Opr := { val := v, marks := { marks with s := marks.s || (eight fun i => (y i).2).any id }, bt := 0, cause := cause }
    let codes := eight fun i => (y i).1
    let kept (t : State) : Prop :=
      t.core p = ({ c with opr := (t.core p).opr, oprOld := (t.core p).oprOld, mg := (t.core p).mg, mgOld := (t.core p).mgOld,
                           satPend := (t.core p).satPend } : Core).settled (t.core p).out ∧
      (marks.v = true → (t.core p).satPend = c.satPend) ∧
      (merge = true → c.mgTakes (t.core p) (uPacc w) 1 {}) ∧ (merge = false → (t.core p).mg = c.mg ∧ (t.core p).mgOld = c.mgOld)
    (rqFmt (e 0) ≤ 3 → ecc ≠ .uncorrected → c.rep = {} → c.oprOld.landsBy (dst % 32) n → c.oprOld.landsBy ((dst + 1) % 32) n →
      c.mgOld.landsBy (uPacc w % 4) 1 → completes k s fun t => kept t ∧
      (rqFmt (e 0) = 0 → c.oprTakes (t.core p) dst n (new (pack8 codes))) ∧
      (rqFmt (e 0) = 1 → c.oprTakes (t.core p) dst n (new (BitVec.ofNat 64 (bits (c.opr' dst).val.toNat 32 32 * 2 ^ 32 + pack4 codes)))) ∧
      (rqFmt (e 0) = 2 → c.oprTakes (t.core p) dst n
        { new (BitVec.ofNat 64 (bits (c.opr' dst).val.toNat 0 32 + pack4 codes * 2 ^ 32)) with
          marks := (c.opr' dst).marks.or (new 0).marks, cause := firstCause (c.opr' dst).marks.v (c.opr' dst).cause cause }) ∧
      (rqFmt (e 0) = 3 → ∀ j r, (t.core p).oprIn j r =
        if r % 32 = dst % 32 ∧ n ≤ j then new (pack16 codes)
        else if r % 32 = (dst + 1) % 32 ∧ n ≤ j then new (pack16 (codes.drop 4)) else c.oprIn j r) ∧
      onlyCore p s t ∧ (ecc = .ok → keeps [.fabric] s t) ∧
      (ecc = .corrected → t.rd OD.CORE_CE p = (s.inc OD.CORE_CE p).rd OD.CORE_CE p ∧ keeps [.fabric, .dict] s t)) ∧
    (ecc = .uncorrected → exec k s = .next ((s.coreUe p).fence p))

/-- R78, R83, R87, R88, R128, R129: a lookup in place, an accumulator added into a merge register with saturation at 48 bits, both read two
cycles after the issue, and a block encode: elements into OPR[PDST] on under the frame's block number, one register a cycle from four
cycles after the issue, the scale byte shifted into OPR31, and the block number advanced. Post op 1 with a block format is a block encode.
An uncorrectable table word fences the core instead. -/
def Obligations.LookupMergeAndBlockEncode : Prop :=
  ∀ (s : State) (p : Nat) (w : Word64) (ecc : Ecc), s.alive p = true → (s.core p).rep = {} →
    let c := s.core p
    let only (t : State) : Prop := onlyCore p s t ∧ keeps [.fabric] s t
    let read (t : State) : Prop := onlyCore p s t ∧ (ecc = .ok → keeps [.fabric] s t) ∧
      (ecc = .corrected → t.rd OD.CORE_CE p = (s.inc OD.CORE_CE p).rd OD.CORE_CE p ∧ keeps [.fabric, .dict] s t)
    let o := c.oprIn 0 (uPdst w)
    let kept (t : State) : Prop := t.core p =
      ({ c with opr := (t.core p).opr, oprOld := (t.core p).oprOld, satPend := (t.core p).satPend } : Core).settled (t.core p).out
    (ecc ≠ .uncorrected → c.oprOld.landsBy (uPdst w % 32) 2 →
      (c.ctrl.lutSegment = false → completes (.lookup p w ecc) s fun t => read t ∧ kept t ∧
        c.oprTakes (t.core p) (uPdst w) 2 { o with val := pack8 (eight fun i => (c.lookupLane (elem8 o.val i) false).1) }) ∧
      (c.ctrl.lutSegment = true → completes (.lookup p w ecc) s fun t => read t ∧ kept t ∧
        let x (i : Nat) := c.lookupLane (toSigned 16 (bits o.val.toNat (16 * i) 16)) c.ctrl.lutI16
        c.oprTakes (t.core p) (uPdst w) 2 { o with
          val := pack16 [(x 0).1, (x 1).1, (x 2).1, (x 3).1]
          marks := { o.marks with s := o.marks.s || ((x 0).2 || (x 1).2 || (x 2).2 || (x 3).2) } })) ∧
    (c.mgOld.landsBy (uPdst w % 4) 2 → completes (.mergeIn p w) s fun t => only t ∧ ∃ m : Mg, c.mgTakes (t.core p) (uPdst w) 2 m ∧
      t.core p = ({ c with mg := (t.core p).mg, mgOld := (t.core p).mgOld } : Core).settled (t.core p).out ∧
      (∀ i, i < 8 → laneOf m.lanes i = if m.marks.v = true then 0 else
        satTo 48 (laneOf (c.mg' (uPdst w)).lanes i + laneOf (c.accIn 0 (uPacc w)).lanes i)) ∧
      m.marks.v = ((c.mg' (uPdst w)).marks.v || (c.accIn 0 (uPacc w)).marks.v)) ∧
    (4 ≤ c.ofmt w →
      exec (.requantise p w ecc) s = exec (.blockEncode p w ecc) s ∧
      (ecc ≠ .uncorrected → (∀ r, c.oprOld.landsBy r 4) → completes (.blockEncode p w ecc) s fun t => read t ∧
        let accs := c.encodeAccs w (c.ofmt w)
        let ls := c.encodeLanes (uQsel w) accs
        let f := (ls.map Prod.snd).foldl min (ls.headD (0, 0)).2
        let modes := (List.range ls.length).map fun l => rqMode (c.rqEntry (uQsel w) (l % 8))
        let enc := encodeBlock (c.ofmt w) (ls.map fun l => l.1 * 2 ^ (l.2 - f).toNat) f modes
        let n := (c.frameAt (uFofs w)).blk
        (∀ k, k < 4 → (c.ofmt w = 5 → k < 2) → accs[k]? = some (c.accIn k (uPacc w + k))) ∧
        (∀ k v, (elemWords (c.ofmt w) enc.2.1)[k]? = some v → k < 4 → (uPdst w + k) % 32 ≠ 31 →
          (∀ j, j < 4 + k → (t.core p).oprIn j (uPdst w + k) = c.oprIn j (uPdst w + k)) ∧
          (∀ j, 4 + k ≤ j → ((t.core p).oprIn j (uPdst w + k)).val = v ∧
            ((t.core p).oprIn j (uPdst w + k)).bt = BitVec.ofNat 4 n)) ∧
        (uPdst w % 32 + 3 < 31 → ∀ j, 4 ≤ j → (t.core p).oprIn j 31 = { (t.core p).oprIn j 31 with
          val := BitVec.ofNat 64 ((c.opr' 31).val.toNat / 2 ^ 8 + enc.1 * 2 ^ 56), bt := BitVec.ofNat 4 (n + 9) }) ∧
        (uFofs w < c.ftab.length → (t.core p).frameAt (uFofs w) = { c.frameAt (uFofs w) with blk := n + 1 }) ∧
        t.core p = ({ c with opr := (t.core p).opr, oprOld := (t.core p).oprOld, ftab := (t.core p).ftab,
                             satPend := (t.core p).satPend } : Core).settled (t.core p).out)) ∧
    (∀ i, i = .lookup p w .uncorrected ∨ i = .blockEncode p w .uncorrected → exec i s = .next ((s.coreUe p).fence p))

/-- R60, R68, R75, R83, R119: an emit puts its flits on their way to the router's local port, which they reach after three cycles and one
more for each flit before them, by the microword's local route under the frame's tag, with M set where the register or the frame is
saturated; where the register or the frame is void it sends one VOID token with its CAUSE, which is counted, and where it is skipped one
SKIP token, unless the microword keeps. A decision record leaves with the score and bits of OPR[SREG], the frame's tag, its flags and the
core's stream. Registers are those that a read sees. -/
def Obligations.EmitsOfACore : Prop :=
  ∀ (s : State) (p : Nat) (w : Word64), s.alive p = true → (s.core p).rep = {} → (∀ x ∈ (s.core p).out, x.1 ≠ 0) →
    let c := s.core p
    let f := c.frameAt (uFofs w)
    let o := c.oprIn 0 (uSreg w)
    let a := c.accIn 0 (uSreg w)
    let ctl (kind extra : Nat) : Flit :=
      { payload := BitVec.ofNat 64 (kind * 2 ^ 61 + extra * 2 ^ 16 + f.ftag.toNat % 2 ^ 16), tag := mkTag (s.rd OD.EPOCH) 0 f.ftag.toNat false }
    let data (bt : Nat) (m : Bool) (v : Word64) : Flit := { payload := v, tag := mkTag (s.rd OD.EPOCH) bt f.ftag.toNat (m || f.sat) }
    let sends (out : List (Nat × Bool × Tok)) (t : State) : Prop :=
      t.core p = c.settled (c.out ++ out) ∧ onlyCore p s t ∧ t.fabric.recordsOut = s.fabric.recordsOut ++ c.recs
    let one (ctrl : Bool) (rte : Nat) (x : Flit) : List (Nat × Bool × Tok) := [(3, ctrl, { flit := x, label := rte })]
    let void (rte : Nat) (cause : Byte) (t : State) : Prop := sends (one true rte (ctl 5 cause.toNat)) t ∧
      t.rd OD.CORE_VOID_OUT p = (s.inc OD.CORE_VOID_OUT p).rd OD.CORE_VOID_OUT p ∧
      keepsCells [OD.CORE_VOID_OUT.key p] s t ∧ keeps [.fabric, .dict] s t
    let plain (out : List (Nat × Bool × Tok)) (t : State) : Prop := sends out t ∧ keeps [.fabric] s t
    let pair (k : Nat) : Word64 :=
      BitVec.ofNat 64 (ofSigned 32 (laneOf a.lanes (2 * k)) + ofSigned 32 (laneOf a.lanes (2 * k + 1)) * 2 ^ 32)
    (f.void = true → completes (.emitData p w) s (void (uRte w) f.cause) ∧ completes (.emitPartialSums p w) s (void (uRte w) f.cause)) ∧
    (f.void = false →
      (o.marks.v = true → completes (.emitData p w) s (void (uRte w) o.cause)) ∧
      (a.marks.v = true → completes (.emitPartialSums p w) s (void (uRte w) a.cause)) ∧
      (o.marks.v = false → (o.marks.k = true ∨ f.skip = true ∧ uKeep w = false) →
        completes (.emitData p w) s (plain (one true (uRte w) (ctl 4 0)))) ∧
      (o.marks.v = false → o.marks.k = false → (f.skip = true → uKeep w = true) →
        completes (.emitData p w) s (plain (one false (uRte w) (data o.bt.toNat o.marks.s o.val)))) ∧
      (a.marks.v = false → a.marks.k = false → (f.skip = true → uKeep w = true) → completes (.emitPartialSums p w) s
        (plain ((List.range 4).map fun k => (3 + k, false, { flit := data 0 a.marks.s (pair k), label := uRte w }))))) ∧
    (∀ x : Word64, x = SMap.get 0 c.templates (uRte w) →
      let rte := bits x.toNat 56 3
      (f.void = true → completes (.emitControlTemplate p w) s (void rte f.cause)) ∧
      (f.void = false → f.skip = true → bits x.toNat 61 3 ≠ 5 → completes (.emitControlTemplate p w) s (plain (one true rte (ctl 4 0)))) ∧
      (f.void = false → bits x.toNat 61 3 = 5 →
        completes (.emitControlTemplate p w) s (void rte (BitVec.ofNat 8 (bits x.toNat 16 8)))) ∧
      (f.void = false → f.skip = false → bits x.toNat 61 3 ≠ 5 → completes (.emitControlTemplate p w) s
        (plain (one true rte (ctl (bits x.toNat 61 3) (bits x.toNat 16 8)))))) ∧
    (completes (.emitDecisionRecord p w) s fun t =>
      ∃ r : RecOut, t.core p = c.settled c.out ∧ onlyCore p s t ∧ keeps [.fabric] s t ∧
        t.fabric.recordsOut = s.fabric.recordsOut ++ c.recs ++ [r] ∧ r.core = p ∧ r.epoch = s.rd OD.EPOCH ∧
        r.cycle = s.clock.cycle ∧ bits r.bits.toNat 0 24 = bits o.val.toNat 0 24 ∧ bits r.bits.toNat 24 16 = f.ftag.toNat ∧
        bits r.bits.toNat 46 6 = c.stream % 64 ∧ bit r.bits.toNat 41 = (f.void || o.marks.v || f.skip || o.marks.k) ∧
        bit r.bits.toNat 43 = (o.marks.s || f.sat) ∧ bit r.bits.toNat 44 = f.stale ∧
        bits r.bits.toNat 52 8 = (if f.void then f.cause.toNat else if o.marks.v then o.cause.toNat
          else if f.skip = true ∨ o.marks.k = true then 8 else 0))

/-- R63 to R68, R78, R95, R132, R134, R135: the only flit that waits at a router, with a valid route to one output that has room, is granted:
it leaves its queue, the output's round-robin pointer moves past its input, and it goes under its new label to the core's local port, to
the neighbour's input queue or to the gateway's. Where the core is fenced it is dropped and counted. A flit that a mesh link corrupts is
lost with LINK_UE at the receiving router; one it corrects is counted there. A parity error fences the position. -/
def Obligations.RouterHopMovesTheWaitingFlit : Prop :=
  ∀ (s : State) (p port : Nat) (out : Fin 5) (ctrl : Bool) (t : Tok) (ts : List Tok), port < 5 → t.served = 0 →
    s.rq (rKey p port ctrl) = t :: ts →
    (∀ port' ctrl', port' < 5 → (port', ctrl') ≠ (port, ctrl) → s.rq (rKey p port' ctrl') = []) →
    let e := s.routeEntry p port ctrl t.label
    (SMap.get false s.fabric.fencedPos p = false →
      exec (.routerHop p out .parity) s = .next (s.fencePosition (pcidCluster p) (pcidPos p))) ∧
    (bit e 9 = true → bits e 0 5 = 2 ^ out.val → s.outRoom p out ctrl = true →
      let u := { s.setRq (rKey p port ctrl) ts with fabric.rr := SMap.set 0 s.fabric.rr (p * 5 + out) ((port + 1) % 5) }
      let t' : Tok := { t with label := bits e 5 4, served := 0 }
      (out = 4 → s.localFenced p = false → exec (.routerHop p out .none) s =
        .next { u with fabric.localQ := SMap.upd [] s.fabric.localQ (p * 2 + b2n ctrl) fun q => q ++ [t'] }) ∧
      (out = 4 → s.localFenced p = true → exec (.routerHop p out .none) s = .next (u.inc OD.FENCED_DROP (pcidCluster p))) ∧
      (∀ q, out ≠ 4 → meshNext (pcidPos p) out = some q →
        let n := mkPcid (pcidCluster p) q
        let k := rKey n (opposite out) ctrl
        exec (.routerHop p out .none) s = .next (u.setRq k (u.rq k ++ [t'])) ∧
        exec (.routerHop p out (.link .corrected)) s = .next ((u.linkCe n).setRq k (u.rq k ++ [t'])) ∧
        exec (.routerHop p out (.link .uncorrected)) s = .next (u.linkError n (opposite out))) ∧
      (∀ g, out ≠ 4 → meshNext (pcidPos p) out = none → edgeOf (pcidPos p) out = some g → exec (.routerHop p out .none) s =
        .next { u with fabric.gateQ := SMap.upd [] s.fabric.gateQ ((pcidCluster p * 12 + g) * 2 + b2n ctrl) fun q => q ++ [t'] }))

/-- R132, R133, R140 to R142, R146, R147: a flit at the head of a gateway queue crosses to the truss, the deck or the mesh as its table
says, where the output has room and no other source asks for it, or is discarded with GATEWAY_FAULT; one at the head of a viaduct channel
reaches the far die's truss or the hub's switch, counted where it was corrected and lost where it could not be; the hub switch passes one
on as the image's relay says, to another die's viaduct or to a hub block. A full queue ahead holds it back. -/
def Obligations.GatewayViaductAndHubCrossings : Prop :=
  ∀ (s : State) (t : Tok) (ts : List Tok) (ctrl : Bool),
    (∀ (c : Fin 256) (outbound : Bool) (port : Fin 12), (outbound = false → port.val < 8) →
      SMap.get [] s.fabric.gateQ (gKey c outbound port ctrl) = t :: ts →
      let e := SMap.get 0 (if outbound then (s.cluster c).outbound else (s.cluster c).inbound) (t.label % 16)
      let u := { s with fabric.gateQ := SMap.set [] s.fabric.gateQ (gKey c outbound port ctrl) ts }
      let t' : Tok := { t with label := bits e 2 4 }
      let alone (d : GateDest) : Prop :=
        (∀ src, src < gateSources outbound → src ≠ port.val → s.gateAsks c outbound d ctrl src = false) ∧
        (ctrl = false → ∀ src, src < gateSources outbound → s.gateAsks c outbound d true src = false)
      (outbound = true → bits e 0 2 = 1 → alone (.truss (bits e 10 3)) → (s.tq (trKey c 4 (bits e 10 3) ctrl)).length < 4 →
        exec (.gatewayCrossing c outbound port ctrl) s =
          .next ({ u with fabric.gateRr := SMap.set 0 s.fabric.gateRr (c * 20 + bits e 10 3) ((port.val + 1) % 12) }.setTq
            (trKey c 4 (bits e 10 3) ctrl) (s.tq (trKey c 4 (bits e 10 3) ctrl) ++ [t']))) ∧
      (bits e 0 2 = 2 → exec (.gatewayCrossing c outbound port ctrl) s =
        .next { u with fabric.deckQ := SMap.upd [] s.fabric.deckQ (c * 2 + b2n ctrl) fun q => q ++ [t'] }) ∧
      (∀ k, outbound = false → bits e 0 2 = 3 → bits e 6 4 < 12 → alone (.mesh (bits e 6 4)) →
        k = rKey (mkPcid c (edgePos (bits e 6 4))) (edgePort (bits e 6 4)) ctrl →
        ((s.rq k).length < 4 → exec (.gatewayCrossing c outbound port ctrl) s =
          .next ({ u with fabric.gateRr := SMap.set 0 s.fabric.gateRr (c * 20 + 8 + bits e 6 4) ((port.val + 1) % 9) }.setRq k
            (s.rq k ++ [t']))) ∧
        (4 ≤ (s.rq k).length → exec (.gatewayCrossing c outbound port ctrl) s = .next s)) ∧
      (bits e 0 2 = 0 → completes (.gatewayCrossing c outbound port ctrl) s fun v => ∃ edge, v = u.gatewayFault c edge)) ∧
    (∀ (via : Fin 8) (chan : Fin 64) (lane : Fin 8) (back : Bool),
      SMap.get [] s.fabric.viaQ (vKey via chan lane ctrl back) = t :: ts →
      let u := { s with fabric.viaQ := SMap.set [] s.fabric.viaQ (vKey via chan lane ctrl back) ts }
      let x := s.viaExit via (chan.val % 8) back
      (via.val < 4 → (s.tq (trKey x.1 x.2 lane ctrl)).length < 4 →
        exec (.viaductCrossing via chan lane ctrl back .ok) s =
          .next (u.setTq (trKey x.1 x.2 lane ctrl) (s.tq (trKey x.1 x.2 lane ctrl) ++ [t])) ∧
        exec (.viaductCrossing via chan lane ctrl back .corrected) s =
          .next ((u.inc OD.VIA_CE via).setTq (trKey x.1 x.2 lane ctrl) (s.tq (trKey x.1 x.2 lane ctrl) ++ [t]))) ∧
      (∀ k, 4 ≤ via.val → back = true → k = trKey (64 * (via.val - 4) + chan.val) 5 (lane.val % 4) ctrl → (s.tq k).length < 4 →
        exec (.viaductCrossing via chan lane ctrl back .ok) s = .next (u.setTq k (s.tq k ++ [t]))) ∧
      (∀ k, 4 ≤ via.val → back = false → k = hKey (via.val - 4) chan lane ctrl → (SMap.get [] s.fabric.hubQ k).length < 4 →
        exec (.viaductCrossing via chan lane ctrl back .ok) s =
          .next { u with fabric.hubQ := SMap.upd [] s.fabric.hubQ k fun q => q ++ [t] }) ∧
      exec (.viaductCrossing via chan lane ctrl back .uncorrected) s = .next (u.viaError via chan back)) ∧
    (∀ (src : Fin 5) (chan : Fin 64) (lane : Fin 4) (r : Relay), SMap.get [] s.fabric.hubQ (hKey src chan lane ctrl) = t :: ts →
      s.relayOf src chan lane t.label = some r →
      let u := { s with fabric.hubQ := SMap.set [] s.fabric.hubQ (hKey src chan lane ctrl) ts }
      (∀ n, r.dest = .block n → exec (.hubRelay src chan lane ctrl) s = .next u) ∧
      (∀ (d : Fin 4) (dchan : Fin 64) (dlane : Fin 4), r.dest = .die d dchan dlane →
        let v := vKey (4 + d.val) dchan dlane ctrl true
        let onto (w : State) : State := { w with fabric.viaQ := SMap.upd [] s.fabric.viaQ v fun q => q ++ [t] }
        (4 ≤ (SMap.get [] s.fabric.viaQ v).length → exec (.hubRelay src chan lane ctrl) s = .next s) ∧
        ((SMap.get [] s.fabric.viaQ v).length < 4 →
          (r.reserved = true → exec (.hubRelay src chan lane ctrl) s = .next (onto u)) ∧
          (r.reserved = false → (∀ src', src' < 5 → src' ≠ src.val → s.hubAsks d src' ctrl = false) →
            (ctrl = false → ∀ src', src' < 5 → s.hubAsks d src' true = false) → exec (.hubRelay src chan lane ctrl) s =
              .next (onto { u with fabric.hubRr := SMap.set 0 s.fabric.hubRr d ((src.val + 1) % 5) })))))

/-- R140, R141, R144, R145, R147: the only flit that waits at a truss router, with a valid route to one output and a lane with room, is
granted: it leaves its queue, the output lane's pointer moves past its input port unless the image reserves the lane, and it goes under
its new label to the next router, a viaduct channel, the gateway or the hub's channel; a double-bit error on the link to the next router
discards it, counted, and a corrected one changes nothing. -/
def Obligations.TrussHopMovesTheWaitingFlit : Prop :=
  ∀ (s : State) (c : Fin 256) (port il : Nat) (out : Fin 6) (lane : Fin 8) (ctrl : Bool) (t : Tok) (ts : List Tok),
    port < 6 → il < 8 → t.served = 0 → s.tq (trKey c port il ctrl) = t :: ts →
    (∀ port' il' ctrl', port' < 6 → il' < 8 → (port', il', ctrl') ≠ (port, il, ctrl) → s.tq (trKey c port' il' ctrl') = []) →
    let e := s.trussEntry c port il ctrl t.label
    bit e 13 = true → bits e 0 6 = 2 ^ out.val → (if out = 5 then bits e 6 3 % 4 else bits e 6 3) = lane.val →
    s.trussRoom c out lane ctrl = true →
    let u := if s.laneReserved c out lane = true then s.setTq (trKey c port il ctrl) ts
      else { s.setTq (trKey c port il ctrl) ts with
        fabric.trussRr := SMap.set 0 s.fabric.trussRr ((c.val * 6 + out.val) * 8 + lane.val) ((port + 1) % 6) }
    let t' : Tok := { t with label := bits e 9 4, served := 0 }
    (∀ n q, s.trussEnd c out = .router n q →
      exec (.trussHop c out lane .ok) s = .next (u.setTq (trKey n q lane ctrl) (u.tq (trKey n q lane ctrl) ++ [t'])) ∧
      exec (.trussHop c out lane .corrected) s = exec (.trussHop c out lane .ok) s ∧
      exec (.trussHop c out lane .uncorrected) s = .next ((u.inc OD.TRUSS_UE_TOTAL 0).raise 0x000D (0x8000 + n / 64) (n / 64))) ∧
    (∀ via chan back ecc, s.trussEnd c out = .viaduct via chan back → exec (.trussHop c out lane ecc) s =
      .next { u with fabric.viaQ := SMap.upd [] s.fabric.viaQ (vKey via chan lane ctrl back) fun q => q ++ [t'] }) ∧
    (∀ ecc, s.trussEnd c out = .gateway → exec (.trussHop c out lane ecc) s =
      .next { u with fabric.gateQ := SMap.upd [] s.fabric.gateQ (gKey c false lane ctrl) fun q => q ++ [t'] }) ∧
    (∀ ecc, s.trussEnd c out = .hub → exec (.trussHop c out lane ecc) s =
      .next { u with fabric.viaQ := SMap.upd [] s.fabric.viaQ (vKey (4 + c.val / 64) (c.val % 64) lane ctrl false) fun q => q ++ [t'] })

/-- R136 to R138, R159, R204: the k-th data flit of a frame goes to word k of the slot its steering tag names, with block tag and M, and is
read from four cycles later on; one past the slot's length is lost; the last of a handoff entry puts the eight words in the stream's ring.
VOID and SKIP tokens mark every word of the slot, and BOF and SELECT tokens write nothing. -/
def Obligations.DeckWritesFrameSlots : Prop :=
  ∀ (s : State) (c : Fin 256) (label : Fin 16) (f : Flit) (n e : Nat), (s.cluster c).deckEntry 1 label = some (n, e) →
    let u (ctrl : Bool) := s.deckLanded c ctrl { flit := f, label := label.val }
    let slot := f.stag % dkRing e
    let k := (s.cluster c).writtenOf n f.stag
    let addr (i : Nat) := deckAddr e slot i
    let word : DeckWord := { data := f.payload, bt := BitVec.ofNat 4 f.btag, m := f.m }
    let late (i : Nat) : Prop := (s.cluster c).bankOut (addr i) = false ∧ ∀ x ∈ (s.cluster c).memOld, x.1 = addr i → x.2.1 ≤ s.now + 4
    let writes (t : State) : Prop := (∀ m a, s.now ≤ m → (t.cluster c).wordAt m a =
        if a = addr k ∧ s.now + 4 ≤ m then word else (s.cluster c).wordAt m a) ∧
      (t.cluster c).writtenOf n f.stag = k + 1 ∧ keepsClusters c (u false) t
    (k ≤ dkCount e → late k → (k < dkCount e ∨ s.handoffOf c n = none) → completes (.deckWrite c label false f) s fun t =>
      writes t ∧ keeps [.fabric] s t) ∧
    (∀ st, k = dkCount e → late k → s.handoffOf c n = some st → (s.ring st).length < s.deepCfg.hqDepth → s.faults.repairs = [] →
      completes (.deckWrite c label false f) s fun t => writes t ∧ keeps [.fabric, .deep] s t ∧
        t.ring st = s.ring st ++ [{ bits := (t.cluster c).slotBits e slot, tick := s.handTick c n f.stag }]) ∧
    (dkCount e < k → exec (.deckWrite c label false f) s = .next (u false)) ∧
    (f.kind = 4 ∨ (f.kind = 5 ∧ s.handoffOf c n = none) → (∀ i, i ≤ dkCount e → late i) → completes (.deckWrite c label true f) s fun t =>
      (∀ i m, i ≤ dkCount e → s.now + 4 ≤ m → (t.cluster c).wordAt m (addr i) =
        if f.kind = 4 then { k := true } else { data := BitVec.ofNat 64 f.cause.toNat, v := true }) ∧
      keepsClusters c (u true) t ∧ keeps [.fabric] s t) ∧
    (∀ st, f.kind = 5 → s.handoffOf c n = some st → (s.ring st).length < s.deepCfg.hqDepth → s.faults.repairs = [] →
      completes (.deckWrite c label true f) s fun t =>
        t.ring st = s.ring st ++ [{ bits := BitVec.ofNat 512 (2 ^ 392), tick := s.tickOfTag f.ftag }]) ∧
    (f.kind = 1 ∨ f.kind = 3 → exec (.deckWrite c label true f) s = .next (u true))

/-- R74, R138, R139, R147, R158, R159: a trigger token starts a READ of its frame slot, behind those under way; a corrected word is counted,
and an uncorrectable one makes the READ's result void. Its flits cross to the mesh at the entry's edge, each once it is due, where the
edge has room and no other source asks for it, and no WRITE waits for its bank: as many data flits as the slot holds, with their block
tags and marks, where no word is void or skipped; one VOID token with the CAUSE in the slot where a word is void, or the token's own CAUSE
where it carries one; one SKIP token where it is skipped. -/
def Obligations.DeckReadsFrameSlots : Prop :=
  ∀ (s : State) (c : Fin 256),
    (∀ (label : Fin 16) (ctrl ce : Bool) (f : Flit) (ue : Option (Fin 4096)) (n e : Nat), (s.cluster c).deckEntry 2 label = some (n, e) →
      ((∀ k, ue = some k → dkCount e < k.val) → completes (.deckRead c label ctrl f ue ce) s fun t => ∃ r : DeckRead,
        (t.cluster c).reads = (s.cluster c).reads ++ [r] ∧ r.num = n ∧ r.entry = e ∧ r.slot = readSlot e f.stag ∧ r.flit = f ∧
        r.ctrl = ctrl ∧ r.bad = false ∧ r.next = 0 ∧ r.due = s.now + dkDelay e ∧ (ctrl = true → f.ftag < 65536 → r.ftag / 256 = f.ftag / 256) ∧
        t.cluster c = { s.cluster c with reads := (t.cluster c).reads } ∧
        keepsClusters c (s.deckLanded c ctrl { flit := f, label := label.val }) t ∧
        t.rd OD.DECK_CE c = (if ce = true then (s.inc OD.DECK_CE c).rd OD.DECK_CE c else s.rd OD.DECK_CE c) ∧
        keeps [.fabric, .dict, .draws] s t ∧ (ctrl = true → ce = false → keeps [.fabric] s t)) ∧
      (∀ k : Fin 4096, ue = some k → k.val ≤ dkCount e → completes (.deckRead c label ctrl f ue ce) s fun t =>
        ∃ r : DeckRead, r ∈ (t.cluster c).reads ∧ r.entry = e ∧ r.slot = readSlot e f.stag ∧ r.bad = true ∧ r.next = 0)) ∧
    (∀ r : DeckRead, (s.cluster c).reads = [r] → r.due + r.next + 4 ≤ s.now → s.writeWaits c r.bank = false →
      let word (k : Nat) : DeckWord := (s.cluster c).wordAt (s.now - 4) (deckAddr r.entry r.slot k)
      let k (ctrl : Bool) := rKey (mkPcid c (edgePos (dkPort r.entry))) (edgePort (dkPort r.entry)) ctrl
      let free (ctrl : Bool) : Prop := (s.rq (k ctrl)).length < 4 ∧
        (∀ src, src < 8 → s.gateAsks c false (.mesh (dkPort r.entry)) ctrl src = false) ∧
        (ctrl = false → ∀ src, src < 9 → s.gateAsks c false (.mesh (dkPort r.entry)) true src = false)
      let crosses (ctrl : Bool) (x : Tok) (left : List DeckRead) (t : State) : Prop :=
        t.rq (k ctrl) = s.rq (k ctrl) ++ [x] ∧ (∀ j, j ≠ k ctrl → t.rq j = s.rq j) ∧
        t.cluster c = { s.cluster c with reads := left } ∧ (∀ n, n ≠ c.val → t.cluster n = s.cluster n) ∧ keeps [.fabric] s t
      ((∀ i, i ≤ dkCount r.entry → (word i).v = false ∧ (word i).k = false) → r.bad = false →
        (r.ctrl = true → r.flit.kind ≠ 4 ∧ r.flit.kind ≠ 5) → free false → completes (.gatewayCrossing c false 8 false) s
          (crosses false { flit := { payload := (word r.next).data, tag := mkTag s.epoch (word r.next).bt.toNat r.flit.stag (word r.next).m },
                           label := dkOut r.entry } (if r.next = dkCount r.entry then [] else [{ r with next := r.next + 1 }]))) ∧
      (r.next = 0 → free true → ∀ kind cause,
        ((r.ctrl = true ∧ r.flit.kind = 5 ∧ kind = 5 ∧ cause = r.flit.cause.toNat) ∨
         ((r.ctrl = false ∨ r.flit.kind ≠ 5) ∧
          ((∃ i, i ≤ dkCount r.entry ∧ (word i).v = true ∧ (∀ j, j < i → (word j).v = false) ∧ kind = 5 ∧ cause = bits (word i).data.toNat 0 8) ∨
           ((∀ i, i ≤ dkCount r.entry → (word i).v = false) ∧
            ((r.bad = true ∧ kind = 5 ∧ cause = 3) ∨
             (r.bad = false ∧ ((r.ctrl = true ∧ r.flit.kind = 4) ∨ ∃ i, i ≤ dkCount r.entry ∧ (word i).k = true) ∧ kind = 4 ∧ cause = 0)))))) →
        completes (.gatewayCrossing c false 8 true) s (crosses true
          { flit := { payload := BitVec.ofNat 64 (kind * 2 ^ 61 + cause * 2 ^ 16 + r.ftag % 2 ^ 16), tag := mkTag s.epoch 0 r.flit.stag false },
            label := dkOut r.entry } [])))

/-- R15, R30, R38, R51, R267, R290: while the clocks run, outside a replay, with no transaction, activation or READ due, the Drone count advances
by one at a tick boundary, in the stages of a Damp up to its resume as well. With no Damp B_n moves by TICKDIV, and each
stream that is fed and used gives one frame in flight for the tick, void where no complete frame is held for it, where its deadline
marked it, or where its die lags by more than 256 cycles; the others give none. Its tokens wait in its home die's injection buffer for
cycle B_n + 12; those of a void frame are all control tokens. -/
def Obligations.TickBoundaryAdmitsFrames : Prop :=
  ∀ (s : State) (ue : Word64), s.clock.running = true → s.tape.replaying = false → s.dict.txns = [] → s.dict.read = none →
    s.act.pending = none →
    (s.rd OD.DAMP_STATE ≠ 0 → s.rd OD.DAMP_STATE ≠ 5 → completes (.tickBoundary ue) s fun t => t.clock.drone = (s.clock.drone + 1) % 2 ^ 64) ∧
    (s.rd OD.DAMP_STATE = 0 → completes (.tickBoundary ue) s fun t =>
      let b := s.nextBoundary
      t.clock.drone = (s.clock.drone + 1) % 2 ^ 64 ∧ t.clock.bnd = b ∧ t.nextBoundary = b + s.rd OD.TICKDIV ∧
      t.clock.cycle = max s.clock.cycle b ∧ t.clock.deadlineOf = none ∧
      (s.faults.safe = false → ∀ st, st < 64 →
        (s.admitted st = false → (t.dec st).flights = (s.dec st).flights) ∧
        (s.admitted st = true → ∃ f : Flight, (t.dec st).flights = (s.dec st).flights ++ [f] ∧ f.tick = t.clock.drone ∧ f.bnd = b ∧
          f.p = s.rd OD.LAT_P ∧
          (f.void = false ↔ (∃ a ∈ (s.ing st).align, a.seq = s.seqOf st s.nextTick ∧ a.complete = true) ∧
            (s.ing st).voidMark = false ∧ s.lagOf (s.homeDie st) t.clock.cycle ≤ 256) ∧
          ∃ x ∈ SMap.get [] t.fabric.inject (s.homeDie st), x.stream = st ∧ x.tick = t.clock.drone ∧ x.cycle = b + 12 ∧
            (f.void = true → ∀ e ∈ x.left, e.2.1 = true))))

/-- R30, R34 to R37, R267: at the ingest deadline, two cycles before the next boundary, a stream without a complete frame for the coming
tick has the tick marked void, once. The selected TICKIN edge, where one is waited for, sets the phase: a boundary comes TICKIN_OFFSET
after the edge behind its synchroniser (always two cycles here, log entry 147); later selected edges are measured; the other edge, and a
worker's pin, does nothing. With no edge in time admission stays off and the activation ends with code 9. -/
def Obligations.IngestDeadlineAndTickin : Prop :=
  ∀ s : State, s.clock.running = true →
    (s.clock.deadlineOf ≠ some s.nextTick → completes .ingestDeadline s fun t =>
      t.clock.deadlineOf = some s.nextTick ∧ t.clock.cycle = max s.clock.cycle (s.nextBoundary - 2) ∧
      keeps [.clock, .fabric, .dict, .ingest] s t ∧
      ∀ st, st < 64 → s.admitted st = true → s.tape.replaying = false →
        ((t.ing st).voidMark = true ↔ ¬∃ a ∈ (s.ing st).align, a.seq = s.seqOf st s.nextTick ∧ a.complete = true)) ∧
    (∀ (rising : Bool) (cycle : Nat), (rising = true ↔ s.rd OD.TICKIN_EDGE = 0) → s.rd OD.TICKIN_EDGE ≤ 1 →
      s.isWorker = false → s.clock.tickinWait.isSome = true → completes (.tickinEdge rising cycle) s fun t =>
      t.clock.tickinWait = none ∧ t.clock.tickinSeen = some (cycle + 2) ∧
      t.nextBoundary = cycle + 2 + s.rd OD.TICKIN_OFFSET ∧ t.rd OD.TICKIN_STATUS = 1 ∧
      keeps [.clock, .fabric, .dict] s t) ∧
    (∀ (rising : Bool) (cycle : Nat),
      let e := (((cycle + 2 : Nat) : Int) + s.rd OD.TICKIN_OFFSET - s.nextBoundary) % (s.rd OD.TICKDIV : Int)
      let x := if 2 * e < (s.rd OD.TICKDIV : Int) then e else e - (s.rd OD.TICKDIV : Int)
      (rising = true ↔ s.rd OD.TICKIN_EDGE = 0) → s.rd OD.TICKIN_EDGE ≤ 1 →
      s.isWorker = false → s.clock.tickinWait = none → s.rd OD.TICKIN_STATUS % 2 = 1 → 0 < s.rd OD.TICKDIV → s.rd OD.TICKDIV < 2 ^ 32 →
      2 * e ≠ (s.rd OD.TICKDIV : Int) → x.natAbs ≤ s.rd OD.TICKIN_TOL → completes (.tickinEdge rising cycle) s fun t =>
        t.rdI OD.TICKIN_PHASE = x ∧ t.clock.tickinSeen = some (cycle + 2) ∧ keepsCells [OD.TICKIN_PHASE.key 0] s t ∧
        keeps [.clock, .fabric, .dict] s t) ∧
    (∀ (rising : Bool) (cycle : Nat), (s.isWorker = true ∨ (rising = true ↔ s.rd OD.TICKIN_EDGE = 1)) →
      exec (.tickinEdge rising cycle) s = .next s) ∧
    (∀ c, s.clock.tickinWait = some c → completes .tickinTimeout s fun t =>
      t.clock.tickinWait = none ∧ t.act = { s.act with admitOn := false } ∧ t.rd OD.DAMP_STATE = 6 ∧ t.rd OD.ACT_STATUS = 9 ∧
      keeps [.clock, .fabric, .act, .dict, .host, .faults] s t)

/-- R17, R46 to R48, R186, R188, R292 to R294: a record that a core has emitted for a stream, of the current epoch, that comes by the
deadline of the stream's oldest frame leaves the fabric and waits for that deadline, and is released then through the trigger logic; one
of another epoch is discarded as stale; what no core has emitted does not arrive. A frame without a record by D + TICKDIV − 1
is answered by the late, void substitute with the fail-safe bits and score; one a hard retune has made stale, at its deadline, by a void
and stale record with them. Other streams' decisions do not change. (Stated for a stream under no repair.) -/
def Obligations.DeadlineMonitorReleasesRecords : Prop :=
  ∀ (s : State) (st : Fin 64) (f : Flight) (fl : List Flight), (s.dec st).flights = f :: fl → s.faults.repairs = [] →
    let due := f.bnd + 12 + f.p
    let tag := f.tick % 2 ^ 16
    let others (t : State) : Prop := ∀ q, q ≠ st.val → t.dec q = s.dec q
    let left (r : Rec) (cycle : Nat) (t : State) : Prop :=
      (t.dec st).flights = fl ∧ (t.dec st).released = ((r, cycle, due) :: (s.dec st).released).take 64 ∧
      (t.dec st).buffer = (s.dec st).buffer.filter (fun x => decide (x.1.ftag ≠ tag)) ∧ others t ∧
      t.clock.cycle = (if s.clock.running then max s.clock.cycle cycle else s.clock.cycle)
    (∀ (w : Word64) (cycle : Nat) (e : Fin 8) (o : RecOut), o ∈ (s.advanceTo cycle).fabric.recordsOut → o.bits = w → o.epoch = e.val →
      o.cycle + 4 ≤ (s.advanceTo cycle).now → bits w.toNat 46 6 = st.val →
      let gone (t : State) : Prop := ∃ o' ∈ (s.advanceTo cycle).fabric.recordsOut, o'.bits = w ∧ o'.epoch = e.val ∧
        t.fabric = { (s.advanceTo cycle).fabric with recordsOut := (s.advanceTo cycle).fabric.recordsOut.erase o' }
      (e.val = s.rd OD.EPOCH → bits w.toNat 24 16 = tag → fl = [] → f.stale = false → (s.dec st).buffer = [] → cycle ≤ due →
        2 ≤ s.rd OD.TICKDIV → completes (.recordArrival st w e cycle) s fun t =>
          t.dec st = { s.dec st with buffer := [(Rec.ofBits st w, cycle)] } ∧ others t ∧ gone t ∧
          t.rdI OD.MIN_MARGIN st = min (s.rdI OD.MIN_MARGIN st) ((due : Int) - cycle) ∧
          keepsCells [OD.MIN_MARGIN.key st] s t ∧ keeps [.clock, .fabric, .dict, .decisions] s t) ∧
      (e.val ≠ s.rd OD.EPOCH → completes (.recordArrival st w e cycle) s fun t =>
        gone t ∧ t.decisions = s.decisions ∧ t.rd OD.STALE_TOKEN_TOTAL = (s.inc OD.STALE_TOKEN_TOTAL 0).rd OD.STALE_TOKEN_TOTAL ∧
        keeps [.clock, .fabric, .dict, .host, .faults] s t)) ∧
    (∀ (w : Word64) (cycle : Nat) (e : Fin 8), (∀ o ∈ (s.advanceTo cycle).fabric.recordsOut, o.bits ≠ w) →
      exec (.recordArrival st w e cycle) s = .next (s.advanceTo cycle)) ∧
    (∀ (r : Rec) (c : Nat), (s.dec st).buffer.find? (fun x => decide (x.1.ftag = tag)) = some (r, c) →
      completes (.recordRelease st) s (left (s.decideRecord st f (if r.late && r.void then { r with cause := 0 } else r)) due)) ∧
    ((s.dec st).buffer.find? (fun x => decide (x.1.ftag = tag)) = none →
      (f.stale = false → completes (.deadlineMiss st) s fun t =>
        left { accept := s.rd OD.FS_ACCEPT st, score := s.rdI OD.FS_SCORE st, ftag := tag, late := true, void := true, stream := st }
          (due + s.rd OD.TICKDIV - 1) t ∧ f.tick ∈ (t.dec st).substituted) ∧
      (f.stale = true → completes (.staleRecord st) s
        (left { accept := s.rd OD.FS_ACCEPT st, score := s.rdI OD.FS_SCORE st, ftag := tag, void := true, stale := true, stream := st,
                cause := if f.void then f.cause else 4 } due)))

/-- R268, R270 to R273, R295: the oldest pulse of a stream on a TRIGOUT pin ends. A decision lane in DATA whose burst is filled sends it E0
after the deadline, with its header, its records by rank and its CRC-32, under the lane's burst count; a slot that has no record by its
cut-off takes the substitute; a lane out of DATA discards the burst. With a burst go the fillers that R256 asks for. -/
def Obligations.TrigoutAndDecisionBursts : Prop :=
  ∀ s : State,
    (∀ (pin : Fin 8) (st : Fin 64) (x : Nat × Nat) (xs : List (Nat × Nat)),
      (SMap.get {} s.pins (64 * pin.val + st.val)).pulses = xs ++ [x] → completes (.trigoutPulseEnd pin st) s fun t =>
        SMap.get {} t.pins (64 * pin.val + st.val) = { SMap.get {} s.pins (64 * pin.val + st.val) with pulses := xs } ∧
        keepsUnits {} (64 * pin.val + st.val) s.pins t.pins ∧ keeps [.clock, .fabric, .pins] s t) ∧
    (∀ (l : Fin 64) (b : Burst), s.rd OD.TX_KIND l = 1 → (s.lane l).burst = some b → b.started = false →
      let e0 := (lockTiming (s.rd OD.TX_LOCK (l.val / 4))).1
      (s.rd OD.TX_STATE l = 7 → b.slots.length = (s.laneMap l).length → b.slots.all Option.isSome = true →
        completes (.decisionBurst l) s fun t =>
          (t.lane l).wire = burstBytes 1 b.slots.length l (s.lane l).bseq b.ftag
            (b.slots.map fun w => leBytes 8 (w.getD 0).toNat).flatten (s.txBlocks l) ∧
          (t.lane l).bseq = ((s.lane l).bseq + 1) % 256 ∧ (t.lane l).burst = none ∧ (t.lane l).fillRun < 4096 ∧
          (s.clock.running = true → t.clock.cycle = max s.clock.cycle (b.deadline + e0)) ∧
          keepsUnits {} l s.lanes t.lanes ∧ keepsCells [OD.FILL_INS.key l] s t ∧ keeps [.clock, .fabric, .lanes, .dict] s t) ∧
      (s.rd OD.TX_STATE l ≠ 7 → completes (.decisionBurst l) s fun t =>
        (t.lane l).burst = none ∧ keepsUnits {} l s.lanes t.lanes ∧ keepsCells [OD.TX_DISCARD.key l] s t ∧
        keeps [.lanes, .dict] s t) ∧
      (∀ k : Fin 16, k.val < b.slots.length → b.slots.getD k none = none →
        (∀ st, (s.dec st).released.find? (fun x => decide (x.2.2 = b.deadline)) = none) →
        completes (.laneSubstitute l k) s fun t =>
          (t.lane l).burst = some { b with slots := b.slots.set k (some (Rec.bits { accept := s.rd OD.FS_ACCEPT ((s.laneMap l).getD k 0), score := s.rdI OD.FS_SCORE ((s.laneMap l).getD k 0), ftag := b.ftag, late := true, void := true, stream := (s.laneMap l).getD k 0 })) } ∧
          (s.clock.running = true → t.clock.cycle = max s.clock.cycle (s.cutoff l b.deadline k)) ∧
          keepsUnits {} l s.lanes t.lanes ∧ keepsCells [OD.LANE_SUBST.key l] s t ∧ keeps [.clock, .fabric, .lanes, .dict] s t))

/-- R262, R275 to R277: training. When the PLLs of a powered quad lock, its receive lanes in PLL go on to CDR and its transmit lanes to
DATA, or to PRBS where a pattern is set; then CDR lock leads to equalisation, whose end, by convergence or by time, leads to FEC lock
where FEC is on, to block lock, or to PRBS; three zero syndromes and a block lock lead on to DELINEATE; and two lane blocks of
consecutive SEQ, delivered in order, to DATA. -/
def Obligations.LaneTrainingGoesOn : Prop :=
  ∀ s : State,
    (∀ q : Fin 16, bit (s.rd OD.LQ_STATUS q) 2 = true → completes (.lanePllLocked q) s fun t =>
      (∀ i, i < 4 → t.rd OD.RX_STATE (4 * q + i) = (if s.rxReady q = true ∧ s.rd OD.RX_STATE (4 * q + i) = 1 then 2
        else s.rd OD.RX_STATE (4 * q + i))) ∧
      (∀ i, i < 4 → t.rd OD.TX_STATE (4 * q + i) = (if s.txReady q = true ∧ s.rd OD.TX_STATE (4 * q + i) = 1 then
        (if (s.lane (4 * q + i)).heldOff = true then 1 else if s.rd OD.PRBS_TX (4 * q + i) ≠ 0 then 8 else 7)
        else s.rd OD.TX_STATE (4 * q + i))) ∧
      (∀ k, t.lane k = { s.lane k with
        fillFrom := (t.lane k).fillFrom, fillSent := (t.lane k).fillSent, fillRun := (t.lane k).fillRun }) ∧
      t.rd OD.LQ_STATUS q = s.rd OD.LQ_STATUS q ||| (b2n (s.rxReady q) + 2 * b2n (s.txReady q)) ∧
      keepsEntries [OD.LQ_STATUS, OD.RX_STATE, OD.TX_STATE] s t ∧ keeps [.dict, .lanes] s t) ∧
    (∀ l : Fin 64,
      (s.rd OD.RX_STATE l = 2 → exec (.cdrLocked l) s = .next (s.wr OD.RX_STATE l 3)) ∧
      (∀ (ctle : Fin 16) (dfe : Word32) (c : Instr), c = .adaptConverged l ctle dfe ∨ c = .adaptTimeout l ctle dfe →
        s.rd OD.RX_STATE l = 3 → completes c s fun t =>
          t.rd OD.RX_STATE l = (if s.rd OD.PRBS_RX l ≠ 0 then 8 else if s.rd OD.RX_FEC (l.val / 4) = 1 then 4 else 5) ∧
          t.rd OD.RX_DFE l = dfe.toNat ∧ t.rd OD.RX_CTLE l = (if s.rd OD.RX_EQ_MODE l = 2 then s.rd OD.RX_CTLE l else ctle.val) ∧
          keepsCells [OD.RX_STATE.key l, OD.RX_DFE.key l, OD.RX_CTLE.key l] s t ∧ keeps [.dict] s t) ∧
      (s.rd OD.RX_STATE l = 4 → 3 ≤ (s.lane l).fecGood → exec (.fecLock l) s = .next (s.wr OD.RX_STATE l 5)) ∧
      (s.rd OD.RX_STATE l = 5 → exec (.blockLock l) s = .next (s.wr OD.RX_STATE l 6)) ∧
      (∀ b1 c1 b2 c2 more, s.rd OD.RX_STATE l = 6 → (s.lane l).held = (b2, c2) :: (b1, c1) :: more →
        leNat (b2.take 2) = (leNat (b1.take 2) + 1) % 2 ^ 16 →
        exec (.delineated l) s = .next ((((s.wr OD.RX_STATE l 7).updLane l fun x => { x with held := [] }).alignDeliver l b1 c1).alignDeliver l b2 c2)))

/-- R250, R251, R262, R276, R279, R280, R330: writes of LANE_EN and of the quad settings that keep the lane rules are recorded and take
effect: an enabled side enters PLL, or goes on where its PLL has locked, a disabled one is OFF, and a setting's side of the quad trains
again; a write that breaks them changes nothing. A lane that meets a fallback condition falls to its state, and where it was in DATA
the loss is counted; one that does not train in 2^27 cycles starts again at CDR. FEC codewords are counted. -/
def Obligations.LaneSettingsAndFallback : Prop :=
  ∀ (s : State) (l : Fin 64),
    (∀ (v : Byte), s.hostMay = true →
      let q := l.val / 4
      let en := v.toNat % 16
      let old := s.rd OD.LANE_EN l
      let locked (i : Nat) : Prop := bit (s.rd OD.LQ_STATUS q) i = true
      (s.laneEnOk l en = true → completes (.laneEnable l v) s fun t =>
        t.rd OD.LANE_EN l = en ∧ t.tape = (s.noteWrites [(OD.LANE_EN, l, en)]).tape ∧
        (bit en 0 = false → t.rd OD.RX_STATE l = 0) ∧ (bit en 1 = false → t.rd OD.TX_STATE l = 0) ∧
        (bit en 0 = true → bit old 0 = true → t.rd OD.RX_STATE l = s.rd OD.RX_STATE l) ∧
        (bit en 0 = true → bit old 0 = false → (locked 0 → t.rd OD.RX_STATE l = 2) ∧ (¬locked 0 → t.rd OD.RX_STATE l = 1)) ∧
        (bit en 1 = true → bit old 1 = false → ¬locked 1 → t.rd OD.TX_STATE l = 1) ∧
        keeps [.lanes, .dict, .power, .tape, .host, .faults] s t) ∧
      (s.laneEnOk l en = false → exec (.laneEnable l v) s = .next s)) ∧
    (∀ (q : Fin 16) (sub : Fin 9) (v : Word32) (e : Entry), quadEntry sub = some e → s.hostMay = true → e.expert = false →
      (s.quadOk e q (v.toNat &&& e.mask) = true → completes (.quadConfigWrite q sub v) s fun t =>
        t.rd e q = v.toNat &&& e.mask ∧ t.tape = (s.noteWrites [(e, q, v.toNat &&& e.mask)]).tape ∧
        (∀ i, i < 4 → (e = OD.RX_CODING ∨ e = OD.RX_RATE ∨ e = OD.RX_FEC ∨ e = OD.PRECODE) →
          bit (s.rd OD.LANE_EN (4 * q + i)) 0 = true → t.rd OD.RX_STATE (4 * q + i) = 1) ∧
        (∀ i, i < 4 → (e = OD.TX_CODING ∨ e = OD.TX_RATE ∨ e = OD.TX_LOCK ∨ e = OD.TX_FEC ∨ e = OD.PRECODE) →
          bit (s.rd OD.LANE_EN (4 * q + i)) 1 = true → t.rd OD.TX_STATE (4 * q + i) = 1) ∧
        keeps [.lanes, .dict, .tape, .host, .faults] s t) ∧
      (s.quadOk e q (v.toNat &&& e.mask) = false → exec (.quadConfigWrite q sub v) s = .next s)) ∧
    (∀ why, s.lossMet l why = true → completes (.laneDown l why) s fun t =>
      t.rd OD.RX_STATE l = (match why with | .phase => 2 | .fec => 4 | .blockLock => 5 | .delineate => 6) ∧
      t.lane l = { s.lane l with lastSeq := none, badRun := 0, fecGood := 0, fecBad := 0, held := [] } ∧
      keepsUnits {} l s.lanes t.lanes ∧
      (s.rd OD.RX_STATE l ≠ 7 → keepsCells [OD.RX_STATE.key l] s t ∧ keeps [.lanes, .dict] s t) ∧
      (s.rd OD.RX_STATE l = 7 → t.rd OD.LOCK_LOSS l = min (s.rd OD.LOCK_LOSS l + 1) (2 ^ 32 - 1) ∧
        keeps [.lanes, .dict, .host, .faults] s t)) ∧
    (s.rd OD.RX_STATE l ≠ 0 → s.rd OD.RX_STATE l ≠ 7 → s.rd OD.RX_STATE l ≠ 8 → completes (.laneTrainFail l) s fun t =>
      t.rd OD.RX_STATE l = 2 ∧ (t.lane l).leftOff = t.clock.cycle ∧
      (s.clock.running = true → t.clock.cycle = max s.clock.cycle ((s.lane l).leftOff + 2 ^ 27)) ∧
      keepsUnits {} l s.lanes t.lanes ∧ keeps [.clock, .fabric, .lanes, .dict, .host, .faults] s t) ∧
    (s.rd OD.RX_FEC (l.val / 4) ≠ 0 → 4 ≤ s.rd OD.RX_STATE l → s.rd OD.RX_STATE l ≠ 8 →
      (∀ n : Fin 16, completes (.fecCodeword l (some n)) s fun t =>
        t.lane l = { s.lane l with fecGood := if n.val = 0 then (s.lane l).fecGood + 1 else 0, fecBad := 0 } ∧
        (5 ≤ s.rd OD.RX_STATE l → t.rd OD.FEC_CORR l = (s.rd OD.FEC_CORR l + n) % 2 ^ 64) ∧ keeps [.lanes, .dict] s t) ∧
      (completes (.fecCodeword l none) s fun t =>
        t.lane l = { s.lane l with fecGood := 0, fecBad := (s.lane l).fecBad + 1 } ∧
        (5 ≤ s.rd OD.RX_STATE l → t.rd OD.FEC_UNCORR l = min (s.rd OD.FEC_UNCORR l + 1) (2 ^ 32 - 1)) ∧ keeps [.lanes, .dict] s t))

/-- R255, R256, R259, R263 to R265, R267 to R269, R273, R276 to R278: the fillers before a lane block are deleted and counted; a lane block of the right length that passes its CRC is held while the lane
delineates and goes to the alignment buffer in DATA; one in error is discarded and marks the tick of its
SEQ. A checker that follows 64 error-free bits of its pattern locks, and then compares and counts; an injection inverts one bit. Deep
records leave sixteen at a time in a burst of KIND 2, with the fillers due, or are discarded while the lane is out of DATA. -/
def Obligations.LaneBlocksPatternsAndDeepBursts : Prop :=
  ∀ (s : State) (l : Fin 64),
    (∀ (st i : Nat) (bytes : List Byte) (fill pin : Nat), s.feeds l = some (st, i) →
      let good : Prop := bytes.length = s.lbBytes st i ∧ (s.rd OD.ST_CRC st = 1 → crcOk bytes = true)
      let cycle := pin + s.rxLatency l
      let a := s.advanceTo cycle
      let a := if fill = 0 then a else a.inc OD.FILL_DEL l fill
      let u := a.updLane l fun x => { x with badRun := 0, lastSeq := some (leNat (bytes.take 2)) }
      (good → s.rd OD.RX_STATE l = 6 → exec (.laneBlockReceived l bytes .none fill pin) s =
        .next (u.updLane l fun x => { x with held := (bytes, cycle) :: x.held.take 1 })) ∧
      (good → s.rd OD.RX_STATE l = 7 → exec (.laneBlockReceived l bytes .none fill pin) s = .next (u.alignDeliver l bytes cycle)) ∧
      (∀ fault, s.rd OD.RX_STATE l = 6 ∨ s.rd OD.RX_STATE l = 7 → fault ≠ .none ∨ bytes.length ≠ s.lbBytes st i →
        completes (.laneBlockReceived l bytes fault fill pin) s fun t =>
          let q := (s.lane l).errSeq bytes
          t.lane l = { s.lane l with badRun := (s.lane l).badRun + 1, lastSeq := some q, held := [] } ∧
          q ∈ (t.ing st).checkFail ∧ (t.ing st).align = (s.ing st).align ∧ keepsUnits {} l s.lanes t.lanes ∧
          keepsCells (if fault = .code then [OD.CODE_ERR.key l, OD.FILL_DEL.key l] else [OD.FILL_DEL.key l]) s t ∧
          keeps [.clock, .fabric, .lanes, .dict, .ingest] s t)) ∧
    (s.rd OD.RX_STATE l = 8 →
      (∀ n, s.rd OD.PRBS_LOCK l = 0 → (prbsPoly (s.rd OD.PRBS_RX l)).1 ≤ (s.lane l).chk.length → (s.lane l).chk.length ≤ 31 →
        (s.lane l).chkRun + n = 64 → 0 < n →
        completes (.prbsLock l (prbsRun (s.rd OD.PRBS_RX l) n (s.lane l).chk)) s fun t =>
          t.rd OD.PRBS_LOCK l = 1 ∧ keepsUnits {} l s.lanes t.lanes ∧ keepsCells [OD.PRBS_LOCK.key l] s t ∧ keeps [.lanes, .dict] s t) ∧
      (∀ b : Bool, s.rd OD.PRBS_LOCK l = 1 → completes (.prbsLock l [b]) s fun t =>
        t.rd OD.PRBS_BITS l = (s.inc OD.PRBS_BITS l).rd OD.PRBS_BITS l ∧
        t.rd OD.PRBS_ERR l = (if b = prbsNext (s.rd OD.PRBS_RX l) (s.lane l).chk then s.rd OD.PRBS_ERR l
          else (s.inc OD.PRBS_ERR l).rd OD.PRBS_ERR l) ∧
        keepsUnits {} l s.lanes t.lanes ∧ keepsCells [OD.PRBS_BITS.key l, OD.PRBS_ERR.key l] s t ∧ keeps [.lanes, .dict] s t)) ∧
    (∀ m, m = 1 ∨ m = 2 → s.rd OD.INJ_MODE l = m → s.rd OD.TX_STATE l = 7 ∨ s.rd OD.TX_STATE l = 8 →
      let c : Instr := if m = 1 then .injFire l else .injPeriodic l
      (m = 1 → s.hostMay = true ∧ s.rd OD.EXPERT_EN = 1) →
      (m = 2 → 2 ^ s.rd OD.INJ_PERIOD l ≤ s.unitsIn l (s.clock.fine - (s.lane l).injAt)) → completes c s fun t =>
        t.lane l = { s.lane l with
          injected := (s.lane l).injected + 1, injAt := if m = 2 then s.clock.fine else (s.lane l).injAt } ∧ keepsUnits {} l s.lanes t.lanes ∧
        t.tape = (if m = 1 then (s.noteWrites [(OD.INJ_FIRE, l, 1)]).tape else s.tape) ∧ keeps [.lanes, .tape] s t) ∧
    (s.rd OD.TX_KIND l = 2 ∨ s.rd OD.TX_KIND l = 4 → (s.lane l).deepQ ≠ [] →
      let q := (s.lane l).deepQ
      let x := s.lane l
      (s.rd OD.TX_STATE l = 7 → completes (.deepBurst l) s fun t =>
        t.lane l = { x with
          wire := burstBytes 2 (min 16 q.length) l x.bseq 0 ((q.take 16).flatMap fun r => leBytes 16 r.toNat) (s.txBlocks l)
          bseq := (x.bseq + 1) % 256
          deepQ := q.drop 16
          fillFrom := (t.lane l).fillFrom, fillSent := (t.lane l).fillSent, fillRun := (t.lane l).fillRun } ∧
        (t.lane l).fillRun < 4096 ∧ keepsUnits {} l s.lanes t.lanes ∧ keepsCells [OD.FILL_INS.key l] s t ∧ keeps [.lanes, .dict] s t) ∧
      (s.rd OD.TX_STATE l ≠ 7 → completes (.deepBurst l) s fun t =>
        t.lane l = { s.lane l with deepQ := [] } ∧ keepsUnits {} l s.lanes t.lanes ∧ keepsCells [OD.TX_DISCARD.key l] s t ∧
        keeps [.lanes, .dict] s t))

/-- R299, R300, R301, R303, R310: arming takes the next segment in ring order when it is FREE, with the serial SEG_NEXT, at the base and
length of the layout; when it is not, capture stops with reason 3 and the overflow is counted. Stopping frees a segment in FILL or ARMED
and closes one in POST with TRUNC. The oldest copied frame is written at its ring position once no record of a tick POST_EFF before it is
outstanding. READY segments up to a serial number are freed. -/
def Obligations.CaptureSegmentsFillStopAndFree : Prop :=
  ∀ (s : State) (st : Fin 64),
    let c := s.cap st
    let next := s.seg st c.nextSlot
    let n := s.rd OD.SEG_COUNT st
    let armed (t : State) : Prop :=
      (next.status = 0 → (t.seg st c.nextSlot).status = 1 ∧ (t.seg st c.nextSlot).segno = s.rd OD.SEG_NEXT st ∧
        (t.seg st c.nextSlot).armTick = s.nextTick ∧
        (t.seg st c.nextSlot).base = s.rd OD.RING_BASE st + c.nextSlot * s.rd OD.SEG_STRIDE st ∧
        (t.seg st c.nextSlot).w = s.rd OD.CAPT_PRE st + s.rd OD.CAPT_POST_EFF st ∧
        (t.cap st).st = (if s.rd OD.CAPT_PRE st = 0 then 2 else 1) ∧ (t.cap st).cur = c.nextSlot ∧
        (t.cap st).nextSlot = (c.nextSlot + 1) % n ∧ (t.cap st).lost = 0 ∧
        t.rd OD.SEG_NEXT st = (s.rd OD.SEG_NEXT st + 1) % 2 ^ 32 ∧ keepsUnits {} c.nextSlot c.segs (t.cap st).segs ∧
        keepsCells [OD.SEG_NEXT.key st] s t ∧ keeps [.capt, .dict, .tape] s t) ∧
      (next.status ≠ 0 → t.cap st = { c with st := 4, reason := 3, ovfNext := true, queue := [] } ∧
        t.rd OD.CAPT_OVF st = min (s.rd OD.CAPT_OVF st + 1) (2 ^ 32 - 1) ∧ keeps [.capt, .dict, .tape, .host, .faults] s t) ∧
      keepsUnits {} st s.capt t.capt
    (s.hostMay = true → n ≠ 0 → c.st = 0 ∨ c.st = 4 → completes (.captArm st) s fun t =>
      armed t ∧ t.tape = (s.noteWrites [(OD.CAPT_CMD, st, 1)]).tape) ∧
    (1 ≤ c.st ∧ c.st ≤ 3 → exec (.captArm st) s = .next s) ∧
    (s.rd OD.OVF_REARM st = 1 → c.st = 4 → c.reason = 2 ∨ c.reason = 3 → c.queue = [] → next.status = 0 → n ≠ 0 →
      completes (.ovfRearm st) s fun t => armed t ∧ t.tape = s.tape) ∧
    (s.hostMay = true → c.trigs = [] → completes (.captStop st) s fun t =>
      (t.cap st).st = 4 ∧ (t.cap st).reason = 1 ∧ (t.cap st).queue = [] ∧ keepsUnits {} st s.capt t.capt ∧
      (c.st = 0 ∨ c.st = 4 → (t.cap st).segs = c.segs) ∧
      (c.st = 1 ∨ c.st = 2 → t.seg st c.cur = {} ∧ keepsUnits {} c.cur c.segs (t.cap st).segs) ∧
      (c.st ≠ 3 → keeps [.capt, .tape] s t) ∧
      (c.st = 3 → s.gated st = false → keepsUnits {} c.cur c.segs (t.cap st).segs ∧ (t.seg st c.cur).status = 4 ∧
        (t.seg st c.cur).trunc = true ∧ (t.seg st c.cur).first = ((s.seg st c.cur).trig.elim 0 Prod.fst) - s.rd OD.CAPT_PRE st ∧
        (t.seg st c.cur).first + (t.seg st c.cur).nticks = max (c.seen - 1 + 1) (t.seg st c.cur).first ∧
        keeps [.capt, .tape, .hbm, .lanes] s t)) ∧
    (∀ (f : CapFrame) (rest : List CapFrame), c.queue = f :: rest →
      ((s.dec st).flights.any fun x => decide (x.tick + s.rd OD.CAPT_POST_EFF st ≤ f.tick)) = false →
      let g := s.seg st c.cur
      let p := g.pos f.tick
      let frameAt := g.base + 128 + p * g.fb
      let bitAt := g.base + 128 + dataArea g.w g.fb + p / 8
      (c.st = 0 ∨ c.st = 4 ∨ f.tick < g.armTick → exec (.captureFrameWrite st) s =
        .next (s.updCap st fun c => { c with queue := rest, seen := f.tick + 1 })) ∧
      (1 ≤ c.st → c.st ≤ 3 → g.armTick ≤ f.tick → p < g.w → f.bytes.length ≤ g.fb →
        (c.st = 3 → f.tick + 1 < g.trig.elim 0 Prod.fst + s.rd OD.CAPT_POST_EFF st) →
        completes (.captureFrameWrite st) s fun t =>
          t.cap st = { c with queue := rest, seen := f.tick + 1, st := if c.st = 1 ∧ g.armTick + s.rd OD.CAPT_PRE st ≤ f.tick then 2 else c.st } ∧
          (∀ i, i < g.fb → t.hbm.read (frameAt + i) = f.bytes.getD i 0) ∧
          bit (t.hbm.read bitAt).toNat (p % 8) = f.void ∧
          (∀ i, i < 8 → i ≠ p % 8 → bit (t.hbm.read bitAt).toNat i = bit (s.hbm.read bitAt).toNat i) ∧
          (∀ a, (a < frameAt ∨ frameAt + g.fb ≤ a) → a ≠ bitAt → t.hbm.read a = s.hbm.read a) ∧
          keepsUnits {} st s.capt t.capt ∧ keeps [.capt, .hbm] s t)) ∧
    (∀ segno : Word32, s.hostMay = true → completes (.captFreeTo st segno) s fun t =>
      (∀ k, t.seg st k = (if k ∈ s.slotsIn st 4 ∧ ((s.seg st k).segno = segno.toNat ∨ serialGreater segno.toNat (s.seg st k).segno = true)
        then {} else s.seg st k)) ∧
      keepsUnits {} st s.capt t.capt ∧ t.tape = (s.noteWrites [(OD.CAPT_FREE_TO, st, segno.toNat)]).tape ∧
      keeps [.capt, .lanes, .tape] s t)

/-- R304 to R309: the mask test of the oldest completed segment marks it tested, and failed where a value lies outside the table's limits
or an uncorrected read covers one, and MASK_ACT decides what becomes of it; table points are
written in turn, and not while a stream names the table; the deep gate's timeout settles a segment by RO_DEFAULT; and a READY segment
leaves chunk by chunk, with the fillers due, the last chunk freeing it. -/
def Obligations.MaskTestGateAndReadout : Prop :=
  ∀ s : State,
    (∀ (st : Fin 64) (slot : Nat) (more : List Nat) (ue : Option Nat) (ce : Bool), s.slotsIn st 2 = slot :: more → s.gated st = false →
      let g := s.seg st slot
      let run := s.maskRun st slot g
      let failed : Prop := ue ≠ none ∨ ∃ v ∈ run, s.violates st v.1 v.2 = true
      completes (.maskTestDone st ue ce) s fun t =>
        t.rd OD.HBM_CE = (if ce then (s.inc OD.HBM_CE 0).rd OD.HBM_CE else s.rd OD.HBM_CE) ∧
        (failed → t.rd OD.MASK_FAILS st = min (s.rd OD.MASK_FAILS st + 1) (2 ^ 32 - 1)) ∧
        (¬failed → t.rd OD.MASK_FAILS st = s.rd OD.MASK_FAILS st ∧ keeps [.capt, .dict, .lanes, .hbm] s t) ∧
        (failed → s.rd OD.MASK_ACT st ≠ 1 → (t.seg st slot).status = 4 ∧ (t.seg st slot).tested = true ∧ (t.seg st slot).failed = true ∧
          (t.seg st slot).violCh = s.rd OD.MASK_CH st) ∧
        (failed → s.rd OD.MASK_ACT st = 1 → (t.cap st).st = 4 ∧ (t.cap st).reason = 4) ∧
        (¬failed → s.rd OD.MASK_ACT st ≠ 2 → t.seg st slot = { g with status := 4, tested := true, failed := false, viol := 0, violFirst := 0, violCh := 0 } ∧
          keepsUnits {} slot (s.cap st).segs (t.cap st).segs) ∧
        (¬failed → s.rd OD.MASK_ACT st = 2 → t.seg st slot = {} ∧ keepsUnits {} slot (s.cap st).segs (t.cap st).segs ∧
          t.rd OD.SEG_DISCARD st = min (s.rd OD.SEG_DISCARD st + 1) (2 ^ 32 - 1)) ∧
        keepsUnits {} st s.capt t.capt) ∧
    (∀ hi : Word32,
      let tab := s.rd OD.MASK_TAB_SEL
      let i := s.rd OD.MASK_IDX tab
      (s.hostMay = true → s.maskNamed tab = false → i < 4096 → completes (.maskPointWrite hi) s fun t =>
        SMap.get (0, 0) t.masks (4096 * tab + i) = (s.rdI OD.MASK_LO tab, hi.toInt) ∧
        keepsUnits (0, 0) (4096 * tab + i) s.masks t.masks ∧ t.rd OD.MASK_IDX tab = i + 1 ∧ t.rdI OD.MASK_HI tab = hi.toInt ∧
        keepsCells [OD.MASK_HI.key tab, OD.MASK_IDX.key tab] s t ∧
        t.tape = (s.noteWrites [(OD.MASK_HI, tab, hi.toNat)]).tape ∧ keeps [.masks, .dict, .tape] s t) ∧
      (s.maskNamed tab = true ∨ 4096 ≤ i → exec (.maskPointWrite hi) s = .next s)) ∧
    (∀ (st : Fin 64) (slot : Nat) (more : List Nat), s.slotsIn st 3 = slot :: more →
      (s.nextTick < s.gateEnd st (s.seg st slot).last → exec (.gateTimeout st) s = .next s) ∧
      (s.gateEnd st (s.seg st slot).last ≤ s.nextTick → completes (.gateTimeout st) s fun t =>
        (s.rd OD.RO_DEFAULT st = 1 → t.seg st slot = { s.seg st slot with status := 4, gateTimeout := true } ∧
          keeps [.capt, .lanes, .hbm] s t) ∧
        (s.rd OD.RO_DEFAULT st ≠ 1 → t.seg st slot = {} ∧ keeps [.capt, .lanes] s t) ∧
        keepsUnits {} slot (s.cap st).segs (t.cap st).segs ∧ keepsUnits {} st s.capt t.capt)) ∧
    (∀ (l : Fin 64) (st slot : Nat), s.rd OD.TX_KIND l = 3 ∨ s.rd OD.TX_KIND l = 4 → s.roNext l = some (st, slot) →
      let g := s.seg st slot
      let x := s.lane l
      let size := segStride g.w g.fb
      let ofs := x.chunk * s.rd OD.RO_CHUNK
      let n := min (s.rd OD.RO_CHUNK) (size - ofs)
      let isLast := decide (size ≤ ofs + n)
      let desc := st + b2n (decide (x.chunk = 0)) * 2 ^ 6 + b2n isLast * 2 ^ 7 + x.chunk % 2 ^ 23 * 2 ^ 8 + g.segno * 2 ^ 32
      let pay := leBytes 8 desc ++ (List.range n).map fun i => s.segByte st slot g (ofs + i)
      (s.rd OD.TX_STATE l = 7 → completes (.readoutBurst l .ok) s fun t =>
        (t.lane l).wire = burstBytes 3 (n / 64) l x.bseq (g.segno % 2 ^ 16) pay (s.txBlocks l) ∧
        (t.lane l).bseq = (x.bseq + 1) % 256 ∧
        (isLast = false → t.capt = s.capt ∧ (t.lane l).chunk = x.chunk + 1 ∧ (t.lane l).readoutQ = (st, slot) :: x.readoutQ.erase (st, slot) ∧
          keepsUnits {} l s.lanes t.lanes ∧ keeps [.lanes, .dict] s t) ∧
        (isLast = true → t.seg st slot = {} ∧ keepsUnits {} slot (s.cap st).segs (t.cap st).segs ∧ keepsUnits {} st s.capt t.capt ∧
          (s.rd OD.RO_LANE st = l → (t.lane l).chunk = 0 ∧ (t.lane l).readoutQ = x.readoutQ.erase (st, slot)) ∧
          keeps [.lanes, .capt, .dict] s t) ∧
        keepsCells [OD.FILL_INS.key l] s t) ∧
      (s.rd OD.TX_STATE l ≠ 7 → completes (.readoutBurst l .ok) s fun t =>
        t.seg st slot = {} ∧ keepsUnits {} st s.capt t.capt ∧ keepsCells [OD.TX_DISCARD.key l, OD.SEG_DISCARD.key st] s t ∧
        keeps [.capt, .lanes, .dict] s t))

/-- R193, R200, R201, R205 to R208, R211 to R216: the oldest handoff entry of a stream goes to its place in the history ring with its
DRONE48, with the block's summary at a block's last entry, and where it is marked joins the candidate list of the deep slot of its tick,
or the work of the slot that serves that list; while an activation drains it counts as discarded. A refresh window comes on its grid, and
the temperatures decide its rate;
HIST_CLEAR sets VALID_FROM; a recall request of a loaded core waits, and starts once its tick is written: it takes the K best of the
entries its blocks select that are present and carry no V, ties to the later; its response is K header flits, the values in rank order,
and the scale flits, and leaves on the core's response and value routes. -/
def Obligations.HistoryWriterAndRecall : Prop :=
  ∀ s : State,
    (∀ (st : Fin 64) (h : Handoff) (q : List Handoff) (k : Nat), s.ring st = h :: q → s.rlog st = some k →
      let n := h.bits.toNat
      let e := n - bits n 400 48 * 2 ^ 400 + h.tick % 2 ^ 48 * 2 ^ 400
      let at_ := s.histAddr st h.tick
      let sum := s.summaryAddr st h.tick
      let marked : Prop := h.bit 395 = true ∧ s.deepOn = true
      let cur := s.slotOf s.deep.startTick
      let item : Item := { tick := h.tick, stream := st, kind := 0, score := toSigned 16 (bits n 448 16) }
      let u : State := { s with hbm := s.hbm.writes at_ (leBytes 64 e), deep.writtenTo := SMap.set 0 s.deep.writtenTo st (h.tick + 1) }
      completes (.handoffDrain st) s fun t =>
        t.ring st = q ∧ t.rd OD.HIST_WRITTEN st = (s.rd OD.HIST_WRITTEN st + 1) % 2 ^ 64 ∧
        SMap.get 0 t.deep.writtenTo st = h.tick + 1 ∧
        (h.tick % 1024 ≠ 1023 → t.hbm = u.hbm) ∧
        (h.tick % 1024 = 1023 → t.hbm = u.hbm.writes sum (u.summaryOf st h.tick)) ∧
        (¬marked → t.deep.cands = s.deep.cands ∧ t.deep.work = s.deep.work) ∧
        (marked → s.act.admitOn = true → s.slotOf h.tick = cur → s.deep.candCount < s.deepCfg.candCap →
          t.deep.cands = s.deep.cands ++ [item] ∧ t.deep.candCount = s.deep.candCount + 1 ∧ t.rd OD.CAND_LOST st = s.rd OD.CAND_LOST st) ∧
        (marked → s.act.admitOn = true → s.slotOf h.tick = cur → s.deepCfg.candCap ≤ s.deep.candCount →
          t.deep.cands = s.deep.cands ∧ t.rd OD.CAND_LOST st = min (s.rd OD.CAND_LOST st + 1) (2 ^ 32 - 1)) ∧
        (marked → s.act.admitOn = true → s.slotOf h.tick + 1 = cur → s.deep.prevCount < s.deepCfg.candCap → s.slotSkipped = false →
          s.strict = false → s.tape.replaying = false → t.deep.work = s.deep.work ++ [item] ∧ t.deep.prevCount = s.deep.prevCount + 1) ∧
        (marked → s.act.admitOn = false → t.deep.cands = s.deep.cands ∧ t.deep.work = s.deep.work ∧
          t.rd OD.DEEP_DAMP_DISCARD = (s.inc OD.DEEP_DAMP_DISCARD 0).rd OD.DEEP_DAMP_DISCARD) ∧
        keepsUnits [] st s.deep.rings t.deep.rings ∧
        (¬marked ∨ s.act.admitOn = false ∨ s.slotOf h.tick + 1 ≠ cur →
          keepsCells [OD.HIST_WRITTEN.key st, OD.CAND_LOST.key st, OD.DEEP_DAMP_DISCARD.key 0] s t ∧
          keeps [.deep, .dict, .hbm, .fabric] s t)) ∧
    (∀ (t0 t1 : Byte) (ce re : Nat), completes (.refreshWindow t0 t1 ce re) s fun t =>
      let hot := decide (85 < t0.toNat ∨ 85 < t1.toNat)
      t.rd OD.HBM_TEMP = t0.toNat + 256 * t1.toNat ∧
      t.rd OD.HBM_CE = (if ce = 0 then s.rd OD.HBM_CE else (s.inc OD.HBM_CE 0 ce).rd OD.HBM_CE) ∧
      t.rd OD.HBM_REISSUE = (if re = 0 then s.rd OD.HBM_REISSUE else (s.inc OD.HBM_REISSUE 0 re).rd OD.HBM_REISSUE) ∧
      (s.clock.running = true → t.clock.cycle = s.nextWindow) ∧
      t.deep = { s.deep with hot := hot, lastWindow := t.clock.cycle, refresh := ((if hot then 2 else 1) * 400, min 400 s.mhz) } ∧
      keepsCells [OD.HBM_TEMP.key 0, OD.HBM_CE.key 0, OD.HBM_REISSUE.key 0] s t ∧ keeps [.clock, .fabric, .deep, .dict] s t) ∧
    (s.hostMay = true → completes .histClear s fun t =>
      (∀ st, st < 64 → t.rd OD.VALID_FROM st = s.nextTick) ∧ t.tape = (s.noteWrites [(OD.HIST_CLEAR, 0, 1)]).tape ∧
      keepsEntries [OD.VALID_FROM] s t ∧ keeps [.dict, .tape] s t) ∧
    (∀ (core : Nat) (f0 q0 q1 : Word64), (s.core core).loaded = true → completes (.recallRequest core f0 q0 q1) s fun t =>
      ∃ r : Recall, t = { s with deep.requests := s.deep.requests ++ [r] } ∧ r.core = core ∧ r.stream = bits f0.toNat 0 6 ∧
        r.flat = bit f0.toNat 6 ∧ r.k = bits f0.toNat 7 5 + 1 ∧ r.n48 = bits f0.toNat 16 48 ∧ r.q.length = 16 ∧
        (∀ j, j < 8 → laneOf r.q j = toSigned 8 (bits q0.toNat (8 * j) 8)) ∧
        (∀ j, j < 8 → laneOf r.q (8 + j) = toSigned 8 (bits q1.toNat (8 * j) 8))) ∧
    (∀ (ue : List Nat) (ce : Nat) (r : Recall) (rest : List Recall), s.deep.requests = r :: rest →
      let n := s.tickOf48 r.n48
      let ts := s.recallTicks r n ue
      let isBad (x : Nat) : Bool := ue.contains (s.histAddr r.stream x) || !s.present r.stream x
      (SMap.get 0 s.deep.writtenTo r.stream ≤ n → exec (.recallStart ue ce) s = .next s) ∧
      (n < SMap.get 0 s.deep.writtenTo r.stream → completes (.recallStart ue ce) s fun t =>
        ∃ hs : List (Int × Nat),
          hs.Perm ((ts.filter fun x => !isBad x && !bit (s.histEntry r.stream x) 392).map fun x => (dot16 r.q (s.histEntry r.stream x), x)) ∧
          hs.Pairwise (fun x y => better y x = false) ∧
          t.deep = { s.deep with requests := rest, results := s.deep.results ++ [(r, (hs.take r.k).map (s.hitOf r.stream n), ts.any isBad)] } ∧
          t.rd OD.HBM_CE = (if ce = 0 then s.rd OD.HBM_CE else (s.inc OD.HBM_CE 0 ce).rd OD.HBM_CE) ∧
          t.rd OD.RECALL_CNT r.stream = (s.rd OD.RECALL_CNT r.stream + 1) % 2 ^ 64 ∧
          t.rd OD.HIST_STALE r.stream = min (s.rd OD.HIST_STALE r.stream + ts.countP isBad) (2 ^ 32 - 1) ∧
          keeps [.deep, .dict, .host, .faults] s t)) ∧
    (∀ (r : Recall) (hits : List RecallHit) (stale : Bool) (rest : List (Recall × List RecallHit × Bool)),
      s.deep.results = (r, hits, stale) :: rest → completes .recallResponse s fun t =>
        let hit (j : Nat) : RecallHit := hits.getD j { score := 0, age := 0, vscale := 0, flags := 1, value := 0 }
        (∀ j, j < r.k → t.deep.response.getD j 0 = hitHeader (hit j) stale) ∧
        (∀ j m, j < r.k → m < 4 → (t.deep.response.getD (r.k + 4 * j + m) 0).toNat = bits (hit j).value.toNat (64 * m) 64) ∧
        (∀ j, j < r.k → bits (t.deep.response.getD (5 * r.k + j / 8) 0).toNat (8 * (j % 8)) 8 = (hit j).vscale % 256) ∧
        t.deep.response.length = 5 * r.k + (r.k + 7) / 8 ∧
        (let route := s.recallRoute r.core
         let k1 := hKey 4 0 route.lane false
         let k2 := hKey 4 0 route.vlane false
         let pay (u : State) (k : Nat) : List Word64 := (SMap.get [] u.fabric.hubQ k).map fun x => x.flit.payload
         (k1 = k2 → pay t k1 = pay s k1 ++ t.deep.response) ∧
         (k1 ≠ k2 → pay t k1 = pay s k1 ++ t.deep.response.take r.k ∧ pay t k2 = pay s k2 ++ t.deep.response.drop r.k) ∧
         (∀ k, k ≠ k1 → k ≠ k2 → SMap.get [] t.fabric.hubQ k = SMap.get [] s.fabric.hubQ k)) ∧
        t.fabric = { s.fabric with hubQ := t.fabric.hubQ } ∧
        t.deep = { s.deep with results := rest, response := t.deep.response } ∧ keeps [.deep, .fabric] s t)

/-- R199, R203, R215 to R217, R220 to R222, R457: a deep slot begins at its boundary, or while admission is stopped only ends: the work of the slot is the periodic runs due and,
in normal mode, the candidates of the slot before, or in STRICT the spill queue and the candidates in order of tick and stream up to the
budget. In STRICT items start in the order of the work; in normal mode none that comes before the one started waits. A result's record
carries the item's tick, stream and kind, the flags and the payload, and leaves at once, or in STRICT is held; the held records of the
earliest release time leave in order of stream and tick, one a cycle. -/
def Obligations.DeepSlotsServeItemsAndDeliver : Prop :=
  ∀ s : State,
    (let x := s.nextTick
     let due : Prop := s.act.tr ≤ x ∧ (x - s.act.tr) % s.dslotTicks = 0 ∧ ¬(s.deep.active = true ∧ s.deep.startTick = x)
     (s.deepOn = false ∨ s.faults.safe = true ∨ ¬due ∨ (s.act.admitOn = false ∧ s.deep.active = false) →
       exec .deepSlotBoundary s = .next s) ∧
     (s.deepOn = true → s.act.admitOn = false → s.faults.safe = false → s.deep.active = true → due →
       completes .deepSlotBoundary s fun t => t.deep.active = false ∧ t.deep.work = [] ∧ t.deep.serving = none ∧
         t.deep.startTick = s.deep.startTick ∧ t.rd OD.DSLOT_COUNT = s.rd OD.DSLOT_COUNT) ∧
     (s.deepOn = true → s.act.admitOn = true → s.faults.safe = false → due → completes .deepSlotBoundary s fun t =>
       t.deep.active = true ∧ t.deep.startTick = x ∧ t.deep.start = s.nextBoundary ∧ t.deep.cands = [] ∧ t.deep.candCount = 0 ∧
       t.rd OD.DSLOT_COUNT = (s.rd OD.DSLOT_COUNT + 1) % 2 ^ 64 ∧
       (s.rd OD.THROTTLE_LVL = 0 → s.tape.replaying = false → s.strict = false →
         t.deep.work = s.periodics (s.slotOf x) ++ s.deep.cands) ∧
       (s.rd OD.THROTTLE_LVL = 0 → s.tape.replaying = false → s.strict = true → ∃ fresh : List Item, fresh.Perm s.deep.cands ∧
         fresh.Pairwise (fun a b => a.key ≤ b.key) ∧
         t.deep.work = s.periodics (s.slotOf x) ++ (s.deep.spill ++ fresh).take s.deepCfg.candBudget))) ∧
    (s.deep.serving = none →
      (∀ (i : Item) (more : List Item), s.strict = true → s.deep.work = i :: more → completes .deepItemStart s fun t =>
        t.deep = { s.deep with serving := some i, work := more, served := if i.kind = 0 then s.deep.served ++ [(i.stream, i.tick)] else s.deep.served } ∧
        keeps [.deep] s t) ∧
      (s.strict = false → s.deep.work ≠ [] → s.now + s.deepCfg.candCyc ≤ s.deep.start + s.rd OD.DSLOT_CYC →
        completes .deepItemStart s fun t => ∃ i ∈ s.deep.work, (∀ y ∈ s.deep.work, normalBefore y i = false) ∧
          t.deep = { s.deep with serving := some i, work := s.deep.work.erase i, served := if i.kind = 0 then s.deep.served ++ [(i.stream, i.tick)] else s.deep.served } ∧
          keeps [.deep] s t)) ∧
    (∀ (i : Item) (payload : Word64) (sat hist reset repair void : Bool), s.deep.serving = some i →
      completes (.deepResult payload sat hist reset repair void) s fun t =>
        ∃ w : BitVec 128,
          (let n := w.toNat
           let p := payload.toNat
           let v := void || s.deepRepair i.stream
           bits n 0 48 = i.tick % 2 ^ 48 ∧ bits n 48 6 = i.stream % 64 ∧ bits n 54 2 = i.kind % 4 ∧ bit n 56 = v ∧ bit n 57 = sat ∧
           bit n 58 = hist ∧ bit n 59 = decide (i.delay ≠ 0) ∧ bit n 60 = (reset || s.zOf i.stream) ∧ bit n 61 = repair ∧
           (v = false → bits n 64 16 = bits p 0 16 ∧ bits n 80 8 = bits p 16 8 ∧ bits n 88 8 = bits p 24 8 ∧ bits n 96 2 = bits p 32 2) ∧
           (v = true → bits n 64 16 = 0 ∧ bits n 80 8 = 0 ∧ bits n 88 8 = 255 ∧ bits n 96 2 = 0 ∧ bits n 104 4 = 4) ∧
           bits n 98 6 = min i.delay 63) ∧
          t.deep.serving = none ∧
          (s.strict = true → t = { s with deep.serving := none, deep.held := s.deep.held ++ [(s.strictDue, w)] }) ∧
          (s.strict = false → t.deep.lastResult = some w ∧ t.deep.held = s.deep.held ∧
            (bit w.toNat 56 = true → t.capt = s.capt ∧ t.groups = s.groups ∧ t.hbm = s.hbm) ∧
            (∀ l, l < 64 → s.rd OD.TX_KIND l = 2 ∨ s.rd OD.TX_KIND l = 4 → (s.lane l).deepQ.length < 1024 → bit w.toNat 56 = true →
              (t.lane l).deepQ = (s.lane l).deepQ ++ [w]) ∧
            keeps [.deep, .dict, .host, .faults, .lanes, .capt, .hbm, .groups] s t)) ∧
    (∀ due, (∃ x ∈ s.deep.held, x.1 = due) → (∀ x ∈ s.deep.held, due ≤ x.1) → completes .deepStrictRelease s fun t =>
      t.deep.held = s.deep.held.filter (fun x => decide (x.1 ≠ due)) ∧
      (∃ x ∈ s.deep.held, x.1 = due ∧ t.deep.lastResult = some x.2 ∧ ∀ y ∈ s.deep.held, y.1 = due → strictKey y.2 ≤ strictKey x.2) ∧
      (s.clock.running = true →
        t.clock.cycle = max s.clock.cycle (due + (s.deep.held.countP fun x => decide (x.1 = due)) - 1)) ∧
      keeps [.clock, .fabric, .deep, .dict, .host, .faults, .lanes, .capt, .hbm, .groups] s t)

/-- R231 to R234, R241 to R246: cutting a period takes the samples of its labels whose history entries are present and carry none of V, S
and R, sends them to the group's adaptation cores, and counts the others; the swap at a tick of the grid arms every core of the group with the swap tick and counts, and with a
rollback returns the masters to the baseline and records the cause; once every core has passed the swap the banks are released. A
rollback command notes cause 5. -/
def Obligations.AdaptationPeriodsAndSwaps : Prop :=
  ∀ (s : State) (g : Fin 8), g.val < s.groupCount → s.deepOn = true →
    let x := s.grp g
    let j := x.cutTo
    let cfg := s.adaptCfg g
    let others (t : State) : Prop := keepsUnits {} g s.groups t.groups
    (s.nextTick < s.periodTick g j 2 → exec (.labelCutoff g) s = .next s) ∧
    (s.periodTick g j 2 ≤ s.nextTick → s.tape.replaying = false → completes (.labelCutoff g) s fun t =>
      let set := SMap.get [] x.sets j
      (∀ y, y ∈ (t.grp g).samples ↔ ∃ l ∈ set, s.present l.stream l.tick = true ∧ bits (s.histEntry l.stream l.tick) 392 3 = 0 ∧
        y = { label := l.label, value := BitVec.ofNat 256 (bits (s.histEntry l.stream l.tick) 128 256), vscale := bits (s.histEntry l.stream l.tick) 384 8 }) ∧
      (t.grp g).cutTo = j + 1 ∧ SMap.get [] (t.grp g).sets j = [] ∧ keepsUnits [] j x.sets (t.grp g).sets ∧
      t.rd OD.LABEL_SKIP g = min (s.rd OD.LABEL_SKIP g + (set.length - (t.grp g).samples.length)) (2 ^ 32 - 1) ∧
      (SMap.get {} (t.grp g).stats j).samples = (t.grp g).samples.length ∧
      others t ∧ keepsCells [OD.LABEL_SKIP.key g] s t ∧ t.fabric = { s.fabric with hubQ := t.fabric.hubQ } ∧
      (cfg.feed = none → t.fabric = s.fabric) ∧
      (∀ lane label, cfg.feed = some (lane, label) → (SMap.get [] t.fabric.hubQ (hKey 4 3 lane false)).length =
        (SMap.get [] s.fabric.hubQ (hKey 4 3 lane false)).length + 5 * (t.grp g).samples.length) ∧
      keeps [.groups, .dict, .tape, .fabric] s t) ∧
    (s.faults.safe = false → s.groupStuck g = false → x.armed = none →
      (∃ k, s.nextTick = s.act.tr + (k * cfg.period + cfg.period + 3) * s.dslotTicks) →
      (∀ k, x.ready = some k → x.cause = none → s.rd OD.ADAPT_ENABLE = 1 → completes (.adaptSwap g) s fun t =>
        (t.grp g).armed = some s.nextTick ∧ (t.grp g).ready = none ∧ (t.grp g).cause = none ∧ (t.grp g).masters = x.masters ∧
        (∀ p ∈ s.groupCores g, (t.core p).arm = some (BitVec.ofNat 16 s.nextTick)) ∧
        t.rd OD.GRP_SWAPS g = (s.rd OD.GRP_SWAPS g + 1) % 2 ^ 64 ∧ others t ∧
        keepsCells [OD.GRP_SWAPS.key g, OD.LAST_CRC.key g] s t ∧ keeps [.groups, .fabric, .dict, .audit, .tape] s t) ∧
      (∀ c, x.cause = some c → completes (.adaptSwap g) s fun t =>
        (t.grp g).armed = some s.nextTick ∧ (t.grp g).ready = none ∧ (t.grp g).cause = none ∧
        (∀ idx, t.master g idx = cfg.base idx) ∧ (t.grp g).m = [] ∧ (t.grp g).v = [] ∧
        t.rd OD.ROLLBACK_COUNT g = min (s.rd OD.ROLLBACK_COUNT g + 1) (2 ^ 32 - 1) ∧
        t.rd OD.LAST_ROLLBACK g = c + s.nextTick % 2 ^ 48 * 2 ^ 8 ∧ t.rd OD.GRP_SWAPS g = (s.rd OD.GRP_SWAPS g + 1) % 2 ^ 64 ∧
        others t ∧ keeps [.groups, .fabric, .dict, .audit, .tape, .host, .faults] s t)) ∧
    (x.armed ≠ none → (∀ p ∈ s.groupCores g, (s.core p).pastSwap = true) → completes (.adaptBankRelease g) s fun t =>
      (t.grp g).armed = none ∧ (∀ k, x.unwritten = some k → (t.grp g).ready = some k) ∧ (t.grp g).unwritten = none ∧
      (∀ p ∈ s.groupCores g, (s.core p).arm ≠ none → (t.core p).arm = none ∧ (t.core p).bankB = !(s.core p).bankB) ∧
      others t ∧ keeps [.groups, .fabric] s t) ∧
    (s.hostMay = true → s.rd OD.ADAPT_SEL = g → completes .rollbackCmd s fun t =>
      (t.grp g).cause = some (min (x.cause.getD 5) 5) ∧ others t ∧ t.tape = (s.noteWrites [(OD.ROLLBACK_CMD, g, 1)]).tape ∧
      keeps [.groups, .tape] s t)

/-- R233, R235 to R241, R243: the update of the period last cut, in its own deep slot and in no other. While adaptation is suspended, or in SAFE, its samples are dropped; a gradient
block with V discards it. Otherwise the labels are counted and every weight takes its step: a clean update makes the new masters, each
within ENV_DRIFT of its baseline, and the new moments, and its banks are written at once where they are free and there is time; one that
saturates, carries S, or is clamped under ENV_MODE 1 leaves the masters and asks for a rollback with cause 1, 2 or 3, the lowest. -/
def Obligations.AdaptationUpdateStepsTheMasters : Prop :=
  ∀ (s : State) (g : Fin 8) (grads : List GradBlock) (written : Bool),
    let x := s.grp g
    let j := x.cutTo - 1
    let c := s.adaptCfg g
    let u := s.computeUpdate g j grads
    let anyS := grads.any GradBlock.s
    let clamped : Prop := s.rd OD.ENV_MODE g = 1 ∧ 0 < u.clips
    let cmd : Instr := .adaptUpdate g grads written
    let counted (t : State) : Prop :=
      t.rd OD.LABELS_USED g = (s.rd OD.LABELS_USED g + x.samples.length) % 2 ^ 64 ∧
      t.rd OD.ENV_CLIPS g = (s.rd OD.ENV_CLIPS g + u.clips) % 2 ^ 64 ∧ (t.grp g).samples = [] ∧
      (SMap.get {} (t.grp g).stats j).clips = u.clips ∧ keepsUnits {} g s.groups t.groups ∧
      keepsCells [OD.LABELS_USED.key g, OD.ENV_CLIPS.key g] s t
    x.cutTo ≠ 0 → x.samples ≠ [] →
      (s.updateSlot g j = false → exec cmd s = .next s) ∧
      (s.updateSlot g j = true →
      (s.rd OD.ADAPT_ENABLE = 0 ∨ s.faults.safe = true → exec cmd s = .next (s.updGrp g fun x => { x with samples := [] })) ∧
      (s.rd OD.ADAPT_ENABLE ≠ 0 → s.faults.safe = false →
        (grads.any GradBlock.v = true → completes cmd s fun t =>
          t.grp g = { x with samples := [] } ∧ t.rd OD.ADAPT_DISCARD g = min (s.rd OD.ADAPT_DISCARD g + 1) (2 ^ 32 - 1) ∧
          keepsUnits {} g s.groups t.groups ∧ keepsCells [OD.ADAPT_DISCARD.key g] s t ∧ keeps [.groups, .dict] s t) ∧
        (grads.any GradBlock.v = false → u.sat = false → anyS = false → ¬clamped → completes cmd s fun t =>
          (∀ idx, t.master g idx = SMap.get (c.base idx) u.masters idx) ∧
          (∀ idx, adaptLayerAt c idx ≠ none → t.master g idx ≤ c.base idx + s.rd OD.ENV_DRIFT g ∧
            c.base idx - s.rd OD.ENV_DRIFT g ≤ t.master g idx) ∧
          (t.grp g).m = u.m ∧ (t.grp g).v = u.v ∧
          (written = true → x.armed = none → (t.grp g).ready = some j ∧ (t.grp g).unwritten = none) ∧
          (written = false ∨ x.armed ≠ none → (t.grp g).unwritten = some j ∧ (t.grp g).ready = x.ready ∧ t.fabric = s.fabric) ∧
          counted t ∧ keeps [.groups, .dict, .fabric] s t) ∧
        (grads.any GradBlock.v = false → u.sat = true ∨ anyS = true ∨ clamped → completes cmd s fun t =>
          (t.grp g).masters = x.masters ∧ (t.grp g).m = x.m ∧ (t.grp g).v = x.v ∧ (t.grp g).ready = x.ready ∧
          (let code := if u.sat then 1 else if anyS then 2 else 3
           (t.grp g).cause = some (min (x.cause.getD code) code)) ∧
          counted t ∧ keeps [.groups, .dict] s t)))

/-- R52, R95, R111, R112, R114, R158, R224, R243, R247, R279, R310, R400, R463: the counts a core reports reach the layer's window and total;
at a drift window's end the windows are cleared and the number of the window rises, and a group with an adapted layer above its threshold
asks for a rollback with cause 4, once at a tick. A command that clears counters returns the entries of its list to their defaults and changes no other. -/
def Obligations.SaturationWindowsAndCounterClears : Prop :=
  ∀ s : State,
    (∀ (p : Nat) (layer : Fin 1088) (count : Word32),
      let n := min count.toNat (SMap.get 0 (s.core p).satPend layer)
      completes (.satReport p layer count) s fun t =>
        SMap.get 0 (t.core p).satPend layer = SMap.get 0 (s.core p).satPend layer - n ∧
        keepsUnits 0 layer (s.core p).satPend (t.core p).satPend ∧
        (n = 0 → keepsCores p s t ∧ keeps [.fabric] s t) ∧
        (n ≠ 0 → t.rd OD.LAYER_SAT_WIN layer = min (s.rd OD.LAYER_SAT_WIN layer + n) (2 ^ 32 - 1) ∧
          t.rd OD.LAYER_SAT_TOTAL layer = min (s.rd OD.LAYER_SAT_TOTAL layer + n) (2 ^ 32 - 1) ∧ layer.val ∈ t.act.satSeen ∧
          (let thr := s.rd OD.LAYER_THRESH layer
           let over_ := decide (thr < min (s.rd OD.LAYER_SAT_WIN layer + n) (2 ^ 32 - 1)) && decide (thr ≠ 2 ^ 32 - 1) && !s.act.driftSeen.contains layer.val
           t.rd OD.DRIFT_TOTAL = (if over_ then (s.rd OD.DRIFT_TOTAL + 1) % 2 ^ 64 else s.rd OD.DRIFT_TOTAL) ∧
           t.act.driftSeen = (if over_ then layer.val :: s.act.driftSeen else s.act.driftSeen)) ∧
          keepsCores p s t ∧ keeps [.fabric, .act, .dict, .host, .faults] s t)) ∧
    (s.nextTick % s.rd OD.SAT_WIN ≠ 0 ∨ s.act.driftAt = some s.nextTick → exec .driftWindowBoundary s = .next s) ∧
    (s.nextTick % s.rd OD.SAT_WIN = 0 → s.act.driftAt ≠ some s.nextTick → completes .driftWindowBoundary s fun t =>
      (∀ l, l < 1088 → t.rd OD.LAYER_SAT_WIN l = 0) ∧ t.act.driftWin = s.act.driftWin + 1 ∧ t.act.driftAt = some s.nextTick ∧ t.act.satSeen = [] ∧ t.act.driftSeen = [] ∧
      ((∀ p ∈ s.fabric.cores, p.2.satPend = []) → ∀ g, g < s.groupCount →
        let thr := s.rd OD.SAT_ROLL_THRESH g
        let hit : Prop := thr ≠ 2 ^ 32 - 1 ∧ ∃ l ∈ (s.adaptCfg g).layers, thr < s.rd OD.LAYER_SAT_WIN l.layer
        (hit → (t.grp g).cause = some (min ((s.grp g).cause.getD 4) 4)) ∧ (¬hit → t.grp g = s.grp g)) ∧
      keeps [.fabric, .act, .groups, .dict, .host, .faults] s t) ∧
    (let clears (c : Instr) (l : List Entry) (w : Entry) : Prop := completes c s fun t =>
       (∀ e ∈ l, ∀ u, t.rd e u = e.dflt) ∧ keepsEntries l s t ∧ t.tape = (s.noteWrites [(w, 0, 1)]).tape ∧ keeps [.dict, .tape] s t
     (s.hostMay = true →
       clears .monClear monCounters OD.MON_CLEAR ∧ clears .coreCntClear coreCounters OD.CORE_CNT_CLEAR ∧
       clears .satClear satCounters OD.SAT_CLEAR ∧ clears .fabricCntClear fabricCounters OD.FABRIC_CNT_CLEAR ∧
       clears .deepCntClear deepCounters OD.DEEP_CNT_CLEAR ∧
       clears .trgCntClear trgCounters OD.TRG_CNT_CLEAR ∧
       (completes .laneCntClear s fun t => (∀ e ∈ laneCounters, ∀ u, t.rd e u = e.dflt) ∧ keepsEntries laneCounters s t ∧
         t.tape = (s.noteWrites [(OD.LANE_CNT_CLEAR, 0, 1)]).tape ∧
         (∀ k, t.lane k = { s.lane k with fillSent := (t.lane k).fillSent, fillRun := (t.lane k).fillRun }) ∧
         keeps [.dict, .tape, .lanes] s t) ∧
       (let g := s.rd OD.ADAPT_SEL
        completes .adaptCntClear s fun t => (∀ e ∈ adaptCounters, t.rd e g = e.dflt) ∧
          keepsCells (adaptCounters.map fun e => e.key g) s t ∧ keeps [.dict, .tape] s t)) ∧
     (s.host.ready = true →
       clears .pwrCntClear pwrCounters OD.PWR_CNT_CLEAR ∧
       (completes .hostCntClear s fun t => (∀ e ∈ hostCounters, t.rd e = e.dflt) ∧
         t.host = { s.host with lost := 0, overrun := false } ∧ keepsEntries hostCounters s t ∧ keeps [.dict, .tape, .host] s t)))

/-- R170 to R174, R183, R191: a slot opens with a sequence number greater, in serial order, than those the floor names; COMMIT of an OPEN
slot starts its check; CLEAR empties it; a command its state does not allow is refused with code 16, and one with a sequence number too
low with code 15. The check ends with the first code that fails: none, and the slot is READY with its digests recorded; else it is FAILED
with that code. -/
def Obligations.SlotCommandsAndCheck : Prop :=
  ∀ (s : State) (slot : Fin 2),
    let k := slot.val
    let st := s.rd (odState k)
    let busy := s.slotBusy k
    let refused (code : Nat) (t : State) : Prop :=
      t.rd (odCode k) = code ∧ t.rd (odDetail k) = 0 ∧ t.rd (odState k) = st ∧ t.act = s.act ∧ keeps [.dict, .tape] s t
    (s.hostMay = true →
      (∀ seq : Word32,
        let tape (t : State) : Prop := t.tape = (s.noteWrites [(OD.SLOT_CMD_SLOT, 0, k), (OD.OPEN_SEQ, 0, seq.toNat), (OD.SLOT_CMD, 0, 1)]).tape
        let may : Prop := (st = 0 ∨ st = 3 ∨ st = 5) ∧ busy = false
        (may → s.boot.hbmFailed = false → (∀ m ∈ s.openFloor k, serialGreater seq.toNat m = true) →
          completes (.slotOpen slot seq) s fun t =>
            t.rd (odState k) = 1 ∧ t.rd (odSeq k) = seq.toNat ∧ t.rd (odSize k) = 0 ∧ t.rd (odCode k) = 0 ∧
            t.rd OD.LAST_SEQ = seq.toNat ∧ t.act = { s.act with opened := true, images := SMap.set {} s.act.images k {} } ∧ tape t ∧ keeps [.dict, .act, .tape] s t) ∧
        (¬may → completes (.slotOpen slot seq) s fun t => refused 16 t ∧ tape t) ∧
        (may → s.boot.hbmFailed = true → completes (.slotOpen slot seq) s fun t => refused 13 t ∧ tape t) ∧
        (may → s.boot.hbmFailed = false → (∃ m ∈ s.openFloor k, serialGreater seq.toNat m = false) →
          completes (.slotOpen slot seq) s fun t => refused 15 t ∧ tape t)) ∧
      (∀ (size : Word64) (prog weight : BitVec 256),
        (st = 1 → busy = false → completes (.slotCommit slot size prog weight) s fun t =>
          t.rd (odState k) = 2 ∧ t.rd (odSize k) = size.toNat ∧ SMap.get (0, 0) t.act.expect k = (prog.toNat, weight.toNat) ∧
          t.act = { s.act with expect := t.act.expect } ∧ keeps [.dict, .act, .tape] s t) ∧
        (st ≠ 1 ∨ busy = true → completes (.slotCommit slot size prog weight) s (refused 16))) ∧
      ((st = 0 ∨ st = 1 ∨ st = 3 ∨ st = 5) → busy = false → completes (.slotClear slot) s fun t =>
        t.rd (odState k) = 0 ∧ t.rd (odSeq k) = 0 ∧ t.rd (odSize k) = 0 ∧ t.rd (odProg k) = 0 ∧ t.rd (odWeight k) = 0 ∧
        t.rd (odCode k) = 0 ∧ t.rd (odDecl k) = 0 ∧ t.act = { s.act with images := SMap.set {} s.act.images k {} } ∧
        keeps [.dict, .act, .tape] s t) ∧
      (st = 2 ∨ st = 4 ∨ busy = true → completes (.slotClear slot) s (refused 16))) ∧
    (∀ content : ImageContent,
      let u : State := { s with act.images := SMap.set {} s.act.images k content }
      let code := (u.commitCode k (s.rd (odSize k))).1
      (st ≠ 2 → exec (.slotCheckDone slot content) s = .next s) ∧
      (st = 2 → completes (.slotCheckDone slot content) s fun t =>
        (code = 0 → t.rd (odState k) = 3 ∧ t.rd (odCode k) = 0 ∧ t.rd (odDecl k) = s.declOf k ∧
          t.rd (odLoadCyc k) = (s.img k 132 4 + 4095) / 4096 + 1024) ∧
        (code ≠ 0 → t.rd (odState k) = 5 ∧ t.rd (odCode k) = code ∧ t.rd (odDetail k) = (u.commitCode k (s.rd (odSize k))).2) ∧
        (code ≠ 1 → t.rd (odProg k) = s.progDigest k ∧ t.rd (odWeight k) = s.weightDigest k) ∧
        (s.img k 0 4 ≠ 0x49584241 → code = 1) ∧
        (u.formatOk k (s.rd (odSize k)) content = true → s.progDigest k ≠ s.img k 140 32 → code = 2) ∧
        t.act = u.act ∧ keeps [.dict, .act] s t))

/-- R171, R197, R398: a byte written through BAR2 reaches HBM only where the rules allow it: in a slot region while that slot is OPEN, in
SCRATCH while no activation runs, and in the free region; a write with a forbidden byte is counted once for each kind. A read returns HBM's
bytes, and 0xFF in the hub region, in a slot that is not OPEN, in SCRATCH while an activation runs, and beyond HBM; with an uncorrected
error the completion is poisoned. -/
def Obligations.Bar2ReachesWhatTheRulesAllow : Prop :=
  ∀ (s : State) (ofs : Fin 268435456), s.host.ready = true →
    let base := s.host.winBase + ofs.val
    let shut (a : Nat) : Prop := giB ≤ a ∧ a < 3 * giB ∧ a < s.hbmSize ∧ s.rd (odState (a / giB - 1)) ≠ 1
    let denied (a : Nat) : Prop := a < giB ∨ s.hbmSize ≤ a ∨ (3 * giB ≤ a ∧ a < s.scratchBase) ∨
      (3 * giB ≤ a ∧ s.scratchBase ≤ a ∧ a < s.freeBase ∧ 1 ≤ s.rd OD.DAMP_STATE ∧ s.rd OD.DAMP_STATE ≤ 5)
    (∀ bytes : List Byte, completes (.bar2Write ofs bytes) s fun t =>
      (∀ i, i < bytes.length → ¬shut (base + i) → ¬denied (base + i) → t.hbm.read (base + i) = bytes.getD i 0) ∧
      (∀ a, a < base ∨ base + bytes.length ≤ a ∨ shut a ∨ denied a → t.hbm.read a = s.hbm.read a) ∧
      ((∃ i, i < bytes.length ∧ shut (base + i)) → t.rd OD.SLOT_WRITE_DROP = (s.rd OD.SLOT_WRITE_DROP + 1) % 2 ^ 64) ∧
      ((∃ i, i < bytes.length ∧ denied (base + i)) → t.rd OD.BAR2_DENY = (s.rd OD.BAR2_DENY + 1) % 2 ^ 64) ∧
      ((∀ i, i < bytes.length → ¬shut (base + i) ∧ ¬denied (base + i)) → keeps [.hbm] s t) ∧
      keeps [.hbm, .dict, .host, .faults] s t) ∧
    (∀ (len : Fin 4097) (ecc : Ecc), completes (.bar2Read ofs len ecc) s fun t =>
      let hidden (a : Nat) : Prop := a < giB ∨ s.hbmSize ≤ a ∨ (a < 3 * giB ∧ s.rd (odState (a / giB - 1)) ≠ 1) ∨
        (s.scratchBase ≤ a ∧ a < s.freeBase ∧ 1 ≤ s.rd OD.DAMP_STATE ∧ s.rd OD.DAMP_STATE ≤ 5)
      (∃ (bytes : List Byte) (poison : Bool), bytes.length = len.val ∧ t.host.completion = some (poison, bytes) ∧
        (poison = true ↔ ecc = .uncorrected ∧ ∃ i, i < len.val ∧ ¬hidden (base + i)) ∧
        (∀ i, i < len.val → (hidden (base + i) → bytes.getD i 0 = 0xFF) ∧
          (¬hidden (base + i) → bytes.getD i 0 = s.hbm.read (base + i)))) ∧
      ((∃ i, i < len.val ∧ hidden (base + i)) → t.rd OD.BAR2_DENY = (s.rd OD.BAR2_DENY + 1) % 2 ^ 64) ∧
      keeps [.dict, .host, .faults] s t) ∧
    (∀ v : Word64, exec (.winBaseWrite v) s = .next { s with host.winBase := v.toNat - v.toNat % 2 ^ 28 })

/-- R174 to R178, R182, R185, R187, R189: an activation request that passes its checks is pending, with ACT_STATUS 1; one that fails is
refused with its code and detail in the named slot, and with ACT_STATUS 4 unless another is under way. CANCEL withdraws a pending one. At
the first tick boundary from its time on its checks are made again (log entry 144), and it starts: admission stops, capture stops, the count is recorded; a Damp drains, and a hard retune switches
the epoch at once. -/
def Obligations.ActivationIsRequestedAndStarts : Prop :=
  ∀ s : State,
    (s.hostMay = true →
      (∀ (slot mode : Fin 2) (at_ res : Word64),
        let a : Activation := { slot := slot, mode := mode, at_ := at_.toNat, resumeAt := res.toNat }
        let code := (s.requestCode a s.nextDrone).1
        completes (.actCmdActivate slot mode at_ res) s fun t =>
          t.rd OD.ACT_SLOT = slot.val ∧ t.rd OD.ACT_MODE = mode.val ∧ t.rd OD.ACT_AT = at_.toNat ∧ t.rd OD.ACT_RESUME_AT = res.toNat ∧
          (code = 0 → t.act = { s.act with pending := some { a with at_ := if at_ = 0 then s.nextDrone else at_.toNat } } ∧
            t.rd OD.ACT_STATUS = 1) ∧
          (code ≠ 0 → t.act = s.act ∧ t.rd (odCode slot) = code ∧ t.rd (odDetail slot) = (s.requestCode a s.nextDrone).2 ∧
            t.rd OD.ACT_STATUS = (if s.actBusy then s.rd OD.ACT_STATUS else 4)) ∧
          (let first := (s.activationCode slot (decide (mode.val = 1)) none).1
           let late : Prop := at_ ≠ 0 ∧ at_.toNat < s.nextDrone
           (first ≠ 0 → code = first) ∧
           (first = 0 → ((s.rd (odState slot) ≠ 3 ∧ s.rd (odState slot) ≠ 4) ∨ s.faults.safe = true ∨ s.power.tripped = true ∨ late) →
             code = 16)) ∧
          (code = 0 → s.actBusy = false ∧ (mode.val = 1 → s.rd OD.EXPERT_EN = 1 ∧ s.act.sweepAt = none ∧ s.act.barred = false)) ∧
          keeps [.dict, .act, .tape] s t) ∧
      (s.act.pending ≠ none → completes .actCmdCancel s fun t =>
        t.act = { s.act with pending := none } ∧ t.rd OD.ACT_STATUS = 7 ∧ keepsCells [OD.ACT_STATUS.key 0] s t ∧
        keeps [.dict, .act, .tape] s t) ∧
      (s.act.pending = none → ∀ slot : Fin 2, s.rd OD.ACT_SLOT = slot → completes .actCmdCancel s fun t =>
        t.rd (odCode slot) = 16 ∧ keeps [.dict, .tape] s t)) ∧
    (∀ a : Activation, a.slot < 2 → s.act.pending = some a →
      let again := (s.activationCode a.slot (decide (a.mode = 1)) a.tickdiv).1
      let ready : Prop := again = 0 ∧ s.actBarred a.slot = false
      (s.clock.running = false ∨ s.nextDrone < a.at_ → exec .actStart s = .next s) ∧
      (s.clock.running = true → a.at_ ≤ s.nextDrone →
        (¬ready → completes .actStart s fun t =>
          t.act = { s.act with pending := none } ∧ t.rd (odCode a.slot) = (if again = 0 then 16 else again) ∧ t.rd OD.ACT_STATUS = 4 ∧ keeps [.dict, .act] s t) ∧
        (ready → completes .actStart s fun t =>
          t.act.pending = none ∧ t.act.slot = a.slot ∧ t.act.hard = decide (a.mode = 1) ∧ t.act.ts = s.nextDrone ∧
          t.act.resumeAt = a.resumeAt ∧ t.act.missed = false ∧ t.act.admitOn = false ∧
          t.rd OD.PAUSE_AT = s.nextDrone ∧ t.rd OD.ACT_STATUS = 2 ∧
          (∀ st, st < 64 → s.rd OD.SEG_COUNT st ≠ 0 → (t.cap st).st = 4) ∧
          (a.mode ≠ 1 → t.rd OD.DAMP_STATE = (if s.rd OD.DAMP_STATE = 6 then 3 else 2) ∧ t.rd OD.EPOCH = s.rd OD.EPOCH ∧
            t.clock.cycle = max s.clock.cycle s.nextBoundary ∧ (s.rd OD.DAMP_STATE ≠ 6 → t.deep.cands = [] ∧
              t.deep.work = s.deep.work.filter fun i => decide (i.kind ≠ 0))) ∧
          (a.mode = 1 → t.rd OD.DAMP_STATE = 4 ∧ t.rd OD.EPOCH = (s.rd OD.EPOCH + 1) % 8 ∧ t.act.running = false ∧
            t.act.sweepAt = some (max s.clock.cycle s.nextBoundary + 4376) ∧ t.deep.serving = none ∧ t.deep.active = false ∧
            (∀ p, (t.core p).running = false)) ∧
          t.pending = s.pending ∧ t.lic.features = s.lic.features ∧ t.boot = s.boot)))

/-- R180 to R184, R186: the drain ends when no old record waits and the deep slots have ended; when the queues are empty in VERIFY, and
still empty 256 cycles later (log entry 145), the epoch number rises by one, modulo 8, the licence envelope in force is the installed one, the core clock is the one set,
within it, and the cores stop with their FIFOs empty; a VERIFY that does not pass in DAMP_LIMIT cycles puts the device in HOLD. -/
def Obligations.DampDrainsVerifiesAndSwitches : Prop :=
  ∀ s : State,
    (s.rd OD.DAMP_STATE ≠ 2 ∨ s.drained = false → exec .drainDone s = .next s) ∧
    (s.rd OD.DAMP_STATE = 2 → (∀ p ∈ s.decisions, p.2.flights = []) → s.deep.serving = none → s.deep.active = false → completes .drainDone s fun t =>
      t.rd OD.DAMP_STATE = 3 ∧ t.act = { s.act with since := s.clock.cycle } ∧
      keepsCells [OD.DAMP_STATE.key 0] s t ∧ keeps [.dict, .act] s t) ∧
    (s.rd OD.DAMP_STATE = 3 → s.queuesEmpty = true → (s.advanceTo (s.now + 256)).queuesEmpty = true →
        s.now + 256 ≤ s.act.since + s.rd OD.DAMP_LIMIT → completes .verifyPass s fun t =>
      t.rd OD.DAMP_STATE = 4 ∧ t.rd OD.EPOCH = (s.rd OD.EPOCH + 1) % 8 ∧ t.rd OD.ENV_IN_FORCE = t.rd OD.LIC_ENVELOPE ∧
      ((∀ d, d < 4 → (s.die d).frozen = false) → t.rd OD.CORE_MHZ_RUN = min (t.rd OD.CORE_MHZ) (s.lic.clkMax / 25 * 25)) ∧
      t.act.running = false ∧ t.act.admitOn = false ∧ t.act.loadDone = false ∧
      (∀ p, (t.core p).running = false ∧ (t.core p).fifoC = [] ∧ (t.core p).fifoD = []) ∧ t.fabric.inject = [] ∧
      (s.clock.running = true → s.girder.lastSync = none →
        t.clock.cycle = s.clock.cycle + 256) ∧
      t.pending = s.pending ∧ t.boot = s.boot ∧ t.girder = { s.girder with holdover := t.girder.holdover } ∧ t.lic = { s.lic with runFeatures := s.lic.features }) ∧
    (s.rd OD.DAMP_STATE ≠ 3 ∨ s.queuesEmpty = false → exec .verifyPass s = .next s) ∧
    (s.rd OD.DAMP_STATE = 3 → s.queuesEmpty = true → s.act.since + s.rd OD.DAMP_LIMIT < s.now + 256 →
      exec .verifyPass s = exec .dampStuck s) ∧
    (s.rd OD.DAMP_STATE ≠ 3 → exec .dampStuck s = .next s) ∧
    (s.rd OD.DAMP_STATE = 3 → completes .dampStuck s fun t =>
      t.rd OD.DAMP_STATE = 6 ∧
      (s.clock.running = true → t.clock.cycle = max s.clock.cycle (s.act.since + s.rd OD.DAMP_LIMIT)) ∧
      ((∀ r, (s.errUnit pkgUnit).primary = some r → r.sev ≠ 3) →
        t.rd OD.ACT_STATUS = 5 ∧ keeps [.clock, .fabric, .dict, .host, .faults] s t) ∧
      (∀ r, (s.errUnit pkgUnit).primary = some r → r.sev = 3 → t.faults.safe = true))

/-- R35, R177 to R181, R183, R189, R190: when the load has read back the digests of the slot, the slot is ACTIVE and the ramp begins; when
not, the slot is FAILED with code 2 and the device in HOLD. Waves start in order, RAMP_STEP cycles apart, the
first eight steps before the end of the ramp. At the first boundary that meets
R177 the device resumes: T_r is that tick, and admission is on; where ACT_RESUME_AT comes and it cannot, the launch is missed. The sweep
after a hard retune removes every token of another epoch. -/
def Obligations.LoadRampAndResume : Prop :=
  ∀ s : State,
    (∀ ecc : Ecc,
      let k := s.act.slot
      let c := s.loadContent k
      (s.rd OD.DAMP_STATE ≠ 4 → exec (.loadDone ecc) s = .next s) ∧
      (s.rd OD.DAMP_STATE = 4 → k < 2 → ecc = .uncorrected ∨ s.progDigest k ≠ s.rd (odProg k) ∨ s.weightDigest k ≠ s.rd (odWeight k) →
        completes (.loadDone ecc) s fun t =>
          t.rd (odState k) = 5 ∧ t.rd (odCode k) = 2 ∧ t.rd OD.DAMP_STATE = 6 ∧ t.rd OD.ACT_STATUS = 8 ∧
          keeps [.dict, .host, .faults] s t) ∧
      (ecc ≠ .uncorrected → s.rd OD.DAMP_STATE = 4 → k < 2 → s.progDigest k = s.rd (odProg k) → s.weightDigest k = s.rd (odWeight k) →
        completes (.loadDone ecc) s fun t =>
          t.rd (odState k) = 4 ∧ t.rd OD.ACTIVE_SLOT = k ∧ t.rd OD.DAMP_STATE = 5 ∧ t.act.loadDone = true ∧ t.act.waves = [] ∧
          t.act.content = c ∧ t.rd OD.LAT_P = t.imgP k ∧ t.rd OD.LAYER_COUNT = t.img k 104 2 ∧
          (c.cores.Pairwise (fun a b => s.pcidOf a.x a.y ≠ s.pcidOf b.x b.y) →
            ∀ i ∈ c.cores, ∀ p, s.pcidOf i.x i.y = some p →
              (t.core p).loaded = true ∧ (t.core p).ctrl = i.ctrl ∧ (t.core p).weights = SMap.ofList 0 i.weights ∧
              (t.core p).routes = SMap.ofList 0 i.routes ∧ (t.core p).running = false ∧ (t.core p).act = []) ∧
          t.clock = { s.clock with tickinWait := if s.rd OD.TICKIN_EN = 1 ∧ s.act.hard = false ∧ s.rd OD.ROLE ≠ 1 then some s.clock.cycle else none } ∧
          keeps [.clock, .fabric, .dict, .deep, .groups, .hbm, .act, .power] s t)) ∧
    (∀ w : Fin 8, s.rd OD.DAMP_STATE = 5 → s.act.waves.length = w → s.clock.tickinWait = none → completes (.rampWave w) s fun t =>
      t.act.waves = s.act.waves ++ [w.val] ∧
      (w.val = 0 → t.act.ramp0 = s.rampStart ∧ (s.clock.running = true → t.clock.cycle = max s.clock.cycle s.rampStart)) ∧
      (w.val ≠ 0 → t.act.ramp0 = s.act.ramp0 ∧
        (s.clock.running = true → t.clock.cycle = max s.clock.cycle (s.act.ramp0 + w * s.rd OD.RAMP_STEP))) ∧
      (∀ g ∈ t.power.gates, g ∈ s.power.gates ∧ ¬(8192 ≤ g.1 ∧ g.1 - 8192 ∈ s.waveQuads w)) ∧
      keeps [.clock, .fabric, .act, .power] s t) ∧
    (let may : Prop := s.rd OD.DAMP_STATE = 5 ∧ s.act.waves.length = 8 ∧ s.act.missed = false ∧ s.clock.tickinWait = none ∧
       s.act.ramp0 + 8 * s.rd OD.RAMP_STEP ≤ s.nextBoundary ∧ (s.act.resumeAt = 0 ∨ s.act.resumeAt = s.nextDrone) ∧
       s.oldReleasedBefore (s.nextBoundary + 12 + s.rd OD.LAT_P) = true ∧ s.windowFull s.nextDrone = false
     let late : Prop := 1 ≤ s.rd OD.DAMP_STATE ∧ s.rd OD.DAMP_STATE ≤ 5 ∧ s.act.resumeAt ≠ 0 ∧ s.act.missed = false ∧
       s.act.resumeAt ≤ s.nextDrone
     (¬may → exec .resumeTick s = .next s) ∧
     (may → s.tape.starting = false → completes .resumeTick s fun t =>
       t.act.admitOn = true ∧ t.act.running = true ∧ t.act.tr = s.nextTick ∧ t.rd OD.RESUME_LAST = s.nextDrone ∧
       t.rd OD.ACT_STATUS = 3 ∧ t.rd OD.DAMP_STATE = 0 ∧ t.act.driftWin = 0 ∧ t.clock = s.clock ∧ t.core = s.core ∧
       (∀ st, st < 64 → (t.ing st).firstFrame = true ∧ (t.ing st).needReset = true)) ∧
     (may ∨ ¬late → exec .launchMissed s = .next s) ∧
     (¬may → late → completes .launchMissed s fun t =>
       t.act = { s.act with missed := true } ∧ t.rd OD.ACT_STATUS = 6 ∧ keeps [.act, .dict, .host, .faults] s t)) ∧
    (∀ (c : Nat) (found : Bool), s.act.sweepAt = some c → completes (.epochSweep found) s fun t =>
      let ok (m : SMap (List Tok)) : Prop := ∀ q, ∀ x ∈ SMap.get [] m q, x.flit.epoch = s.rd OD.EPOCH
      ok t.fabric.routerQ ∧ ok t.fabric.gateQ ∧ ok t.fabric.trussQ ∧ ok t.fabric.viaQ ∧ ok t.fabric.hubQ ∧ ok t.fabric.localQ ∧
      ok t.fabric.deckQ ∧ t.act.sweepAt = none ∧ (found = true → t.act.barred = true) ∧
      (s.clock.running = true → t.clock.cycle = max s.clock.cycle c) ∧
      keeps [.clock, .fabric, .act, .dict, .host, .faults] s t)

/-- R319, R320, R322, R324, R325, R327, R336: at a window boundary the part in progress closes, into the sealer where it holds a tick or
an event, a part of the new window opens, and the parts closed before have been sealed; the oldest closed part is sealed: its string is PREV, the digests, the part and its events,
its SHA-256 is the next PREV, and it enters the log, which keeps 16 MiB; in a replay it is judged against the recorded seal. SEAL_EN is an
Expert entry, and clearing it needs presence. -/
def Obligations.AuditWindowsAndSeals : Prop :=
  ∀ s : State,
    (s.clock.running = false ∨ s.nextTick % 65536 ≠ 0 → exec .auditWindowBoundary s = .next s) ∧
    (s.clock.running = true → s.nextTick % 65536 = 0 → s.act.pending = none →
      (s.audit.cur = none → exec .auditWindowBoundary s = .next s) ∧
      (∀ p, s.audit.cur = some p →
        (p.win = windowOf s.nextTick → exec .auditWindowBoundary s = .next s) ∧
        (p.win ≠ windowOf s.nextTick → completes .auditWindowBoundary s fun t =>
          let w := windowOf s.nextTick
          let n := if s.audit.lastWin = some w then s.audit.lastPart + 1 else 0
          t.audit.cur = some { win := w, part := n, start := s.nextTick, events := s.audit.waiting, prog := s.runProg, weight := s.runWeight } ∧
          t.audit.waiting = [] ∧ t.audit.lastWin = some w ∧ t.audit.lastPart = n ∧
          (p.first = none → p.events = [] → t.audit.closed = []) ∧
          (p.first ≠ none ∨ p.events ≠ [] →
            (s.rd OD.SEAL_EN = 1 → s.audit.gap = none → t.audit.closed = [p]) ∧
            (s.rd OD.SEAL_EN ≠ 1 → t.audit.closed = [] ∧ t.audit.gap = some (s.audit.gap.getD p.start) ∧
              t.audit.gapEvents = s.audit.gapEvents ++ p.events)) ∧
          (s.audit.closed = [] → keeps [.audit] s t) ∧
          (∀ q, s.audit.closed = [q] → s.tape.replaying = false →
            leNat (sha256 (q.body s.chainPrev (!s.audit.made))) = t.audit.prev ∧ t.audit.made = true) ∧
          keeps [.audit, .dict, .tape, .host, .faults] s t))) ∧
    (s.audit.closed = [] → exec .sealComplete s = .next s) ∧
    (∀ (p : Part) (ps : List Part), s.audit.closed = p :: ps →
      (s.tape.replaying = false → completes .sealComplete s fun t =>
        let prev := if s.audit.made then s.audit.prev else s.rd OD.CHAIN_PREV
        ∃ (body : List Byte) (v : Nat), v = leNat (sha256 body) ∧
          body.take 96 = leBytes 32 prev ++ leBytes 32 p.prog ++ leBytes 32 p.weight ∧
          body.length = 632 + 64 * p.events.length ∧
          t.audit.prev = v ∧ t.audit.made = true ∧ t.audit.closed = ps ∧ t.audit.cur = s.audit.cur ∧
          t.audit.log <:+ s.audit.log ++ [{ win := p.win, part := p.part, body := body, value := v }] ∧
          t.audit.log.foldl (fun n x => n + x.size) 0 ≤ 2 ^ 24 ∧
          t.rd OD.SEAL_LAST = v + p.win % 2 ^ 48 * 2 ^ 256 + p.part * 2 ^ 304 ∧ keeps [.audit, .dict, .tape] s t) ∧
      (∀ r, s.tape.replaying = true → s.recordedSeal p.win p.part = some r →
        (leNat (sha256 (p.body s.tape.prev false)) = r ∨ leNat (sha256 (p.body s.tape.prev true)) = r →
          completes .sealComplete s fun t => t.tape.prev = r ∧ t.audit = { s.audit with closed := ps } ∧ keeps [.audit, .tape] s t) ∧
        (leNat (sha256 (p.body s.tape.prev false)) ≠ r → leNat (sha256 (p.body s.tape.prev true)) ≠ r →
          completes .sealComplete s fun t => t.tape.prev = r ∧ t.audit = { s.audit with closed := ps } ∧
            (bit (s.rd OD.REPLAY_MISMATCH) 56 = false → t.rd OD.REPLAY_MISMATCH = sealNumber p.win p.part + 2 ^ 56) ∧
            keeps [.audit, .tape, .dict, .host, .faults] s t))) ∧
    (∀ v : Bool,
      (s.hostMay = true → s.rd OD.EXPERT_EN ≠ 0 → v = true ∨ s.presenceHolds = true → completes (.sealEnWrite v) s fun t =>
        t.rd OD.SEAL_EN = (if v then 1 else 0) ∧ t.tape = (s.noteWrites [(OD.SEAL_EN, 0, if v then 1 else 0)]).tape ∧
        keepsCells [OD.SEAL_EN.key 0] s t ∧ keeps [.dict, .tape] s t) ∧
      (s.hostMay = false ∨ s.rd OD.EXPERT_EN = 0 ∨ (v = false ∧ s.presenceHolds = false) →
        exec (.sealEnWrite v) s = .next s))

/-- R328, R330, R331, R333 to R335: the recorder arms from idle or stopped where it is licensed and no replay runs; a stop ends a
recording at the next tick boundary and disarms an armed one; an overrun ends it at the last complete tick with an END entry and reason 3;
while it runs each accepted write waits as one entry. A replay is refused with a code or asked for; it stops with status 9 and admission
off. -/
def Obligations.RecorderAndReplayCommands : Prop :=
  ∀ s : State,
    let st := s.rd OD.REC_STATE % 8
    (s.host.ready = true →
      (bit s.lic.features 2 = true → st = 0 ∨ st = 3 → s.tape.replaying = false → s.faults.safe = false → completes .recArm s fun t =>
        t.rd OD.REC_STATE = 1 ∧ keepsCells [OD.REC_STATE.key 0] s t ∧ keeps [.dict] s t) ∧
      (bit s.lic.features 2 = false ∨ s.tape.replaying = true ∨ s.faults.safe = true → completes .recArm s fun t =>
        t = s.noteWrites [(OD.REC_CMD, 0, 1)]) ∧
      (st = 2 → completes .recStop s fun t => t.tape.stopDue = true ∧ t.tape.held = s.tape.held ∧ keeps [.tape] s t) ∧
      (st = 1 → completes .recStop s fun t => t.rd OD.REC_STATE = 0 ∧ keepsCells [OD.REC_STATE.key 0] s t ∧ keeps [.dict] s t)) ∧
    (st ≠ 2 → exec .recOverrun s = .next s) ∧
    (st = 2 → completes .recOverrun s fun t =>
      t.rd OD.REC_STATE % 8 = 3 ∧ t.rd OD.REC_STATE / 16 = 3 ∧ t.tape.waiting = [] ∧
      t.tape.held.getLast? = some (s.tape.ptr, 24, 9, s.rd OD.REC_LAST) ∧ t.tape.ptr = s.tape.ptr + 24 ∧
      keeps [.tape, .hbm, .dict, .host, .faults] s t) ∧
    (∀ (e : Entry) (u v : Nat), (st ≠ 2 → s.noteWrites [(e, u, v)] = s) ∧
      (st = 2 → e.sel ≠ .array → (s.noteWrites [(e, u, v)]).tape.waiting = s.tape.waiting ++
        [{ rtype := 2, tick := s.nextTick, aux := u, payload := leBytes 2 e.idx ++ leBytes 1 e.sub ++ [0] ++ leBytes e.typ.size v }])) ∧
    (∀ (a : Word64) (k : Fin 2) (e : Word64), s.host.ready = true → s.tape.replaying = false → s.tape.starting = false →
      let noted := s.noteWrites [(OD.REPLAY_ANCHOR, 0, a.toNat), (OD.REPLAY_SLOT, 0, k.val), (OD.REPLAY_END, 0, e.toNat), (OD.REPLAY_CMD, 0, 1)]
      let u := ((noted.wr OD.REPLAY_ANCHOR 0 a.toNat).wr OD.REPLAY_SLOT 0 k).wr OD.REPLAY_END 0 e.toNat
      let code := u.replayCode a.toNat k
      ((∀ h ∈ s.tape.held, h.1 = a.toNat → h.2.2.1 ≠ 1) → code = 3) ∧
      (code ≠ 0 → completes (.replayStart a k e) s fun t => t.rd OD.REPLAY_STATUS = code ∧ t.tape.starting = false ∧
        keepsCells [OD.REPLAY_ANCHOR.key 0, OD.REPLAY_SLOT.key 0, OD.REPLAY_END.key 0, OD.REPLAY_STATUS.key 0] s t ∧
        keeps [.dict, .tape] s t) ∧
      (code = 0 → completes (.replayStart a k e) s fun t => t.rd OD.REPLAY_STATUS = 1 ∧ t.rd OD.REPLAY_MISMATCH = 0 ∧
        t.tape.starting = true ∧ t.tape.rdPtr = a.toNat ∧ t.tape.endTick = e.toNat)) ∧
    (s.host.ready = true → s.tape.replaying = true → completes .replayStop s fun t =>
      t.tape.replaying = false ∧ t.rd OD.REPLAY_STATUS = 9 ∧ t.act.admitOn = false ∧ t.audit.cur = none ∧ t.audit.closed = [] ∧
      t.audit.lastWin = s.tape.ownWin ∧ t.audit.lastPart = s.tape.ownPart ∧ t.fabric = s.fabric ∧ t.clock = s.clock) ∧
    (s.host.ready = true → s.tape.replaying = false → s.tape.starting = true → completes .replayStop s fun t =>
      t.rd OD.REPLAY_STATUS = 9 ∧ keepsCells [OD.REPLAY_STATUS.key 0] s t ∧ keeps [.dict, .tape] s t)

/-- R341, R344 to R346, R352, R368: a frame that its port does not take, whose CRC fails, whose TYPE is another, or that comes out of order
where it is reliable, goes no further than the link: a CRC failure is counted and answered with a NAK, and a reliable frame in order moves
the LSEQ awaited and is acknowledged. A LINK_ACK releases the frames up to its LSEQ; unacknowledged frames are sent again, and after eight
resends the port is down, which orphans a member whose upstream port it is; a receiver that locks brings its port into service, and a
downstream port that loses lock is down. -/
def Obligations.GirderLinksAcknowledgeResendAndFail : Prop :=
  ∀ (s : State) (p : Fin 4),
    let g := s.port p
    let others (t : State) : Prop := keepsUnits {} p s.girder.ports t.girder.ports
    (∀ (rx : GFrame) (c : Instr) (typ : Nat), rx.port = p →
      (∃ q nak, c = .linkAck rx q nak ∧ typ = 0x7F) ∨ (∃ d m n b, c = .beacon rx d m n b ∧ typ = 1) ∨
        (∃ i, c = .joinReq rx i ∧ typ = 2) ∨ (∃ n a d, c = .joinAck rx n a d ∧ typ = 3) ∨ (∃ n w, c = .joinNak rx n w ∧ typ = 4) ∨
        (∃ a o b, c = .leave rx a o b ∧ typ = 5) ∨ (∃ a d, c = .heartbeat rx a d ∧ typ = 6) ∨
        (∃ m i f, c = .sync rx m i f ∧ typ = 0x10) ∨ (∃ t, c = .delayReq rx t ∧ typ = 0x11) ∨
        (∃ a b t, c = .delayResp rx a b t ∧ typ = 0x12) ∨ (∃ m, c = .launch rx m ∧ typ = 0x20) ∨
        (∃ n k r a, c = .launchAck rx n k r a ∧ typ = 0x21) ∨ (∃ op m, c = .odReq rx op m ∧ typ = 0x30) ∨
        (∃ a u o x f k l, c = .odResp rx a u o x f k l ∧ typ = 0x31) ∨
        (∃ o b l, c = .fwData rx o b l ∧ typ = 0x40) ∨ (∃ a n x, c = .fwStatus rx a n x ∧ typ = 0x41) →
      let r := s.frameIn rx typ
      (r.2 = true ↔ s.portTakes p typ = true ∧ rx.crcOk = true ∧ rx.typ.toNat = typ ∧ (reliable typ = true → rx.lseq.toNat = g.rxSeq)) ∧
      (r.2 = false → exec c s = .next r.1) ∧
      (r.2 = true → reliable typ = false → r.1 = s) ∧
      (r.2 = true → reliable typ = true → (r.1.port p).rxSeq = (g.rxSeq + 1) % 2 ^ 16 ∧
        (r.1.port p).sent = some (0x7F, leBytes 2 g.rxSeq ++ [0]) ∧ (r.1.port p).unacked = g.unacked ∧ others r.1 ∧
        r.1.girder = { s.girder with ports := r.1.girder.ports } ∧ keeps [.girder] s r.1) ∧
      (s.portTakes p typ = false → exec c s = .next s) ∧
      (s.portTakes p typ = true → rx.crcOk = false → completes c s fun t =>
        t.rd OD.PORT_CRC_ERR p = (s.inc OD.PORT_CRC_ERR p).rd OD.PORT_CRC_ERR p ∧
        (t.port p).sent = some (0x7F, leBytes 2 ((g.rxSeq + 2 ^ 16 - 1) % 2 ^ 16) ++ [1]) ∧ (t.port p).rxSeq = g.rxSeq ∧ others t ∧
        keepsCells [OD.PORT_CRC_ERR.key p] s t ∧ keeps [.girder, .dict] s t)) ∧
    (∀ (rx : GFrame) (q : Word16), rx.port = p → (s.frameIn rx 0x7F).2 = true →
      (∀ pre w post, g.unacked = pre ++ (q.toNat, w) :: post → pre.length < 16 → (∀ x ∈ pre, x.1 ≠ q.toNat) →
        completes (.linkAck rx q false) s fun t =>
          t.port p = { g with unacked := post, resends := 0 } ∧ others t ∧ t.girder = { s.girder with ports := t.girder.ports } ∧
          keeps [.girder] s t) ∧
      ((∀ x ∈ g.unacked.take 16, x.1 ≠ q.toNat) → completes (.linkAck rx q false) s fun t =>
        t.port p = g ∧ others t ∧ keeps [.girder] s t) ∧
      ∃ t, exec (.linkAck rx q false) s = .next t ∧ exec (.linkAck rx q true) s = exec (.resendTimeout p) t) ∧
    (g.unacked = [] → exec (.resendTimeout p) s = .next s) ∧
    (g.unacked ≠ [] → g.resends < 8 → completes (.resendTimeout p) s fun t =>
      t.port p = { g with resends := g.resends + 1 } ∧ others t ∧
      t.rd OD.RESENDS p = min (s.rd OD.RESENDS p + min 16 g.unacked.length) (2 ^ 32 - 1) ∧
      keepsCells [OD.RESENDS.key p] s t ∧ keeps [.girder, .dict] s t) ∧
    (g.unacked ≠ [] → 8 ≤ g.resends → completes (.resendTimeout p) s fun t =>
      t.rd OD.PORT_STATE p = 5 ∧ t.rd OD.LINK_DOWNS p = min (s.rd OD.LINK_DOWNS p + 1) (2 ^ 32 - 1) ∧
      (t.port p).unacked = [] ∧ (t.port p).resends = 0 ∧
      (s.girder.upstream = some p.val → 2 ≤ s.rd OD.GIRDER_STATE → s.rd OD.GIRDER_STATE ≤ 5 → t.rd OD.GIRDER_STATE = 6) ∧
      keeps [.girder, .dict, .host, .faults] s t) ∧
    (s.rd OD.PORT_STATE p = 1 ∨ s.rd OD.PORT_STATE p = 5 → completes (.girderPortLock p) s fun t =>
      t.rd OD.PORT_STATE p = (if s.girder.upstream = some p.val then 2 else 3) ∧ p.val ∈ t.girder.locked ∧
      t.port p = { g with txSeq := 0, rxSeq := 0 } ∧ others t ∧
      t.girder = { s.girder with locked := t.girder.locked, ports := t.girder.ports } ∧ keepsCells [OD.PORT_STATE.key p] s t ∧
      keeps [.girder, .dict] s t) ∧
    (s.rd OD.PORT_STATE p = 3 ∨ s.rd OD.PORT_STATE p = 4 → completes (.girderPortLossOfLock p) s fun t =>
      t.rd OD.PORT_STATE p = 5 ∧ p.val ∉ t.girder.locked ∧
      t.rd OD.LINK_DOWNS p = min (s.rd OD.LINK_DOWNS p + 1) (2 ^ 32 - 1) ∧ keeps [.girder, .dict, .host, .faults] s t)

/-- R343, R345, R348 to R352, R368, R402: a worker takes the port of a beacon as upstream and joins; a JOIN_ACK for its serial gives it its
address and depth and leads to FIRMWARE or ALIGNING, a JOIN_NAK to REFUSED; answers for others go to the port their request came from. It
asks again, sends heartbeats, leaves on command, takes firmware from its manager, and is orphaned when no beacon comes. -/
def Obligations.WorkersJoinAndLeave : Prop :=
  ∀ s : State, s.rd OD.ROLE = 1 →
    let agent := s.rd OD.GIRDER_STATE
    let me := s.fuse 32 64
    (∀ (rx : GFrame) (dom : Word32) (mgr : Word64) (gen : Word32) (joins : Bool), (s.frameIn rx 1).2 = true →
      let p := rx.port
      (agent = 1 → s.girder.upstream = none →
        completes (.beacon rx dom mgr gen joins) s fun t =>
          t.girder.upstream = some p.val ∧ t.rd OD.PORT_STATE p = 2 ∧ t.rd OD.DOMAIN_ID = dom.toNat ∧
          t.rd OD.ROSTER_GEN = gen.toNat ∧ t.girder.hopsIn = rx.hops.toNat ∧ t.girder.mgrSerial = mgr.toNat ∧
          (s.rd OD.AUTO_JOIN = 1 ∨ s.girder.joinWanted = true → s.act.running = false → t.rd OD.GIRDER_STATE = 2 ∧
            t.rd OD.REF_SRC = 2 + p ∧ (t.port p).sent = some (2, s.ownJoin.bytes) ∧ keeps [.girder, .dict] s t) ∧
          (s.rd OD.AUTO_JOIN ≠ 1 → s.girder.joinWanted = false → t.rd OD.GIRDER_STATE = 1 ∧ keeps [.girder, .dict] s t)) ∧
      (∀ u, s.girder.upstream = some u → u ≠ p.val → agent ≠ 6 →
        exec (.beacon rx dom mgr gen joins) s = .next (s.wr OD.PORT_STATE p 4))) ∧
    (∀ (rx : GFrame) (sn : Word64) (a : Word16) (d : Fin 256), (s.frameIn rx 3).2 = true →
      let u := (s.frameIn rx 3).1
      (sn.toNat = me → agent = 2 → completes (.joinAck rx sn a d) s fun t =>
        t.rd OD.NODE_ADDR = a.toNat ∧ t.rd OD.DEPTH = d ∧ t.girder.measured = 0 ∧ t.girder.syncs = 0 ∧
        t.rd OD.GIRDER_STATE = (if s.boot.verified then 4 else 3) ∧
        (d.val ≤ 1 → t.rd OD.PARENT_ADDR = 0 ∧ keeps [.girder, .dict] u t) ∧ t.girder.ports = u.girder.ports ∧
        keeps [.girder, .dict, .draws] u t) ∧
      (∀ p, sn.toNat ≠ me → SMap.get 0 s.girder.pendJoin sn.toNat = p + 1 → completes (.joinAck rx sn a d) s fun t =>
        SMap.get 0 t.girder.routes a.toNat = p + 1 ∧ SMap.get 0 t.girder.pendJoin sn.toNat = 0 ∧
        (t.port p).sent = some (3, leBytes 8 sn.toNat ++ leBytes 2 a.toNat ++ leBytes 1 d) ∧ keeps [.girder] u t)) ∧
    (∀ (rx : GFrame) (sn : Word64) (why : Fin 256), (s.frameIn rx 4).2 = true →
      let u := (s.frameIn rx 4).1
      (sn.toNat = me → agent = 2 → exec (.joinNak rx sn why) s = .next (u.wr OD.GIRDER_STATE 0 8)) ∧
      (∀ p, sn.toNat ≠ me → SMap.get 0 s.girder.pendJoin sn.toNat = p + 1 → completes (.joinNak rx sn why) s fun t =>
        SMap.get 0 t.girder.pendJoin sn.toNat = 0 ∧ (t.port p).sent = some (4, leBytes 8 sn.toNat ++ leBytes 1 why) ∧
        keeps [.girder] u t)) ∧
    (∀ p, s.girder.upstream = some p →
      (agent = 2 → completes .joinRetry s fun t => (t.port p).sent = some (2, s.ownJoin.bytes) ∧ keeps [.girder] s t) ∧
      (agent = 5 → completes .heartbeatSend s fun t =>
        (t.port p).sent = some (6, List.replicate 8 0 ++ leBytes 2 (s.rd OD.NODE_ADDR) ++ leBytes 4 s.clock.drone) ∧ keeps [.girder] s t) ∧
      (s.host.ready = true → agent ≠ 7 → completes (.leaveCmd true) s fun t =>
        t.rd OD.GIRDER_STATE = 7 ∧ (t.port p).sent = some (5, List.replicate 8 0 ++ leBytes 2 (s.rd OD.NODE_ADDR) ++ [1]) ∧
        keepsCells [OD.GIRDER_STATE.key 0, OD.LEAVE_CMD.key 0] s t ∧ keeps [.girder, .dict, .tape] s t) ∧
      (s.host.ready = true → agent = 1 → s.act.running = false → completes .joinCmd s fun t =>
        t.rd OD.GIRDER_STATE = 2 ∧ t.rd OD.REF_SRC = 2 + p ∧ keeps [.girder, .dict, .tape] s t)) ∧
    (s.host.ready = true → agent = 1 → s.girder.upstream = none → completes .joinCmd s fun t =>
      t.girder = { s.girder with joinWanted := true } ∧ keeps [.girder, .tape] s t) ∧
    (s.host.ready = true → agent = 7 → completes (.leaveCmd false) s fun t =>
      t.rd OD.GIRDER_STATE = 1 ∧ keepsCells [OD.GIRDER_STATE.key 0, OD.LEAVE_CMD.key 0] s t ∧ keeps [.dict, .tape] s t) ∧
    (agent = 8 → exec .refusedWaitEnd s = .next (s.wr OD.GIRDER_STATE 0 1)) ∧
    (2 ≤ agent → agent ≤ 5 → completes .beaconWatchdog s fun t =>
      t.rd OD.GIRDER_STATE = 6 ∧ (s.rd OD.TB_MODE 0 = 1 → t.rd OD.SERVO_STATE = 2) ∧ keeps [.dict, .host, .faults] s t) ∧
    (∀ (rx : GFrame) (ofs : Word32) (bytes : List Byte) (last : Bool), (s.frameIn rx 0x40).2 = true →
      let u := (s.frameIn rx 0x40).1
      let p := rx.port
      (∀ q, rx.dst.toNat ≠ s.rd OD.NODE_ADDR → SMap.get 0 s.girder.routes rx.dst.toNat = q + 1 →
        completes (.fwData rx ofs bytes last) s fun t =>
          (t.port q).sent = some (0x40, leBytes 4 ofs.toNat ++ bytes) ∧ keeps [.girder] u t) ∧
      (rx.dst.toNat = s.rd OD.NODE_ADDR → agent = 3 → s.boot.stage = 4 → s.boot.source ≠ some false →
          ofs.toNat + bytes.length ≤ 2 ^ 22 → completes (.fwData rx ofs bytes last) s fun t =>
        (∀ i, i < bytes.length → SMap.get 0 t.boot.image (ofs.toNat + i) = bytes.getD i 0) ∧
        t.boot.received = max s.boot.received (ofs.toNat + bytes.length) ∧ t.boot.source = some true ∧
        t.boot.stage = (if last then 5 else 4) ∧
        (t.port p).sent = some (0x41, leBytes 4 t.boot.received ++ [0]) ∧ keeps [.boot, .girder] u t) ∧
      (rx.dst.toNat = s.rd OD.NODE_ADDR → agent = 3 → s.boot.stage = 4 → s.boot.source = some false →
        completes (.fwData rx ofs bytes last) s fun t =>
          (t.port p).sent = some (0x41, leBytes 4 s.boot.received ++ [2]) ∧ keeps [.girder] u t))

/-- R340, R345, R347, R349 to R353, R369: a licensed manager sends beacons, answers a JOIN_REQ with an address or with the reason it refuses
it, notes who leaves, is lost or reports, releases an address held, and sends its firmware store in chunks; a worker passes the frames
up. -/
def Obligations.ManagersKeepTheRoster : Prop :=
  ∀ s : State,
    (s.rd OD.ROLE = 2 → bit s.lic.features 5 = true →
      (completes .beaconSend s fun t =>
        t.girder.beacons = s.girder.beacons + 1 ∧
        (∀ p, p < 4 → s.rd OD.PORT_STATE p = 3 ∨ s.rd OD.PORT_STATE p = 4 → ∃ pay, (t.port p).sent = some (1, pay) ∧
          pay = leBytes 4 (s.rd OD.DOMAIN_ID) ++ leBytes 8 (s.fuse 32 64) ++ leBytes 4 (s.rd OD.ROSTER_GEN) ++ leBytes 1 (s.rd OD.JOIN_EN)) ∧
        (∀ p, p < 4 → s.rd OD.PORT_STATE p ≠ 3 → s.rd OD.PORT_STATE p ≠ 4 → t.port p = s.port p) ∧ keeps [.girder] s t) ∧
      (∀ (rx : GFrame) (i : JoinInfo), (s.frameIn rx 2).2 = true →
        let p := rx.port
        let hops := rx.hops.toNat
        let u := (s.frameIn rx 2).1
        let why := s.joinReason p hops i
        let a := s.addressFor i.serial
        (why ≠ 0 → completes (.joinReq rx i) s fun t =>
          (t.port p).sent = some (4, leBytes 8 i.serial ++ leBytes 1 why) ∧ t.girder.roster = s.girder.roster ∧ keeps [.girder] u t) ∧
        (s.rd OD.JOIN_EN = 0 → why ≠ 0) ∧ (8 < hops → why ≠ 0) ∧
        (why = 0 → i.fwVerified = true → completes (.joinReq rx i) s fun t =>
          (t.roster a).state = 1 ∧ (t.roster a).serial = i.serial ∧ (t.roster a).parent = i.parent ∧ (t.roster a).depth = hops ∧
          SMap.get 0 t.girder.routes a = p + 1 ∧ keepsUnits {} a s.girder.roster t.girder.roster ∧
          (t.port p).sent = some (3, leBytes 8 i.serial ++ leBytes 2 a ++ leBytes 1 hops) ∧
          t.rd OD.ROSTER_GEN = (s.rd OD.ROSTER_GEN + 1) % 2 ^ 32 ∧ keeps [.girder, .dict, .host, .faults] u t)) ∧
      (∀ (rx : GFrame) (a : Fin 256) (orderly sub : Bool), (s.frameIn rx 5).2 = true → (s.roster a).state = 1 →
        completes (.leave rx a orderly sub) s fun t =>
        (t.roster a).state = (if orderly = true ∧ sub = false then 2 else 3) ∧ (t.roster a).reserved = true ∧
        (t.roster a).serial = (s.roster a).serial ∧ keeps [.girder, .dict, .host, .faults] s t) ∧
      (∀ (rx : GFrame) (a : Fin 256) (d : Word32), (s.frameIn rx 6).2 = true → (s.roster a).state = 1 →
        completes (.heartbeat rx a d) s fun t =>
        t.roster a = { s.roster a with missed := 0 } ∧ keepsUnits {} a s.girder.roster t.girder.roster ∧
        t.girder.ports = (s.frameIn rx 6).1.girder.ports ∧ keeps [.girder] s t) ∧
      (∀ a : Fin 256, (s.roster a).state = 1 →
        ((s.roster a).missed < 2 → completes (.heartbeatMissed a) s fun t =>
          t.roster a = { s.roster a with missed := (s.roster a).missed + 1 } ∧ keepsUnits {} a s.girder.roster t.girder.roster ∧
          keeps [.girder] s t) ∧
        (2 ≤ (s.roster a).missed → completes (.heartbeatMissed a) s fun t =>
          (t.roster a).state = 3 ∧ (t.roster a).reserved = true ∧ keeps [.girder, .dict, .host, .faults] s t)) ∧
      (∀ (rx : GFrame) (a : Fin 256) (got : Word32) (st : Fin 3) (p : Nat), (s.frameIn rx 0x41).2 = true → SMap.get 0 s.girder.fwPush a ≠ 0 →
        SMap.get 0 s.girder.routes a = p + 1 →
        (st.val ≠ 0 → completes (.fwStatus rx a got st) s fun t => SMap.get 0 t.girder.fwPush a = 0 ∧ keeps [.girder] s t) ∧
        (st.val = 0 → got.toNat < s.rd OD.FW_IMG_SIZE → completes (.fwStatus rx a got st) s fun t =>
          (t.port p).sent = some (0x40, leBytes 4 got.toNat ++ SMap.range 0 s.girder.fwStore got.toNat (min 1016 (s.rd OD.FW_IMG_SIZE - got.toNat))) ∧
          keeps [.girder] s t))) ∧
    (∀ (a : Fin 256), (s.roster a).reserved = true → completes (.addrHoldExpiry a) s fun t =>
      t.roster a = { s.roster a with reserved := false } ∧ keepsUnits {} a s.girder.roster t.girder.roster ∧ keeps [.girder] s t) ∧
    (∀ bytes : List Byte, s.host.ready = true → s.rd OD.EXPERT_EN = 1 → bytes.length ≤ 1000 → completes (.fwImgData bytes) s fun t =>
      (∀ i, i < bytes.length → SMap.get 0 t.girder.fwStore (s.rd OD.FW_IMG_OFS + i) = bytes.getD i 0) ∧
      t.rd OD.FW_IMG_OFS = (s.rd OD.FW_IMG_OFS + bytes.length) % 2 ^ 32 ∧ keepsCells [OD.FW_IMG_OFS.key 0] s t ∧
      keeps [.girder, .dict, .tape] s t) ∧
    (∀ p, s.rd OD.ROLE = 1 → s.rd OD.GIRDER_STATE ≠ 7 → s.girder.upstream = some p →
      (∀ (rx : GFrame) (i : JoinInfo), (s.frameIn rx 2).2 = true → completes (.joinReq rx i) s fun t =>
        SMap.get 0 t.girder.pendJoin i.serial = rx.port + 1 ∧ (t.port p).sent = some (2, i.bytes) ∧ keeps [.girder] s t) ∧
      (∀ (rx : GFrame) (a : Fin 256) (d : Word32), (s.frameIn rx 6).2 = true → completes (.heartbeat rx a d) s fun t =>
        (t.port p).sent = some (6, List.replicate 8 0 ++ leBytes 2 a ++ leBytes 4 d.toNat) ∧ keeps [.girder] s t) ∧
      (∀ (rx : GFrame) (a : Fin 256) (got : Word32) (st : Fin 3), (s.frameIn rx 0x41).2 = true →
        completes (.fwStatus rx a got st) s fun t =>
          (t.port p).sent = some (0x41, leBytes 4 got.toNat ++ leBytes 1 st) ∧ keeps [.girder] s t) ∧
      (∀ (rx : GFrame) (a : Fin 256) (o b : Bool), (s.frameIn rx 5).2 = true → completes (.leave rx a o b) s fun t =>
        SMap.get 0 t.girder.routes a = 0 ∧ (t.port p).sent = some (5, List.replicate 8 0 ++ leBytes 2 a ++ leBytes 1 (b2n o + 2 * b2n b)) ∧
        keeps [.girder] s t))

/-- R354 to R360: a worker measures the delay of its upstream link and keeps the mean of the last eight values; a value too far off is
rejected and counted. A SYNC is relayed with the link delay and residence, aligns a worker in ALIGNING that has its eight measurements,
and measures the error of a member. A manager sends its counts at the egress. -/
def Obligations.LinkDelayAndSync : Prop :=
  ∀ s : State,
    (∀ p, s.rd OD.ROLE = 1 → s.girder.upstream = some p → s.rd OD.GIRDER_STATE = 4 ∨ s.rd OD.GIRDER_STATE = 5 →
      16 ≤ s.girder.syncs → completes .delayMeasure s fun t => t.girder.syncs = 0 ∧ (t.port p).sent = some (0x11, List.replicate 12 0) ∧ keeps [.girder] s t) ∧
    (∀ (rx : GFrame) (turn : Word64), (s.frameIn rx 0x11).2 = true →
      let p := rx.port
      let d := (turn - BitVec.ofInt 64 (s.rdI OD.TS_ASYM p)).toNat
      completes (.delayReq rx turn) s fun t =>
        (t.port p).lastResp = d ∧ (t.port p).sent = some (0x12, leBytes 8 d) ∧
        keepsUnits {} p s.girder.ports t.girder.ports ∧ keeps [.girder] s t) ∧
    (∀ (rx : GFrame) (t1 t4 : Nat) (turn : Word64), (s.frameIn rx 0x12).2 = true →
      let p := rx.port
      let d : Int := (t4 : Int) + s.rdI OD.TS_ASYM p - t1 - turn.toInt
      let far : Prop := (s.port p).delays ≠ [] ∧ 1310720 < (d - 2 * s.rdI OD.LINK_DELAY p).natAbs
      (far → completes (.delayResp rx t1 t4 turn) s fun t =>
        t.rd OD.DELAY_REJECT p = min (s.rd OD.DELAY_REJECT p + 1) (2 ^ 32 - 1) ∧ keepsCells [OD.DELAY_REJECT.key p] s t ∧ keeps [.dict] s t) ∧
      (¬far → completes (.delayResp rx t1 t4 turn) s fun t =>
        let ds := (d :: (s.port p).delays).take 8
        (t.port p).delays = ds ∧ t.girder.measured = s.girder.measured + 1 ∧
        t.rd OD.LINK_DELAY p = ofSigned 32 (divEven (ds.foldl (· + ·) 0) (2 * ds.length)) ∧
        keepsCells [OD.LINK_DELAY.key p] s t ∧ keeps [.girder, .dict] s t)) ∧
    (∀ (rx : GFrame) (m : SyncMsg) (ingress : Nat) (frac : Fin 65536), (s.frameIn rx 0x10).2 = true → s.rd OD.TB_MODE 0 ≠ 1 →
      let p := rx.port
      let ti : Int := (ingress : Int) * 65536 + frac.val + s.rdI OD.TS_ASYM p
      let k := m.corr + s.rdI OD.LINK_DELAY p
      completes (.sync rx m ingress frac) s fun t =>
        (∀ q, q < 4 → s.rd OD.PORT_STATE q = 3 →
          (t.port q).sent = some (0x10, m.bytes (k + ((s.tcount : Int) * 65536 - ti)))) ∧
        t.girder.syncs = s.girder.syncs + 1 ∧ t.girder.mgrRate = m.mgrRate ∧ t.girder.lastSync = some (m, ti, k) ∧
        (s.rd OD.GIRDER_STATE = 4 → 8 ≤ s.girder.measured → m.tickdiv ≠ 0 →
          t.rd OD.GIRDER_STATE = 5 ∧ t.rd OD.ALIGN_STATUS = 1 ∧
          t.clock.cycle = ((s.clock.cycle : Int) + rnd (s.managerCycle m k - s.cycleAt ti) 16 false).toNat ∧
          t.clock.drone = (m.drone + (m.tphase + (t.clock.cycle - m.cyc)) / m.tickdiv) % 2 ^ 64 ∧
          t.clock.bnd = m.cyc - m.tphase + (m.tphase + (t.clock.cycle - m.cyc)) / m.tickdiv * m.tickdiv ∧
          keeps [.girder, .dict, .clock, .power, .decisions, .pins, .faults, .act, .deep, .lanes] s t) ∧
        (s.rd OD.GIRDER_STATE = 5 →
          let err := s.cycleAt ti - s.managerCycle m k
          t.rd OD.DRONE_ERR = ofSigned 32 (err / 256) ∧
          t.rd OD.ALIGN_STATUS = 1 + (if s.rd OD.DRONE_TOL * 65536 < err.natAbs then 2 else 0) + (if m.tickdiv = s.rd OD.TICKDIV then 0 else 4) ∧
          keeps [.girder, .dict, .host, .faults] s t)) ∧
    (∀ frac : Fin 65536, s.rd OD.ROLE = 2 → bit s.lic.features 5 = true → completes (.syncSend frac) s fun t =>
      (∀ q, q < 4 → s.rd OD.PORT_STATE q = 3 → ∃ m : SyncMsg, (t.port q).sent = some (0x10, m.bytes 0) ∧
        m.cyc = s.clock.cycle ∧ m.cycFrac = frac ∧ m.drone = s.clock.drone ∧ m.tphase = s.clock.cycle - s.clock.bnd ∧
        m.tickdiv = s.rd OD.TICKDIV ∧ m.origin = s.linearNow 0 ∧ m.syncLog2 = s.rd OD.SYNC_LOG2) ∧
      keeps [.girder] s t)

/-- R363 to R367, R371: a time base takes the time written, and a step that does not make it negative; a rate within RATE_LIMIT is taken in
FREE mode, an increment in its range in INCREMENT mode, without a jump of the value; an INC_ADJ steps it in INCREMENT mode. Without SYNC the
servo holds its last rate. -/
def Obligations.TimeBasesStepAndRate : Prop :=
  ∀ (s : State) (k : Fin 4), s.host.ready = true →
    let now := s.linearNow k
    let others (t : State) : Prop := keepsUnits {} k s.bases t.bases
    (∀ x : BitVec 96,
      (bits x.toNat 16 32 < 1000000000 → completes (.tbTimeWrite k x) s fun t =>
        t.linearNow k = ((x.toNat / 2 ^ 48 * 1000000000 + bits x.toNat 16 32) * 65536 + x.toNat % 65536 : Nat) ∧
        others t ∧ keeps [.bases, .tape] s t) ∧
      (1000000000 ≤ bits x.toNat 16 32 → completes (.tbTimeWrite k x) s fun t => t.bases = s.bases ∧ keeps [.tape] s t) ∧
      (0 ≤ now + x.toInt → completes (.tbStep k x) s fun t => t.linearNow k = now + x.toInt ∧ others t ∧ keeps [.bases, .tape] s t) ∧
      (now + x.toInt < 0 → completes (.tbStep k x) s fun t => t.bases = s.bases ∧ keeps [.tape] s t)) ∧
    (∀ r : Word32,
      (s.rd OD.TB_MODE k = 0 → r.toInt.natAbs ≤ s.rd OD.RATE_LIMIT → completes (.tbRateWrite k r) s fun t =>
        t.rdI OD.TB_RATE k = r.toInt ∧ t.linearNow k = now ∧ others t ∧ keepsCells [OD.TB_RATE.key k] s t ∧
        keeps [.bases, .dict, .tape] s t) ∧
      (s.rd OD.TB_MODE k ≠ 0 ∨ s.rd OD.RATE_LIMIT < r.toInt.natAbs → completes (.tbRateWrite k r) s fun t =>
        keeps [.tape] s t) ∧
      (0x00FF8001 ≤ r.toNat → r.toNat ≤ 0x01007FFF → completes (.tbIncrWrite k r) s fun t =>
        t.rd OD.TB_INCR k = r.toNat ∧ t.linearNow k = now ∧ others t ∧
        (s.rd OD.TB_MODE k = 2 → t.rdI OD.TB_RATE k = ((r.toNat : Int) - 0x01000000) * 65536) ∧
        (s.rd OD.TB_MODE k ≠ 2 → t.rd OD.TB_RATE k = s.rd OD.TB_RATE k) ∧ keeps [.bases, .dict, .tape] s t) ∧
      (r.toNat < 0x00FF8001 ∨ 0x01007FFF < r.toNat → completes (.tbIncrWrite k r) s fun t => keeps [.tape] s t) ∧
      (s.rd OD.TB_MODE k = 2 → 0 ≤ now + r.toInt → completes (.tbIncAdj k r) s fun t =>
        t.linearNow k = now + r.toInt ∧ others t ∧ keeps [.bases, .tape] s t) ∧
      (s.rd OD.TB_MODE k ≠ 2 → exec (.tbIncAdj k r) s = .next s)) ∧
    (s.rd OD.ROLE = 1 → s.rd OD.TB_MODE 0 = 1 → completes .servoHoldover s fun t =>
      t.rd OD.TB_RATE = ofSigned 32 (max (-(s.rd OD.RATE_LIMIT : Int)) (min (s.rd OD.RATE_LIMIT) (s.girder.mgrRate - s.girder.servoI))) ∧
      t.rd OD.SERVO_STATE = 2 ∧ t.linearNow 0 = s.linearNow 0 ∧ keeps [.bases, .dict, .host, .faults] s t)

/-- R339, R360 to R362, R368: a member relays a launch down and, where its bit is set, acts on it and answers with a code; the manager sends
one to its members and collects the answers until the time is over. A role override with presence changes role, ports and reference. The
loss of the upstream reference stops the device in HOLD and starts holdover, at whose end the PLLs relock to REFCLK or stop. -/
def Obligations.LaunchesRoleAndReferenceLoss : Prop :=
  ∀ s : State,
    (∀ (rx : GFrame) (m : LaunchMsg), s.rd OD.ROLE = 1 → s.rd OD.GIRDER_STATE = 5 → (s.frameIn rx 0x20).2 = true →
      let p := rx.port.val
      let u := (s.frameIn rx 0x20).1
      let a := s.rd OD.NODE_ADDR
      let ack (code ref : Nat) : Option (Nat × List Byte) := some (0x21, leBytes 8 m.count ++ leBytes 1 code ++ leBytes 1 ref ++ leBytes 2 a)
      let down (t : State) : Prop := ∀ q, q < 4 → q ≠ p → s.rd OD.PORT_STATE q = 3 → (t.port q).sent = some (0x20, m.bytes)
      (bit m.targets a = false ∨ m.kind = 0 ∨ 3 < m.kind → completes (.launch rx m) s fun t => down t ∧ keeps [.girder] u t) ∧
      (bit m.targets a = true → 1 ≤ m.kind → m.kind ≤ 3 →
        (m.count < s.clock.drone + 2 → completes (.launch rx m) s fun t =>
          down t ∧ (t.port p).sent = ack 1 0 ∧ keeps [.girder] s t) ∧
        (s.clock.drone + 2 ≤ m.count → m.kind = 2 → completes (.launch rx m) s fun t =>
          down t ∧ (t.port p).sent = ack 0 0 ∧ t.girder.pluckAt = s.girder.pluckAt ++ [m.count] ∧ keeps [.girder, .tape] s t) ∧
        (s.clock.drone + 2 ≤ m.count → m.kind = 1 → s.actBusy = true → completes (.launch rx m) s fun t =>
          down t ∧ (t.port p).sent = ack 3 0 ∧ keeps [.girder] s t) ∧
        (s.clock.drone + 2 ≤ m.count → m.kind = 1 → m.slot < 2 → m.mode < 2 → s.tape.replaying = false →
          (let x : Activation := { slot := m.slot, mode := m.mode, at_ := m.count, resumeAt := m.resumeAt, tickdiv := some m.tickdiv }
           (s.requestCode x s.nextDrone).1 = 0 → s.launchTickdivBad m.tickdiv = false → completes (.launch rx m) s fun t =>
             down t ∧ (t.port p).sent = ack 0 0 ∧ t.act = { s.act with pending := some { x with at_ := if m.count = 0 then s.nextDrone else m.count } } ∧
             t.rd OD.ACT_STATUS = 1 ∧ keeps [.girder, .act, .dict, .tape] s t)))) ∧
    (s.rd OD.ROLE = 2 → bit s.lic.features 5 = true →
      (∀ (rx : GFrame) (count : Word64) (code : Fin 4) (ref : Byte) (a : Fin 256), (s.frameIn rx 0x21).2 = true →
        s.girder.launchOpen = true → s.girder.launchCount = count.toNat →
        let e := if code.val = 0 then OD.LAUNCH_ACKED else OD.LAUNCH_REFUSED
        exec (.launchAck rx count code ref a) s = .next ((s.frameIn rx 0x21).1.wr e 0 (s.rd e ||| 2 ^ a.val))) ∧
      (∀ m : LaunchMsg, s.host.ready = true → 1 ≤ m.kind → m.kind ≤ 3 → m.args.length ≤ 983 → bit m.targets 0 = false →
        completes (.launchCmd m) s fun t =>
          (∀ q, q < 4 → s.rd OD.PORT_STATE q = 3 → (t.port q).sent = some (0x20, m.bytes)) ∧
          t.girder.launchOpen = true ∧ t.girder.launchCount = m.count ∧ t.rd OD.LAUNCH_ACKED = 0 ∧ t.rd OD.LAUNCH_REFUSED = 0 ∧
          t.rd OD.LAUNCH_COUNT = m.count ∧ t.rd OD.LAUNCH_TARGETS = m.targets ∧ t.rd OD.LAUNCH_KIND = m.kind ∧
          keeps [.girder, .dict, .tape] s t)) ∧
    exec .launchAckTimeout s = .next { s with girder.launchOpen := false } ∧
    (∀ v : Byte, s.host.ready = true → s.rd OD.EXPERT_EN = 1 → s.presenceHolds = true → s.act.running = false ∨ s.rd OD.DAMP_STATE = 6 →
      v.toNat < 3 ∨ v = 0xFF →
      let r := if v = 0xFF then (if s.boot.strapRole = 3 then 0 else s.boot.strapRole) else v.toNat
      completes (.roleOverride v) s fun t =>
        t.rd OD.ROLE_OVERRIDE = v.toNat ∧ t.rd OD.ROLE = r ∧
        (r ≠ s.rd OD.ROLE → (∀ q, q < 4 → t.rd OD.PORT_STATE q = (if r = 0 then 0 else 1)) ∧
          t.rd OD.GIRDER_STATE = (if r = 1 then 1 else 0) ∧ t.rd OD.NODE_ADDR = (if r = 2 then 0 else 0xFFFE) ∧
          t.rd OD.REF_SRC = (if r = 1 then s.rd OD.REF_SRC else 1) ∧ t.girder.upstream = none) ∧
        (r = s.rd OD.ROLE → t.girder = s.girder) ∧ keeps [.girder, .dict, .tape] s t) ∧
    (∀ v : Byte, s.presenceHolds = false ∨ (s.act.running = true ∧ s.rd OD.DAMP_STATE ≠ 6) → exec (.roleOverride v) s = .next s) ∧
    (∀ (p : Fin 4) (ref : Bool), s.rd OD.ROLE = 1 → s.girder.upstream = some p.val → completes (.upstreamLoss ref) s fun t =>
      t.rd OD.DAMP_STATE = 6 ∧ t.act.running = false ∧ t.act.admitOn = false ∧ t.rd OD.PORT_STATE p = 5 ∧ t.rd OD.GIRDER_STATE = 6 ∧
      t.rd OD.DEAD_CLOCK_CNT = min (s.rd OD.DEAD_CLOCK_CNT + 1) (2 ^ 32 - 1) ∧
      t.girder.upstream = none ∧ t.girder.holdover = some s.clock.cycle ∧ t.girder.refDead = !ref ∧ t.fabric = s.fabric) ∧
    (∀ (c : Nat) (ref : Bool), s.girder.holdover = some c → completes (.holdoverEnd ref) s fun t =>
      t.girder = { s.girder with holdover := none, refDead := !ref, refStopped := t.girder.refStopped } ∧
      (ref = true → s.rd OD.REF_FALLBACK = 1 ∨ s.rd OD.ROLE ≠ 1 → t.rd OD.REF_SRC = 1 ∧ t.clock.running = s.clock.running ∧
        t.girder.refStopped = s.girder.refStopped) ∧
      (ref = false ∨ (s.rd OD.REF_FALLBACK ≠ 1 ∧ s.rd OD.ROLE = 1) → t.rd OD.REF_SRC = 0 ∧ t.rd OD.PLL_LOCK = 0 ∧
        t.clock.running = false ∧ t.girder.refStopped = true) ∧
      (s.clock.running = true → t.clock.cycle = max s.clock.cycle (c + 2 ^ 20)) ∧ keeps [.clock, .fabric, .girder, .dict] s t)

/-- R372, R373, R378 to R387, R390, R424: a doorbell that comes before the response is taken is an overrun. With the engine free, a WRITE of
one entry that applies at once and passes the checks takes effect and is counted; one that names no entry, a read-only, an Expert or a
presence-gated entry without its right, is refused with the status of the first check that fails, counted, and
changes no entry; a DRY one has the same answer and no effect. A READ waits for its boundary; DESCRIBE and LIST are answered. -/
def Obligations.MailboxRequestsAreServed : Prop :=
  ∀ (s : State) (m : OdMsg), s.host.ready = true →
    (∀ c : Instr, (c = .odRead m ∨ c = .odWrite m ∨ c = .odWriteDry m ∨ c = .odDescribe m ∨ c = .odList m) →
      s.host.busy = true ∨ s.host.done = true → completes c s fun t =>
        t.host = { s.host with overrun := true } ∧ t.rd OD.MB_OVERRUNS = min (s.rd OD.MB_OVERRUNS + 1) (2 ^ 32 - 1) ∧
        keepsCells [OD.MB_OVERRUNS.key 0] s t ∧ keeps [.host, .dict] s t) ∧
    (s.host.busy = false → s.host.done = false → s.dict.read = none → s.girder.forward = none → s.dict.waiting = [] →
      let answered (r : Resp) (t : State) : Prop := t.host.resp = r ∧ t.host.done = true ∧ t.host.busy = false
      let basic (op : OdOp) : Resp := { tag := m.tag.toNat, op := op }
      (m.bell ≠ m.tag → completes (.odRead m) s fun t => answered { basic .read with status := 13 } t ∧ keeps [.host] s t) ∧
      (m.bell = m.tag → m.target = 0xFFFD → (∀ op, (m.bytes op).length ≤ 1024) →
        (m.at_ = 0 → completes (.odRead m) s fun t =>
          t.dict = { s.dict with read := some (m, s.nextDrone, false) } ∧ t.host = { s.host with busy := true } ∧ keeps [.host, .dict] s t) ∧
        (m.at_ ≠ 0 → m.at_ < s.clock.drone + 2 → completes (.odRead m) s fun t =>
          t.host.resp.status = 8 ∧ t.host.done = true ∧ keeps [.host] s t) ∧
        (∀ (e : Entry) (data : List Byte), m.items = [{ index := e.idx, sub := e.sub, data := data }] → m.at_ = 0 →
          findEntry e.idx e.sub = some e → lenOk e data.length = true →
          let v := valueOf e data
          let w : Write := { entry := e, sub := e.sub, unit := 0, val := v }
          let t0 := (s.recOd e e.sub 0 0 s.nextTick (bytesOf e v)).wr e 0 v
          (e.sel = .none → e.app = .imm → e.acc ≠ .ro → (∀ p ∈ effects s.nextDrone, p.1.key 0 ≠ e.key 0) → e ≠ OD.REPLAY_CMD →
            e ≠ OD.LAUNCH_CMD → s.writeStatus w = 0 → s.itemStatus w = 0 → s.ruleStatus t0 w = 0 →
            let ok : Resp := { basic .write with items := [(e.idx, e.sub, 0, [])] }
            (completes (.odWrite m) s fun t => answered ok t ∧ t.rd e = v ∧
              t.rd OD.TXN_COMMITTED = (s.rd OD.TXN_COMMITTED + 1) % 2 ^ 64 ∧ t.tape = t0.tape ∧
              keepsCells [e.key 0, OD.TXN_COMMITTED.key 0] s t ∧ keeps [.host, .dict, .tape] s t) ∧
            (completes (.odWriteDry m) s fun t => answered ok t ∧ keeps [.host] s t)) ∧
          (e.acc = .ro ∨ (e.expert = true ∧ s.rd OD.EXPERT_EN ≠ 1) ∨
              (e.acc = .rwp ∧ s.presenceHolds = false ∧ e ≠ OD.SEAL_EN ∧ e ≠ OD.DEBUG_UNLOCK) →
            let st := if e.acc = .ro then 2 else if e.expert = true ∧ s.rd OD.EXPERT_EN ≠ 1 then 5 else 6
            let no : Resp := { basic .write with status := st, failItem := 0, items := [(e.idx, e.sub, st, [])] }
            (completes (.odWrite m) s fun t => answered no t ∧
              t.rd OD.TXN_REFUSED = (s.rd OD.TXN_REFUSED + 1) % 2 ^ 64 ∧ keepsCells [OD.TXN_REFUSED.key 0] s t ∧ keeps [.host, .dict] s t) ∧
            (completes (.odWriteDry m) s fun t => answered no t ∧ keeps [.host] s t))) ∧
        (∀ e : Entry, m.items = [{ index := e.idx, sub := e.sub }] → m.at_ = 0 → findEntry e.idx e.sub = some e → s.levelOk e = true →
          completes (.odDescribe m) s fun t => keeps [.host] s t ∧
            answered { basic .describe with items := [(e.idx, e.sub, 0, leBytes 1 e.typ.code ++ leBytes 1 e.acc.code ++ leBytes 1 (b2n e.expert) ++ leBytes 1 e.app.code ++ leBytes 2 e.typ.size ++ leBytes 2 0)] } t) ∧
        (∀ i : OdItem, m.items = [i] → m.at_ = 0 →
          (findEntry i.index i.sub = none → i.sub ≠ 0 → completes (.odWrite m) s fun t =>
            answered { basic .write with status := 1, failItem := 0, items := [(i.index, i.sub, 1, [])] } t ∧
            t.rd OD.TXN_REFUSED = (s.rd OD.TXN_REFUSED + 1) % 2 ^ 64 ∧ keeps [.host, .dict] s t) ∧
          (i.sub = 0 → i.data = [] → (∃ e ∈ OD.table, e.idx = i.index) → completes (.odList m) s fun t => keeps [.host] s t ∧
            ∃ bs : List Byte, answered { basic .list with items := [(i.index, 0, 0, bs)] } t ∧ bs.length = 32 ∧
              ∀ n, n < 256 → (bit (leNat bs) n = true ↔ n = 0 ∨ ∃ e ∈ OD.table, e.idx = i.index ∧ s.levelOk e = true ∧ e.sub ≤ n ∧ n ≤ e.last))))) ∧
    exec .mbAck s = .next { s with host.done := false, host.overrun := false, host.resp := {} }

/-- R385, R386, R400, R401: at the tick boundary of a timed transaction that is the first due, it leaves the queue and commits, counted;
where an Expert entry may no longer be written it fails, and the failure is reported with its tag and status. With none due nothing
happens. -/
def Obligations.TimedTransactionsCommitOrFail : Prop :=
  ∀ s : State,
    (s.clock.running = false ∨ (∀ x ∈ s.dict.txns, s.nextDrone < x.commitAt) → exec .txnCommit s = .next s) ∧
    (∀ (x : Txn) (more : List Txn) (e : Entry) (v : Nat), s.clock.running = true → s.dict.txns = x :: more → x.commitAt ≤ s.nextDrone →
      findEntry e.idx e.sub = some e → valueOf e (bytesOf e v) = v →
      let w : Write := { entry := e, sub := e.sub, unit := 0, val := v }
      x.items = [w.pack] →
      let u := { s.advanceTo s.nextBoundary with dict.txns := more }
      let t0 := (u.recOd e e.sub 0 (b2n x.girder) u.nextTick (bytesOf e v)).wr e 0 v
      (e.app = .imm ∨ e.app = .tick → (∀ p ∈ effects ((s.clock.drone + 2) % 2 ^ 64), p.1.key 0 ≠ e.key 0) → e ≠ OD.REPLAY_CMD →
        e ≠ OD.LAUNCH_CMD → u.writeStatus w = 0 → u.itemStatus w = 0 → u.ruleStatus t0 w = 0 →
        completes .txnCommit s fun t => t.rd e = v ∧ t.rd OD.TXN_COMMITTED = (s.rd OD.TXN_COMMITTED + 1) % 2 ^ 64 ∧
          t.dict.txns = more ∧ keeps [.clock, .fabric, .dict, .tape] s t) ∧
      (e.expert = true → s.rd OD.EXPERT_EN ≠ 1 → completes .txnCommit s fun t =>
        t.rd OD.TXN_FAILED_CNT = (s.rd OD.TXN_FAILED_CNT + 1) % 2 ^ 64 ∧
        t.rd OD.LAST_TXN_FAIL = x.tag + 2 ^ 32 * 5 + 2 ^ 40 * b2n x.girder ∧ t.dict.txns = more ∧
        keeps [.clock, .fabric, .dict, .host, .faults] s t))

/-- R376, R378, R391 to R393, R395, R397, R399, R400, R433: BAR0 registers take their fields; a vector's spacing ends, and a signal held
back leaves; a function level reset returns BAR0 and the ring to reset and keeps what is in service; the link's rate and width are
reported. A member takes a request of the manager and relays one for an address below it; a manager's forwarded request is answered by the
response or by TIMEOUT. -/
def Obligations.HostRegistersLinkAndForwarding : Prop :=
  ∀ s : State,
    (∀ v : Word32,
      exec (.bar0RegisterWrite .mbIrqEn v) s = .next { s with host.irqEn := bit v.toNat 0 } ∧
      exec (.bar0RegisterWrite .evtTail v) s = .next { s with host.tail := v.toNat % 256 } ∧
      exec (.bar0RegisterWrite .evtMod v) s = .next { s with host.modUs := v.toNat % 65536 } ∧
      (∀ (ofs : Fin 16384) (bytes : List Byte), bytes.length ≤ 128 → ofs.val + bytes.length ≤ 16384 →
        completes (.bar0RegisterWrite (.staging ofs bytes) v) s fun t =>
          (∀ i, i < bytes.length → SMap.get 0 t.boot.staging (ofs + i) = bytes.getD i 0) ∧
          (∀ i, i < ofs.val ∨ ofs.val + bytes.length ≤ i → SMap.get 0 t.boot.staging i = SMap.get 0 s.boot.staging i) ∧
          t.boot = { s.boot with staging := t.boot.staging } ∧ keeps [.boot] s t) ∧
      (∀ (w : Fin 128) (x : Word32), w.val % 4 ≠ 3 → completes (.bar0RegisterWrite (.msix w x) v) s fun t =>
        t.msixWord w = (if w.val % 4 = 0 then x.toNat - x.toNat % 4 else x.toNat) ∧
        (∀ n, n ≠ w.val → t.msixWord n = s.msixWord n) ∧ t.host = { s.host with msix := t.host.msix } ∧ keeps [.host] s t) ∧
      (∀ (k : Fin 32) (x : Word32) (w : Fin 128), w.val = 4 * k + 3 → completes (.bar0RegisterWrite (.msix w x) v) s fun t =>
        t.msixWord w = x.toNat % 2 ∧ (∀ n, n ≠ w.val → t.msixWord n = s.msixWord n) ∧
        (x.toNat % 2 = 0 → bit s.host.pba k = true → t.host.pba = s.host.pba - 2 ^ k.val ∧
          SMap.get 0 t.host.signals k = SMap.get 0 s.host.signals k + 1) ∧
        (x.toNat % 2 = 1 ∨ bit s.host.pba k = false → t.host.pba = s.host.pba ∧ t.host.signals = s.host.signals) ∧ keeps [.host] s t)) ∧
    (∀ v : Fin 32, s.host.spacing.contains v.val = true → completes (.evtModExpiry v) s fun t =>
      (s.host.heldBack.contains v.val = false → v.val ∉ t.host.spacing ∧ t.host.signals = s.host.signals) ∧
      (s.host.heldBack.contains v.val = true → v.val ∉ t.host.heldBack ∧
        (bit (s.msixWord (4 * v + 3)) 0 = false → SMap.get 0 t.host.signals v = SMap.get 0 s.host.signals v + 1)) ∧ keeps [.host] s t) ∧
    (completes .functionLevelReset s fun t =>
      t.host.irqEn = false ∧ t.host.done = false ∧ t.host.overrun = false ∧ t.host.ring = [] ∧ t.host.head = 0 ∧ t.host.tail = 0 ∧
      t.host.modUs = 0 ∧ t.host.winBase = 0 ∧ t.host.msix = [] ∧ t.host.ready = s.host.ready ∧ t.host.busy = s.host.busy ∧ keeps [.host] s t) ∧
    (∀ (rate : Fin 8) (width : Fin 32), 1 ≤ rate.val → rate.val ≤ 6 → width.val = 1 ∨ width.val = 2 ∨ width.val = 4 →
      completes (.pcieLinkUp rate width) s fun t =>
        t.rd OD.PCIE_LINK = rate + 16 * width + (if rate.val = 6 then 512 else 0) + 1024 ∧
        t.rd OD.PLL_LOCK = (if s.clock.running then s.rd OD.PLL_LOCK ||| 2 ^ 9 else s.rd OD.PLL_LOCK) ∧
        keepsCells [OD.PCIE_LINK.key 0, OD.PLL_LOCK.key 0] s t ∧ keeps [.dict] s t) ∧
    exec .pcieLinkDown s = .next (s.wr OD.PCIE_LINK 0 0) ∧
    (∀ (rx : GFrame) (op : OdOp) (m : OdMsg), (s.frameIn rx 0x30).2 = true →
      let u := (s.frameIn rx 0x30).1
      (∀ p, rx.dst.toNat ≠ s.rd OD.NODE_ADDR → SMap.get 0 s.girder.routes rx.dst.toNat = p + 1 → completes (.odReq rx op m) s fun t =>
        (t.port p).sent = some (0x30, m.bytes op) ∧ keeps [.girder] u t) ∧
      (rx.dst.toNat = s.rd OD.NODE_ADDR → rx.src = 0 → s.rd OD.GIRDER_STATE = 5 → s.host.ready = true →
        s.dict.read = none → s.girder.forward = none → s.dict.waiting = [] → m.at_ = 0 → completes (.odReq rx .read m) s fun t =>
          t.dict = { s.dict with read := some (m, s.nextDrone, true) } ∧ keeps [.dict] u t)) ∧
    (∀ (rx : GFrame) (a : Fin 256) (tag : Word16) (op : OdOp) (st : Byte) (fail : Word16) (tick : Word64) (items : List (OdItem × Byte)),
      (s.frameIn rx 0x31).2 = true →
      let u := (s.frameIn rx 0x31).1
      (s.rd OD.ROLE ≠ 1 → s.girder.forward = some (a.val, tag.toNat, op) → s.dict.waiting = [] →
        completes (.odResp rx a tag op st fail tick items) s fun t =>
          t.host.resp = { tag := tag.toNat, op := op, status := st.toNat, failItem := fail.toNat, tick := tick.toNat, items := items.map fun i => (i.1.index, i.1.sub, i.2.toNat, i.1.data) } ∧
          t.host.done = true ∧ t.host.busy = false ∧ t.girder = { u.girder with forward := none } ∧ keeps [.host, .girder] u t) ∧
      (∀ p, s.rd OD.ROLE = 1 → s.girder.upstream = some p →
        completes (.odResp rx a tag op st fail tick items) s fun t => (∃ bs, (t.port p).sent = some (0x31, bs)) ∧ keeps [.girder] s t)) ∧
    (∀ (a tag : Nat) (op : OdOp), s.girder.forward = some (a, tag, op) → s.dict.waiting = [] → completes .odForwardTimeout s fun t =>
      t.host.resp = { tag := tag, op := op, status := 15 } ∧ t.host.done = true ∧ t.host.busy = false ∧
      t.girder = { s.girder with forward := none } ∧ keeps [.host, .girder] s t)

/-- R416 to R418: a chunk of a licence is staged at LIC_OFS, which advances, and one that would pass position 1,731 is refused whole. The
check takes the staged licence, which replaces the one before and empties the buffer, or names the first of its seven failures and changes
nothing else. Removal leaves the base envelope. While a check runs, every licence command is refused. -/
def Obligations.LicencesInstallAndRemove : Prop :=
  ∀ s : State,
    let ofs := s.rd OD.LIC_OFS
    (s.host.ready = true → s.lic.checking = false →
      (∀ bytes : List Byte, 1 ≤ bytes.length → bytes.length ≤ 1000 →
        (ofs + bytes.length ≤ 1732 → completes (.licData bytes) s fun t =>
          (∀ i, i < bytes.length → SMap.get none t.lic.staged (ofs + i) = some (bytes.getD i 0)) ∧
          (∀ i, i < ofs ∨ ofs + bytes.length ≤ i → SMap.get none t.lic.staged i = SMap.get none s.lic.staged i) ∧
          t.lic = { s.lic with staged := t.lic.staged } ∧ t.rd OD.LIC_OFS = ofs + bytes.length ∧
          keepsCells [OD.LIC_OFS.key 0] s t ∧ keeps [.lic, .dict, .tape] s t) ∧
        (1732 < ofs + bytes.length → exec (.licData bytes) s = .next s)) ∧
      (completes .licInstall s fun t =>
        t.lic = { s.lic with checking := true } ∧ t.rd OD.LIC_STATE = 3 ∧ keepsCells [OD.LIC_STATE.key 0] s t ∧ keeps [.lic, .dict, .tape] s t) ∧
      (completes .licDiscard s fun t => t.lic = { s.lic with staged := [] } ∧ keeps [.lic, .tape] s t) ∧
      (completes .licRemove s fun t =>
        t.lic = { s.lic with installed := false, features := 0, clkMax := 400, pcapMax := 90, lanesMax := 32 } ∧
        t.rd OD.LIC_STATE = 0 ∧ t.rd OD.LIC_FEATURES = 0 ∧ t.rd OD.LIC_ENVELOPE = 400 + 90 * 2 ^ 16 + 32 * 2 ^ 32 ∧
        t.rd OD.ENV_IN_FORCE = s.rd OD.ENV_IN_FORCE ∧ keeps [.lic, .dict, .tape, .host, .faults] s t)) ∧
    (s.lic.checking = true → ∀ bytes : List Byte,
      exec (.licData bytes) s = .next s ∧ exec .licInstall s = .next s ∧ exec .licDiscard s = .next s ∧ exec .licRemove s = .next s) ∧
    (s.lic.checking = true →
      let f := s.licField 20 4
      let clk := s.licField 24 2
      let cap := s.licField 26 2
      let lanes := s.licField 28 1
      let key := s.licBytes 64 56
      let checks : List Prop :=
        [∀ i, i < 1732 → SMap.get none s.lic.staged i ≠ none,
         s.licField 0 4 = 0x4C494358 ∧ s.licField 4 2 = 1 ∧ s.licField 6 2 = 0 ∧ s.licField 29 35 = 0 ∧ f < 64,
         bit (s.fuse 4864 4) 3 = false,
         leNat (sha256 key) = s.fuse 4608 256 ∧ beNat (key.take 4) = 7 ∧ beNat ((key.drop 4).take 4) = 4,
         lmsVerify key (s.licBytes 120 1612) (s.licBytes 0 64) = true,
         s.licField 8 8 = s.fuse 32 64,
         400 ≤ clk ∧ clk ≤ 600 ∧ 90 ≤ cap ∧ cap ≤ 180 ∧ 32 ≤ lanes ∧ lanes ≤ 64 ∧ (lanes = 32 ∨ bit f 4 = true)]
      (∀ k, k < 7 → (∀ j, j < k → checks.getD j True) → ¬checks.getD k True → completes .licCheckDone s fun t =>
        t.lic = { s.lic with checking := false } ∧ t.rd OD.LIC_STATE = 2 ∧ t.rd OD.LIC_REFUSE = k + 1 ∧
        t.rd OD.LIC_FEATURES = s.rd OD.LIC_FEATURES ∧ t.rd OD.LIC_ENVELOPE = s.rd OD.LIC_ENVELOPE ∧ keeps [.lic, .dict, .host, .faults] s t) ∧
      ((∀ j, j < 7 → checks.getD j True) → completes .licCheckDone s fun t =>
        t.lic = { s.lic with checking := false, installed := true, staged := [], features := f, clkMax := clk, pcapMax := cap, lanesMax := lanes } ∧
        t.rd OD.LIC_STATE = 1 ∧ t.rd OD.LIC_REFUSE = 0 ∧ t.rd OD.LIC_FEATURES = f ∧
        t.rd OD.LIC_ENVELOPE = clk + cap * 2 ^ 16 + lanes * 2 ^ 32 ∧ t.rd OD.LIC_ID = s.licField 16 4 ∧
        t.rd OD.ENV_IN_FORCE = s.rd OD.ENV_IN_FORCE ∧ keeps [.lic, .dict, .host, .faults] s t))

/-- R423: physical presence holds when no seal break has been latched since power-up, and PRESENT_N is low or a presence window is open. -/
def Obligations.PresenceHoldsWhenTheRuleSays : Prop :=
  ∀ s : State, s.presenceHolds = true ↔
    s.lic.sealLatched = false ∧ (s.lic.presentN = false ∨ ∃ t, s.lic.windowEnd = some t ∧ s.tcount < t)

/-- R420 to R422, R424 to R429, R504, R505: a press opens a window of 60 s once the clocks run; it ends in time, by PRES_CLOSE, or by a seal
break, which is latched and counted if the loop was intact. With presence and expert access the host programs bits of one fuse field; a
value that would revoke every firmware root, or move the SVN floor down or above the running firmware, is refused. The debug port is
unlocked under presence, and instructions it may not run act as BYPASS. -/
def Obligations.PresenceFusesAndDebugPort : Prop :=
  ∀ s : State,
    (s.clock.running = true → exec .presenceBtnPress s = .next { s with lic.windowEnd := some (s.tcount + 60000000000) }) ∧
    (s.clock.running = false → exec .presenceBtnPress s = .next s) ∧
    (s.lic.windowEnd = none → exec .presenceWindowExpiry s = .next s) ∧
    (s.lic.windowEnd ≠ none → completes .presenceWindowExpiry s fun t =>
      t.lic = { s.lic with windowEnd := none } ∧ keeps [.lic, .clock, .fabric] s t) ∧
    (s.host.ready = true → completes .presClose s fun t => t.lic = { s.lic with windowEnd := none } ∧ keeps [.lic, .tape] s t) ∧
    (∀ level : Bool, exec (.presentNChange level) s = .next { s with lic.presentN := level }) ∧
    (s.lic.sealIntact = true → completes .sealLoopBreak s fun t =>
      t.lic = { s.lic with sealIntact := false, sealLatched := true, windowEnd := none } ∧ t.presenceHolds = false ∧
      t.rd OD.SEAL_BREAKS = min (s.rd OD.SEAL_BREAKS + 1) (2 ^ 32 - 1) ∧ keeps [.lic, .dict, .host, .faults] s t) ∧
    (s.lic.sealIntact = false → exec .sealLoopBreak s = .next s) ∧
    exec .sealLoopRestored s = .next { s with lic.sealIntact := true } ∧
    (∀ (field : Byte) (value : BitVec 256),
      let v := value.toNat
      let n := v % 256
      let programs (m : Nat) : Prop := completes (.fuseProgram field value) s fun t =>
        t.boot = { s.boot with fuseBusy := some (m, field.toNat) } ∧ t.rd OD.FUSE_STATUS = 1 ∧ t.rd OD.FUSE_FIELD = field.toNat ∧
        t.rd OD.FUSE_VALUE = v ∧ keepsCells [OD.FUSE_STATUS.key 0, OD.FUSE_FIELD.key 0, OD.FUSE_VALUE.key 0] s t ∧ keeps [.boot, .dict, .tape] s t
      let refused : Prop := completes (.fuseProgram field value) s fun t =>
        t.rd OD.FUSE_STATUS = 4 ∧ keepsCells [OD.FUSE_STATUS.key 0] s t ∧ keeps [.dict] s t
      (s.presenceHolds = false → exec (.fuseProgram field value) s = .next s) ∧
      (s.host.ready = true → s.rd OD.EXPERT_EN = 1 → s.presenceHolds = true → s.boot.fuseBusy = none →
        (field = 1 → (s.fuse 4864 4 ||| v % 16) % 4 ≠ 3 → programs (v % 16 * 2 ^ 4864)) ∧
        (field = 1 → (s.fuse 4864 4 ||| v % 16) % 4 = 3 → refused) ∧
        (field = 2 → s.svnFloor ≤ n → n ≤ 64 → n ≤ s.rd OD.FW_SVN_RUN → programs ((2 ^ n - 1) * 2 ^ 4928)) ∧
        (field = 2 → n < s.svnFloor ∨ s.rd OD.FW_SVN_RUN < n → refused) ∧
        (field = 3 → bit v 0 = true → programs (2 ^ 4992)) ∧
        (field = 4 → programs (v * 2 ^ 5120)))) ∧
    (∀ (m field : Nat), s.boot.fuseBusy = some (m, field) →
      (completes (.fuseProgramDone true) s fun t =>
        t.boot = { s.boot with fuseBusy := none, otp := s.boot.otp ||| BitVec.ofNat 8192 m } ∧ t.rd OD.FUSE_STATUS = 2 ∧
        keepsCells [OD.FUSE_STATUS.key 0] s t ∧ keeps [.boot, .dict] s t) ∧
      (completes (.fuseProgramDone false) s fun t =>
        (∀ i, s.boot.otp.getLsbD i = true → t.boot.otp.getLsbD i = true) ∧
        (∀ i, t.boot.otp.getLsbD i = true → s.boot.otp.getLsbD i = true ∨ m.testBit i = true) ∧
        t.boot = { s.boot with fuseBusy := none, otp := t.boot.otp } ∧ t.rd OD.FUSE_STATUS = 3 ∧ keeps [.boot, .dict, .host, .faults, .draws] s t)) ∧
    (s.presenceHolds = false ∨ s.fuse 4992 1 ≠ 0 → exec .debugUnlock s = .next s) ∧
    (s.host.ready = true → s.rd OD.EXPERT_EN = 1 →
      (s.presenceHolds = true → s.fuse 4992 1 = 0 → completes .debugUnlock s fun t =>
        t.boot = { s.boot with unlocked := true } ∧ (s.boot.unlocked = false → t.rd OD.DEBUG_UNLOCK = 1) ∧
        keeps [.boot, .dict, .tape, .host, .faults] s t) ∧
      (completes .debugRelock s fun t =>
        t.boot = { s.boot with unlocked := false, tap := .bypass } ∧ t.rd OD.DEBUG_UNLOCK = 0 ∧
        keepsCells [OD.DEBUG_UNLOCK.key 0] s t ∧ keeps [.boot, .dict, .tape] s t)) ∧
    (∀ i : TapInstr,
      let quiet : Prop := s.faults.safe = true ∨ s.rd OD.DAMP_STATE = 6 ∨ (s.act.running = false ∧ s.rd OD.DAMP_STATE = 0)
      (i = .idcode → exec (.tapInstruction i) s =
        .next { s with boot.tap := .idcode, boot.tapOut := 1 + 2 * 0x2B5 + 2 ^ 12 * 0xA815 + 2 ^ 28 * (s.rd OD.STEPPING % 16) }) ∧
      (i = .bypass ∨ (i ≠ .idcode ∧ s.boot.unlocked = false) ∨ (i = .extest ∧ ¬quiet) → exec (.tapInstruction i) s =
        .next { s with boot.tap := .bypass, boot.tapOut := 0 }) ∧
      (s.boot.unlocked = true → i = .samplePreload ∨ i = .vendor ∨ (i = .extest ∧ quiet) → completes (.tapInstruction i) s fun t =>
        t.boot = { s.boot with tap := i, tapOut := t.boot.tapOut } ∧ keeps [.boot, .draws] s t))

/-- R433 to R441: a lane PLL that loses lock sends its lanes back to PLL; one that the running configuration uses stops the device, which
enters HOLD. A mux passes what it is switched to; a switch that the watchdog forces counts, and on a reference or bypass mux stops the
device. CLKMON takes an allowed setting. A gate closes on an idle acknowledge where there is an occasion, and a refusal is counted. -/
def Obligations.ClocksMuxesAndGates : Prop :=
  ∀ s : State,
    let held (t : State) : Prop := t.rd OD.DAMP_STATE = 6 ∧ t.act.running = false ∧ t.act.admitOn = false ∧ t.act.loadDone = false ∧
      t.deep.serving = none ∧ t.deep.active = false ∧ t.fabric = s.fabric ∧ t.boot = s.boot ∧ t.lic = s.lic ∧ t.groups = s.groups
    (∀ k : Fin 42, 10 ≤ k.val → s.clock.running = true →
      let q := (k.val - 10) / 2
      let side := k.val % 2
      completes (.pllUnlock k) s fun t =>
        bit (t.rd OD.LQ_STATUS q) side = false ∧ (∀ b, b ≠ side → bit (t.rd OD.LQ_STATUS q) b = bit (s.rd OD.LQ_STATUS q) b) ∧
        (∀ l, l / 4 = q → side = 0 → t.rd OD.RX_STATE l = (if bit (s.rd OD.LANE_EN l) 0 then 1 else s.rd OD.RX_STATE l) ∧
          t.rd OD.TX_STATE l = s.rd OD.TX_STATE l) ∧
        (∀ l, l / 4 = q → side = 1 → t.rd OD.TX_STATE l = (if bit (s.rd OD.LANE_EN l) 1 then 1 else s.rd OD.TX_STATE l) ∧
          t.rd OD.RX_STATE l = s.rd OD.RX_STATE l) ∧
        keeps [.lanes, .dict, .host, .faults] s t) ∧
    (∀ k : Fin 42, k.val < 10 → s.clock.running = true → bit (s.rd OD.PLL_LOCK) k = true →
      let used : Prop := k.val ≤ 4 ∨ (s.act.running = true ∧ (k.val ≤ 7 ∨ (k.val = 8 ∧ s.rd OD.ROLE ≠ 0)))
      (¬used → exec (.pllUnlock k) s = .next (s.wr OD.PLL_LOCK 0 (s.rd OD.PLL_LOCK - 2 ^ k.val))) ∧
      (used → completes (.pllUnlock k) s fun t => t.rd OD.PLL_LOCK = s.rd OD.PLL_LOCK - 2 ^ k.val ∧ held t)) ∧
    (∀ (m : Fin 8) (src : Fin 64),
      (m.val = 0 → exec (.clockMuxSwitch m src) s = .next (if 1 ≤ src.val ∧ src.val ≤ 5 then s.wr OD.REF_SRC 0 src else s)) ∧
      (m.val ≠ 0 → completes (.clockMuxSwitch m src) s fun t =>
        SMap.get 0 t.power.mux m = (if m.val = 7 then s.rd OD.CLKMON_SEL else min src.val 1) ∧ keepsUnits 0 m s.power.mux t.power.mux ∧
        t.power = { s.power with mux := t.power.mux } ∧ keeps [.power] s t) ∧
      (s.clock.running = true → completes (.deadClock m src) s fun t =>
        t.rd OD.DEAD_CLOCK_CNT = min (s.rd OD.DEAD_CLOCK_CNT + 1) (2 ^ 32 - 1) ∧
        (m.val = 7 → SMap.get 0 t.power.mux 7 = s.rd OD.CLKMON_SEL ∧ keepsCells [OD.DEAD_CLOCK_CNT.key 0] s t ∧ keeps [.power, .dict] s t) ∧
        (1 ≤ m.val → m.val ≤ 6 → SMap.get 0 t.power.mux m = min src.val 1 ∧ held t) ∧
        (m.val = 0 → s.girder.upstream = none → held t ∧
          (1 ≤ src.val → src.val ≤ 5 → src.val ≠ s.rd OD.REF_SRC → t.rd OD.REF_SRC = src ∧ t.girder = s.girder) ∧
          (src.val = 0 ∨ 5 < src.val ∨ src.val = s.rd OD.REF_SRC → t.rd OD.REF_SRC = s.rd OD.REF_SRC ∧
            t.girder = { s.girder with holdover := some s.clock.cycle, refDead := true })))) ∧
    (∀ (sel : Byte) (div : Word16), s.host.ready = true → s.rd OD.EXPERT_EN = 1 →
      let fits : Prop := 1 ≤ div.toNat ∧ div.toNat ≤ 4096 ∧ ∃ f, s.clkmonKhz sel.toNat = some f ∧ f ≤ 250000 * div.toNat
      (fits → completes (.clkmonWrite sel div) s fun t =>
        t.rd OD.CLKMON_SEL = sel.toNat ∧ t.rd OD.CLKMON_DIV = div.toNat ∧ SMap.get 0 t.power.mux 7 = sel.toNat ∧
        keepsUnits 0 7 s.power.mux t.power.mux ∧ keepsCells [OD.CLKMON_SEL.key 0, OD.CLKMON_DIV.key 0] s t ∧ keeps [.dict, .power, .tape] s t) ∧
      (¬fits → exec (.clkmonWrite sel div) s = .next s)) ∧
    (∀ b : Nat, b < 8272 →
      let occasion : Prop :=
        (b < 8256 ∧ s.faults.safe = true ∧ s.faults.safeDrained = true) ∨ (b < 8192 ∧ s.act.loadDone = true ∧ (s.core b).loaded = false) ∨
        (8192 ≤ b ∧ b < 8256 ∧ s.quadIdle (b - 8192) = true) ∨ (8256 ≤ b ∧ ∀ l, l / 4 = b - 8256 → s.rd OD.LANE_EN l % 4 = 0)
      (occasion → completes (.gateIdleAck b) s fun t => SMap.get false t.power.gates b = true ∧ keepsUnits false b s.power.gates t.power.gates ∧
        t.power = { s.power with gates := t.power.gates } ∧ keeps [.power] s t) ∧
      (occasion → SMap.get false s.power.gates b = false → completes (.gateRefused b) s fun t =>
        t.rd OD.GATE_REFUSED_CNT = min (s.rd OD.GATE_REFUSED_CNT + 1) (2 ^ 32 - 1) ∧ keeps [.dict, .host, .faults] s t) ∧
      (¬occasion → exec (.gateIdleAck b) s = .next s ∧ exec (.gateRefused b) s = .next s))

/-- R443 to R451, R456, R458 to R461: a rail moves by at most 25 mV a write toward what the margins and a boost demand, and freezes at the
fourth failure; a hint waits, boosts its dies and ends. An interval's estimate gives PWR_EST, PWR_AVG, the energy and the throttle level,
the higher of the two demands. A sample gives the sensors, or at the fourth in a row at 115 °C trips the device. A trip stretches the
group of a die, whose edges are every second one, until its detectors are clear. -/
def Obligations.RailsDroopPowerAndHeat : Prop :=
  ∀ s : State,
    let moved (d : Nat) (t : State) : Nat :=
      let v := s.rd OD.VDD_SET d
      let x := t.railTarget d
      if v < x then min x (v + 25) else if x < v ∧ s.lowerHeld d = false then max x (v - 25) else v
    (∀ (d : Fin 4) (ok : Bool) (mv amps : Word16), 3 ≤ s.boot.stage →
      (ok = true → completes (.avsTransactionDone d ok mv amps) s fun t =>
        t.rd OD.VDD_READ d = mv.toNat ∧ t.rd OD.IDD_READ d = amps.toNat ∧ t.rd OD.VDD_SET d = moved d s ∧
        t.die d = { s.die d with avsBusy := decide (moved d s ≠ s.rd OD.VDD_SET d), retries := 0, frozen := false } ∧
        keepsUnits {} d s.power.dies t.power.dies ∧
        keepsCells [OD.VDD_READ.key d, OD.IDD_READ.key d, OD.VDD_SET.key d] s t ∧ keeps [.dict, .power] s t) ∧
      (ok = false → (s.die d).frozen = false → completes (.avsTransactionDone d ok mv amps) s fun t =>
        ((s.die d).retries < 3 → t.die d = { s.die d with retries := (s.die d).retries + 1 } ∧ keeps [.power] s t) ∧
        (3 ≤ (s.die d).retries → t.die d = { s.die d with avsBusy := false, retries := 0, frozen := true }) ∧
        t.rd OD.VDD_SET d = s.rd OD.VDD_SET d ∧ keepsUnits {} d s.power.dies t.power.dies ∧ keeps [.dict, .power, .host, .faults] s t)) ∧
    (∀ d : Fin 4, 3 ≤ s.boot.stage →
      (850 ≤ s.rd OD.VDD_SET d → completes (.marginShort d) s fun t =>
        t.rd OD.VDD_SET d = s.rd OD.VDD_SET d ∧ (t.die d).demand = max 850 (s.die d).demand ∧
        keepsUnits {} d s.power.dies t.power.dies ∧ keeps [.dict, .power, .host, .faults] s t) ∧
      (s.rd OD.VDD_SET d < 850 → completes (.marginShort d) s fun t =>
        (∃ n, 1 ≤ n ∧ n ≤ 5 ∧ (t.die d).demand = min 850 ((s.die d).demand + 5 * n)) ∧
        ((s.die d).avsBusy = false → (s.die d).frozen = false → t.rd OD.VDD_SET d = moved d t) ∧
        ((s.die d).avsBusy = true ∨ (s.die d).frozen = true → t.rd OD.VDD_SET d = s.rd OD.VDD_SET d) ∧
        keepsUnits {} d s.power.dies t.power.dies ∧ keepsCells [OD.VDD_SET.key d] s t ∧ keeps [.dict, .power, .draws] s t)) ∧
    (∀ (dies : Fin 16) (n48 : BitVec 48), s.host.ready = true → s.rd OD.EXPERT_EN = 1 → completes (.loadHint dies n48) s fun t =>
      ∃ n, n % 2 ^ 48 = n48.toNat ∧ s.clock.drone ≤ n ∧ n < s.clock.drone + 2 ^ 48 ∧
        t.power = { s.power with hints := s.power.hints ++ [(dies.val, n)] } ∧ keeps [.power, .tape] s t) ∧
    (∀ (m n : Nat) (rest : List (Nat × Nat)), sortBy Prod.snd s.power.hints = (m, n) :: rest → completes .hintBoostStart s fun t =>
      let c := s.boundaryCycle n
      t.power.hints = rest ∧ t.power.boost = s.power.boost ++ [(m, c + 2048)] ∧
      (∀ d, d < 4 → bit m d = true → (s.die d).frozen = false → (t.die d).boosted = true) ∧
      (∀ d, bit m d = false ∨ (s.die d).frozen = true → t.die d = s.die d) ∧
      (s.clock.running = true → t.clock.cycle = max s.clock.cycle (c - s.rd OD.HINT_LEAD)) ∧ keeps [.clock, .fabric, .power, .dict] s t) ∧
    (∀ (m c : Nat) (rest : List (Nat × Nat)), sortBy Prod.snd s.power.boost = (m, c) :: rest → completes .hintBoostEnd s fun t =>
      let named (d : Nat) : Prop := ∃ b ∈ rest, bit b.1 d = true
      t.power.boost = rest ∧ t.power.hints = s.power.hints ∧
      (∀ d, d < 4 → bit m d = true → ¬named d → (t.die d).boosted = false) ∧ (∀ d, bit m d = false ∨ named d → t.die d = s.die d) ∧
      (s.clock.running = true → t.clock.cycle = max s.clock.cycle c) ∧ keeps [.clock, .fabric, .power, .dict] s t) ∧
    (∀ mw : Word32, s.boot.stage = 9 → s.clock.running = true → completes (.powerEstimate mw) s fun t =>
      let hist := (mw.toNat :: s.power.hist).take (s.rd OD.CAP_WIN)
      let sum := hist.foldl (· + ·) 0
      let cap := s.rd OD.PCAP * 1000 * hist.length
      let win := s.rd OD.CAP_WIN
      let e := s.power.energyFrac + mw.toNat * 2048 * 65536 / (s.rd OD.CORE_MHZ_RUN * 1000)
      t.power.hist = hist ∧ t.rd OD.PWR_EST = mw.toNat ∧ t.rd OD.PWR_AVG = sum / hist.length ∧
      t.rd OD.ENERGY_UJ = (s.rd OD.ENERGY_UJ + e / 65536) % 2 ^ 64 ∧ t.power.energyFrac = e % 65536 ∧
      (cap < sum → win ≤ s.power.sinceMove + 1 → s.power.capDemand < 17 → t.power.capDemand = s.power.capDemand + 1) ∧
      (s.power.sinceMove + 1 < win → t.power.capDemand = s.power.capDemand) ∧
      (20 * sum < 19 * cap → win ≤ s.power.sinceMove + 1 → win ≤ s.power.below + 1 → 0 < s.power.capDemand →
        t.power.capDemand = s.power.capDemand - 1) ∧
      t.rd OD.THROTTLE_LVL = max t.power.capDemand s.power.thermDemand ∧
      (sum ≤ cap → t.rd OD.CAP_UNMET_CNT = s.rd OD.CAP_UNMET_CNT) ∧
      (cap < sum → s.rd OD.THROTTLE_LVL = 17 → win ≤ s.power.sinceUnmet + 1 → t.rd OD.CAP_UNMET_CNT = min (s.rd OD.CAP_UNMET_CNT + 1) (2 ^ 32 - 1)) ∧
      keeps [.power, .dict, .host, .faults, .draws] s t) ∧
    (∀ readings : List Int, (Instr.thermSample readings).wf = true → s.clock.running = true → s.power.tripped = false →
      (s.power.hot = [] → (∀ r ∈ readings, r < 460) → completes (.thermSample readings) s fun t =>
        (∀ d, d < 4 → t.rdI OD.TJ_DIE d = hottest ((readings.drop (16 * d)).take 16)) ∧ t.rdI OD.TJ_HUB = hottest (readings.drop 64) ∧
        t.rdI OD.TJ_MAX_SEEN = max (s.rdI OD.TJ_MAX_SEEN) (hottest readings) ∧ t.power = s.power ∧
        t.rd OD.THERM_STATE = (if s.rd OD.THERM_STATE = 0 ∧ (s.rd OD.THERM_THR : Int) * 4 ≤ hottest readings then 1 else s.rd OD.THERM_STATE) ∧
        keeps [.dict, .host, .faults] s t) ∧
      (∀ i, i < 68 → 460 ≤ readings.getD i 0 → 3 ≤ SMap.get 0 s.power.hot i → completes (.thermSample readings) s fun t =>
        t.power.tripped = true ∧ t.rd OD.DAMP_STATE = 6 ∧ t.rd OD.THERM_STATE = 2 ∧ t.lanes = [] ∧ t.ingest = [] ∧ t.groups = [] ∧
        t.act.running = false ∧ t.act.admitOn = false ∧ t.act.pending = none ∧ ((∀ r, (s.errUnit pkgUnit).primary = some r → r.sev ≠ 3) → t.audit.closed = s.audit.closed) ∧ t.fabric.routerQ = [] ∧
        (∀ p, t.core p = {}) ∧ (∀ a, a < 96 * 2 ^ 30 → t.hbm.read a = Config.freeByte s.freeCtr a) ∧ t.clock = s.clock ∧ t.boot = s.boot ∧ t.lic = s.lic)) ∧
    (let thr : Int := s.rd OD.THERM_THR
     (s.rd OD.THERM_STATE ≠ 1 ∨ ((thr - 5) * 4 < s.hottestNow ∧ s.hottestNow < thr * 4) → exec .thermalDemandStep s = .next s) ∧
     (s.rd OD.THERM_STATE = 1 → thr * 4 ≤ s.hottestNow → completes .thermalDemandStep s fun t =>
       t.power = { s.power with thermDemand := min 17 (s.power.thermDemand + 1) } ∧
       t.rd OD.THROTTLE_LVL = max s.power.capDemand t.power.thermDemand ∧ keepsCells [OD.THROTTLE_LVL.key 0] s t ∧ keeps [.power, .dict] s t) ∧
     (s.rd OD.THERM_STATE = 1 → s.hottestNow ≤ (thr - 5) * 4 → completes .thermalDemandStep s fun t =>
       t.power = { s.power with thermDemand := s.power.thermDemand - 1 } ∧
       t.rd OD.THROTTLE_LVL = max s.power.capDemand t.power.thermDemand ∧ t.rd OD.THERM_STATE = (if t.power.thermDemand = 0 then 0 else 1) ∧
       keepsCells [OD.THROTTLE_LVL.key 0, OD.THERM_STATE.key 0] s t ∧ keeps [.power, .dict] s t)) ∧
    (∀ (d : Fin 4) (c : Nat), s.clock.running = true → s.power.tripped = false → (∀ k ∈ s.stretchGroup d, k < 4) →
      completes (.droopTrip d c) s fun t =>
        (t.die d).tripped = true ∧ (t.die d).stretch = some ((s.die d).stretch.getD c) ∧
        t.rd OD.STRETCH_EPISODES d = (if (s.die d).stretch = none then (s.rd OD.STRETCH_EPISODES d + 1) % 2 ^ 64 else s.rd OD.STRETCH_EPISODES d) ∧
        (∀ k ∈ s.stretchGroup d, k ≠ d → t.die k = { s.die k with stretch := some ((s.die k).stretch.getD (c + 4)) }) ∧
        (∀ k : Nat, k ≠ d → k ∉ s.stretchGroup d → t.die k = s.die k) ∧ t.clock.cycle = max s.clock.cycle c ∧
        keeps [.clock, .fabric, .power, .dict] s t) ∧
    (∀ (d : Fin 4) (c : Nat),
      ((s.die d).stretch = none → exec (.stretchEnd d c) s = .next s) ∧
      (∀ b, (s.die d).stretch = some b →
        ((∃ k ∈ s.stretchGroup d, k ≠ d ∧ (s.die k).tripped = true) → completes (.stretchEnd d c) s fun t =>
          t.die d = { s.die d with tripped := false } ∧ keepsUnits {} d s.power.dies t.power.dies ∧ keeps [.clock, .fabric, .power] s t) ∧
        (s.stretchGroup d = [d.val] → completes (.stretchEnd d c) s fun t =>
          (t.die d).stretch = none ∧ (t.die d).tripped = false ∧ (t.die d).lag = (s.die d).lag + (c - b + 1) / 2 ∧ (t.die d).lastEnd = some c ∧
          t.rd OD.STRETCH_CYC d = (s.rd OD.STRETCH_CYC d + (c - b)) % 2 ^ 64 ∧ keepsUnits {} d s.power.dies t.power.dies ∧
          keeps [.clock, .fabric, .power, .dict, .host, .faults] s t)))

/-- R472, R483 to R486, R468, R474: a record is cleared by the host or, when RECOVERABLE, in time. A fault of the hub enters SAFE: streams
stop capture, the part in progress ends, deep work is given up; its fabric stays. A Pluck joins one on its way or latches 24 cycles on; the
latch takes the lower free bank, joins the last within 64 cycles, or is lost; a bank is freed by release. -/
def Obligations.ErrorsClearAndPluckSnapshots : Prop :=
  ∀ s : State,
    (∀ u : Word16, s.host.ready = true → completes (.errClear u) s fun t =>
      (u = 0xFFFF → ∀ n, t.errUnit n = {}) ∧ (u ≠ 0xFFFF → t.errUnit u.toNat = {} ∧ keepsUnits {} u.toNat s.faults.units t.faults.units) ∧
      t.faults = { s.faults with units := t.faults.units } ∧ keeps [.faults, .tape] s t) ∧
    (∀ u : Word16, u ≠ 0xFFFF →
      (∀ r, (s.errUnit u.toNat).primary = some r → r.sev = 1 → r.auto ≠ 0 → completes (.errAutoclearExpiry u) s fun t =>
        t.errUnit u.toNat = {} ∧ keepsUnits {} u.toNat s.faults.units t.faults.units ∧ t.faults = { s.faults with units := t.faults.units } ∧
        (s.clock.running = true → t.clock.cycle = max s.clock.cycle (r.cycle + 2 ^ r.auto)) ∧ keeps [.clock, .fabric, .faults] s t) ∧
      ((∀ r, (s.errUnit u.toNat).primary = some r → r.sev ≠ 1 ∨ r.auto = 0) → exec (.errAutoclearExpiry u) s = .next s)) ∧
    (s.boot.stage ≠ 9 → exec .hubFault s = .next s ∧ exec .hubFirmwareRestartDone s = .next s) ∧
    (s.boot.stage = 9 → exec .hubFirmwareRestartDone s = .next { s with host.ready := true }) ∧
    (s.boot.stage = 9 → s.faults.safe = false → completes .hubFault s fun t =>
      t.host.ready = false ∧ t.faults.safe = true ∧ t.faults.safeAt = s.clock.cycle ∧ t.faults.safeDrained = false ∧
      t.rd OD.SAFE_STATE = 1 + 0x10000 * 0x0B05 ∧ t.act = { s.act with pending := none, loadDone := false } ∧
      (let damp : Prop := 1 ≤ s.rd OD.DAMP_STATE ∧ s.rd OD.DAMP_STATE ≤ 5
       (damp → t.rd OD.DAMP_STATE = 6) ∧ (¬damp → t.rd OD.DAMP_STATE = s.rd OD.DAMP_STATE) ∧
       (damp ∨ s.act.pending ≠ none → t.rd OD.ACT_STATUS = 8)) ∧
      t.rd OD.PCAP = min (s.rd OD.PCAP) s.lic.pcapMax ∧ t.clock = { s.clock with tickinWait := none } ∧
      (∀ st, (t.cap st).st = 0 ∨ (t.cap st).st = 4) ∧ t.deep.cands = [] ∧ t.deep.work = [] ∧ t.deep.serving = none ∧
      t.faults.repairs = s.faults.repairs.map (fun r => if r.isOpen then { r with sealed := true } else r) ∧ t.audit.cur = none ∧
      (∃ x ∈ t.faults.log, x.code = 0x0B05 ∧ x.safe = true) ∧ (s.recording = true → bits (t.rd OD.REC_STATE) 0 3 = 3) ∧
      (∃ x ∈ t.faults.pluck, x.1 = s.clock.cycle + 24 ∧ bit x.2.1 3 = true) ∧
      keeps [.clock, .dict, .host, .faults, .act, .deep, .capt, .lanes, .audit, .tape, .hbm] s t) ∧
    (s.boot.stage = 9 → s.faults.safe = true → completes .hubFault s fun t =>
      t.host.ready = false ∧ t.faults.safe = true ∧ t.rd OD.SAFE_STATE = s.rd OD.SAFE_STATE ∧ keeps [.dict, .host, .faults] s t) ∧
    (s.faults.safe = false ∨ s.faults.safeDrained = true → exec .safeDrainEnd s = .next s) ∧
    (s.faults.safe = true → s.faults.safeDrained = false → completes .safeDrainEnd s fun t =>
      t.faults = { s.faults with safeDrained := true } ∧
      (s.drained = false → s.clock.running = true → t.clock.cycle = max s.clock.cycle (s.faults.safeAt + s.rd OD.DAMP_LIMIT)) ∧
      (s.drained = true → t.clock = s.clock) ∧ keeps [.clock, .fabric, .faults] s t) ∧
    (let plucks (src lc : Nat) (t : State) : Prop := t.faults = { s.faults with pluck := t.faults.pluck } ∧
       (∀ x ∈ t.faults.pluck, x.1 = lc ∨ x ∈ s.faults.pluck) ∧ (∀ x ∈ s.faults.pluck, x.1 = lc ∨ x ∈ t.faults.pluck) ∧
       ((∀ x ∈ s.faults.pluck, x.1 ≠ lc) → (lc, 2 ^ src, 0) ∈ t.faults.pluck) ∧
       (∀ p, s.faults.pluck = [p] → p.1 = lc → t.faults.pluck = [(lc, p.2.1 ||| 2 ^ src, p.2.2)])
     (s.host.ready = true → completes .pluckCmd s fun t =>
       (bit (s.rd OD.PLUCK_SRC_EN) 2 = true → plucks 2 (s.nextBoundary + 24) t) ∧
       (bit (s.rd OD.PLUCK_SRC_EN) 2 = false → t.faults = s.faults) ∧ keeps [.faults, .tape] s t) ∧
     (∀ r : Bool,
       let taken : Prop := s.clock.running = true ∧ (r = true ↔ s.rd OD.PLUCK_IN_EDGE = 0) ∧ bit (s.rd OD.PLUCK_SRC_EN) 4 = true
       (taken → completes (.pluckInEdge r) s fun t => plucks 4 (s.clock.cycle + 27) t ∧ keeps [.faults] s t) ∧
       (¬taken → exec (.pluckInEdge r) s = .next s))) ∧
    (s.faults.pluck = [] → exec .pluckLatch s = .next s) ∧
    (∀ lc src ec rest, s.faults.pluck = (lc, src, ec) :: rest → completes .pluckLatch s fun t =>
      let near : Prop := ∃ c, s.faults.lastLatch = some c ∧ lc ≤ c + 64
      let b := s.faults.lastBank
      (∀ x ∈ rest, ∃ y ∈ t.faults.pluck, y.1 = x.1) ∧ (s.clock.running = true → t.clock.cycle = max s.clock.cycle lc) ∧
      (near → b < 2 → (s.bank b).taken = true →
        t.bank b = { s.bank b with src := (s.bank b).src ||| src, ecode := if (s.bank b).ecode = 0 then ec else (s.bank b).ecode } ∧ t.bank (1 - b) = s.bank (1 - b)) ∧
      (near → t.faults.lastLatch = s.faults.lastLatch ∧ t.rd OD.SNAP_COUNT = s.rd OD.SNAP_COUNT ∧ t.rd OD.PLUCK_LOST = s.rd OD.PLUCK_LOST) ∧
      (¬near → t.faults.lastLatch = some lc ∧
        ((s.bank 0).taken = true → (s.bank 1).taken = true → t.rd OD.PLUCK_LOST = min (s.rd OD.PLUCK_LOST + 1) (2 ^ 32 - 1) ∧
          t.bank 0 = s.bank 0 ∧ t.bank 1 = s.bank 1 ∧ t.faults.lastBank = 2) ∧
        (∀ k, k < 2 → (s.bank k).taken = false → (k = 1 → (s.bank 0).taken = true) →
          (let no := (s.rd OD.SNAP_COUNT + 1) % 2 ^ 32
           t.rd OD.SNAP_COUNT = no ∧ t.faults.lastBank = k ∧ t.bank (1 - k) = s.bank (1 - k) ∧
           t.bank k = { taken := true, no := no, src := src, ecode := ec, drone := s.clock.drone, cycle := t.clock.cycle % 2 ^ 64, tcount := t.tcount, vals := (t.bank k).vals }))) ∧
      keeps [.clock, .fabric, .faults, .dict, .host] s t) ∧
    (∀ b : Fin 2, ((s.bank b).taken = false → exec (.snapshotCopyDone b) s = .next s) ∧
      ((s.bank b).taken = true → exec (.snapshotCopyDone b) s = .next (s.setBank b { s.bank b with copied := true }))) ∧
    (∀ b : Byte, s.host.ready = true → completes (.snapRelease b) s fun t =>
      (∀ k, k < 2 → t.bank k = (if k = b.toNat then {} else s.bank k)) ∧ keeps [.faults, .tape] s t)

/-- R134, R478 to R480: a repair window begins 64 cycles after detection, and the load of the cluster's spare with it, at most 16 at once;
once loaded with what the image places at the fenced core, the spare stands in for its position from the next tick boundary on. -/
def Obligations.RepairWindowsAndStandIns : Prop :=
  ∀ (s : State) (p : Nat) (r : Repair), p < 8192 → p % 32 < 16 → s.repairOf p = some r → s.faults.safe = false →
    let spare := p - p % 32 + 16
    let c := pcidCluster p
    (r.started = true → exec (.repairWindowStart p) s = .next s) ∧
    (r.started = false → completes (.repairWindowStart p) s fun t =>
      (s.loadsRunning < 16 → t.repairOf p = some { r with started := true }) ∧ (16 ≤ s.loadsRunning → t.faults = s.faults) ∧
      (s.clock.running = true → t.clock.cycle = max s.clock.cycle (r.detected + 64)) ∧ keeps [.clock, .fabric, .faults] s t) ∧
    (r.started = false ∨ r.loaded ≠ none → exec (.standInLoadDone p) s = .next s) ∧
    (r.started = true → r.loaded = none → completes (.standInLoadDone p) s fun t =>
      t.repairOf p = some { r with loaded := some s.clock.cycle } ∧
      (∀ i, s.imageOf p = some i → (t.core spare).loaded = true ∧ (t.core spare).ctrl = i.ctrl ∧ (t.core spare).weights = SMap.ofList 0 i.weights ∧
        (t.core spare).routes = SMap.ofList 0 i.routes ∧ (t.core spare).lut = SMap.ofList 0 i.lut) ∧
      (s.imageOf p = none → (t.core spare).loaded = false) ∧ keepsCores spare s t ∧ keeps [.fabric, .faults] s t) ∧
    (∀ b, r.loaded = some b → b < s.nextBoundary → s.clock.running = true →
      (r.mask = 0 → completes (.standIn p) s fun t =>
        (t.cluster c).standIn = p % 32 + 1 ∧ r ∉ t.faults.repairs ∧ t.clock.cycle = max s.clock.cycle s.nextBoundary ∧
        keeps [.clock, .fabric, .faults, .dict, .host] s t) ∧
      (r.mask ≠ 0 → s.deepCluster c = false → completes (.standIn p) s fun t =>
        (t.cluster c).standIn = p % 32 + 1 ∧ (t.core spare).expect = BitVec.ofNat 16 s.nextTick ∧ (t.core spare).expectSet = true ∧
        (t.core p).loaded = false ∧ (∃ x ∈ t.faults.repairs, x.core = p ∧ x.mask = r.mask ∧ x.connect = some s.nextTick) ∧
        (∀ g, (s.core p).adaptGroup = some g → (t.grp g).cause = some (min ((s.grp g).cause.getD 7) 7)) ∧
        t.clock.cycle = max s.clock.cycle s.nextBoundary ∧ t.pending = s.pending ∧ t.hbm = s.hbm ∧ t.decisions = s.decisions))
end

