-- ==== Sys2Proof/Laws/Map.lean ====
section
/-! SUPPORT. Laws of the sparse tables: reading what was written, leaving other keys alone, and keeping the canonical form. -/

namespace Sys2Proof

variable {α : Type}

@[simp] theorem SMap.get_nil (d : α) (q : Nat) : SMap.get d [] q = d := rfl

theorem SMap.get_erase (d : α) (m : SMap α) (q p : Nat) :
    SMap.get d (SMap.erase m q) p = if p = q then d else SMap.get d m p := by
  induction m with
  | nil => simp [SMap.erase]
  | cons x m ih =>
    obtain ⟨k, v⟩ := x
    by_cases hk : k = q
    · subst hk
      simp only [SMap.erase, if_true, ih, SMap.get]
      split
      · rfl
      · rw [if_neg (by omega)]
    · simp only [SMap.erase, hk, if_false, SMap.get, ih]
      split
      · rw [if_neg (by omega)]
      · rfl

theorem SMap.get_put (d : α) (m : SMap α) (q p : Nat) (x : α) :
    SMap.get d (SMap.put m q x) p = if p = q then x else SMap.get d m p := by
  induction m with
  | nil => simp [SMap.put, SMap.get, eq_comm]
  | cons y m ih =>
    obtain ⟨k, v⟩ := y
    rcases Nat.lt_trichotomy q k with h | h | h
    · simp [SMap.put, SMap.get, h, eq_comm]
    · subst h
      simp [SMap.put, SMap.get]
      split <;> split <;> first | rfl | omega
    · have h1 : ¬ q < k := by omega
      have h2 : ¬ q = k := by omega
      simp only [SMap.put, h1, h2, if_false, SMap.get, ih]
      split <;> split <;> first | rfl | omega

variable [DecidableEq α]

/-- What a key reads as after a write: the value written, or what it read as before. -/
theorem SMap.get_set (d : α) (m : SMap α) (q p : Nat) (x : α) :
    SMap.get d (SMap.set d m q x) p = if p = q then x else SMap.get d m p := by
  unfold SMap.set
  split
  · subst_vars; exact SMap.get_erase _ m q p
  · exact SMap.get_put d m q p x

@[simp] theorem SMap.get_set_same (d : α) (m : SMap α) (q : Nat) (x : α) : SMap.get d (SMap.set d m q x) q = x := by
  simp [SMap.get_set]

theorem SMap.get_set_of_ne (d : α) (m : SMap α) {q p : Nat} (x : α) (h : p ≠ q) :
    SMap.get d (SMap.set d m q x) p = SMap.get d m p := by simp [SMap.get_set, h]

@[simp] theorem SMap.get_upd_same (d : α) (m : SMap α) (q : Nat) (f : α → α) :
    SMap.get d (SMap.upd d m q f) q = f (SMap.get d m q) := by simp [SMap.upd]

theorem SMap.get_upd_of_ne (d : α) (m : SMap α) {q p : Nat} (f : α → α) (h : p ≠ q) :
    SMap.get d (SMap.upd d m q f) p = SMap.get d m p := by simp [SMap.upd, SMap.get_set, h]

theorem SMap.wfFrom_mono {d : α} {lo lo' : Nat} (h : lo' ≤ lo) (m : SMap α) (w : SMap.wfFrom d lo m = true) :
    SMap.wfFrom d lo' m = true := by
  cases m with
  | nil => rfl
  | cons x m =>
    simp only [SMap.wfFrom, Bool.and_eq_true, decide_eq_true_eq] at *
    exact ⟨⟨by omega, w.1.2⟩, w.2⟩

theorem SMap.wfFrom_erase {d : α} (q : Nat) : ∀ (m : SMap α) (lo : Nat), SMap.wfFrom d lo m = true →
    SMap.wfFrom d lo (SMap.erase m q) = true
  | [], _, _ => rfl
  | (k, v) :: m, lo, w => by
    simp only [SMap.wfFrom, Bool.and_eq_true, decide_eq_true_eq] at w
    have ih := SMap.wfFrom_erase q m (k + 1) w.2
    simp only [SMap.erase]
    split
    · exact SMap.wfFrom_mono (by omega) _ ih
    · simp only [SMap.wfFrom, Bool.and_eq_true, decide_eq_true_eq]
      exact ⟨w.1, ih⟩

theorem SMap.wfFrom_put {d : α} (q : Nat) {x : α} (hx : x ≠ d) : ∀ (m : SMap α) (lo : Nat), lo ≤ q →
    SMap.wfFrom d lo m = true → SMap.wfFrom d lo (SMap.put m q x) = true
  | [], lo, hl, _ => by simp [SMap.put, SMap.wfFrom, hl, hx]
  | (k, v) :: m, lo, hl, w => by
    simp only [SMap.wfFrom, Bool.and_eq_true, decide_eq_true_eq] at w
    simp only [SMap.put]
    split
    · simp only [SMap.wfFrom, Bool.and_eq_true, decide_eq_true_eq]
      exact ⟨⟨hl, hx⟩, ⟨⟨by omega, w.1.2⟩, w.2⟩⟩
    · split
      · subst_vars
        simp only [SMap.wfFrom, Bool.and_eq_true, decide_eq_true_eq]
        exact ⟨⟨hl, hx⟩, w.2⟩
      · simp only [SMap.wfFrom, Bool.and_eq_true, decide_eq_true_eq]
        exact ⟨w.1, SMap.wfFrom_put q hx m (k + 1) (by omega) w.2⟩

/-- A write keeps the canonical form. -/
theorem SMap.wf_set {d : α} {m : SMap α} (w : SMap.wf d m = true) (q : Nat) (x : α) : SMap.wf d (SMap.set d m q x) = true := by
  unfold SMap.set
  split
  · exact SMap.wfFrom_erase q m 0 w
  · exact SMap.wfFrom_put q (by assumption) m 0 (Nat.zero_le q) w

theorem SMap.wf_upd {d : α} {m : SMap α} (w : SMap.wf d m = true) (q : Nat) (f : α → α) : SMap.wf d (SMap.upd d m q f) = true :=
  SMap.wf_set w q _

end Sys2Proof
end

