-- ==== Sys2Proof/Laws/State.lean ====
section
/-! SUPPORT. Small laws of the state: what each named update leaves alone, true by definition, and reading an entry of the dictionary
or a unit after an update. -/

namespace Sys2Proof.Machine

variable (s : State)

@[simp] theorem State.wr_pending (e : Entry) (u v : Nat) : (s.wr e u v).pending = s.pending := rfl
@[simp] theorem State.wr_clock (e : Entry) (u v : Nat) : (s.wr e u v).clock = s.clock := rfl
@[simp] theorem State.wr_boot (e : Entry) (u v : Nat) : (s.wr e u v).boot = s.boot := rfl
@[simp] theorem State.wr_lic (e : Entry) (u v : Nat) : (s.wr e u v).lic = s.lic := rfl
@[simp] theorem State.wr_host (e : Entry) (u v : Nat) : (s.wr e u v).host = s.host := rfl
@[simp] theorem State.wr_act (e : Entry) (u v : Nat) : (s.wr e u v).act = s.act := rfl
@[simp] theorem State.wr_fabric (e : Entry) (u v : Nat) : (s.wr e u v).fabric = s.fabric := rfl
@[simp] theorem State.wr_ingest (e : Entry) (u v : Nat) : (s.wr e u v).ingest = s.ingest := rfl
@[simp] theorem State.wr_decisions (e : Entry) (u v : Nat) : (s.wr e u v).decisions = s.decisions := rfl
@[simp] theorem State.wr_pins (e : Entry) (u v : Nat) : (s.wr e u v).pins = s.pins := rfl
@[simp] theorem State.wr_lanes (e : Entry) (u v : Nat) : (s.wr e u v).lanes = s.lanes := rfl
@[simp] theorem State.wr_capt (e : Entry) (u v : Nat) : (s.wr e u v).capt = s.capt := rfl
@[simp] theorem State.wr_masks (e : Entry) (u v : Nat) : (s.wr e u v).masks = s.masks := rfl
@[simp] theorem State.wr_deep (e : Entry) (u v : Nat) : (s.wr e u v).deep = s.deep := rfl
@[simp] theorem State.wr_groups (e : Entry) (u v : Nat) : (s.wr e u v).groups = s.groups := rfl
@[simp] theorem State.wr_hbm (e : Entry) (u v : Nat) : (s.wr e u v).hbm = s.hbm := rfl
@[simp] theorem State.wr_audit (e : Entry) (u v : Nat) : (s.wr e u v).audit = s.audit := rfl
@[simp] theorem State.wr_tape (e : Entry) (u v : Nat) : (s.wr e u v).tape = s.tape := rfl
@[simp] theorem State.wr_girder (e : Entry) (u v : Nat) : (s.wr e u v).girder = s.girder := rfl
@[simp] theorem State.wr_bases (e : Entry) (u v : Nat) : (s.wr e u v).bases = s.bases := rfl
@[simp] theorem State.wr_power (e : Entry) (u v : Nat) : (s.wr e u v).power = s.power := rfl
@[simp] theorem State.wr_faults (e : Entry) (u v : Nat) : (s.wr e u v).faults = s.faults := rfl
@[simp] theorem State.wr_freeCtr (e : Entry) (u v : Nat) : (s.wr e u v).freeCtr = s.freeCtr := rfl

@[simp] theorem State.wrI_pending (e : Entry) (u : Nat) (v : Int) : (s.wrI e u v).pending = s.pending := rfl
@[simp] theorem State.wrI_clock (e : Entry) (u : Nat) (v : Int) : (s.wrI e u v).clock = s.clock := rfl
@[simp] theorem State.wrI_boot (e : Entry) (u : Nat) (v : Int) : (s.wrI e u v).boot = s.boot := rfl
@[simp] theorem State.wrI_lic (e : Entry) (u : Nat) (v : Int) : (s.wrI e u v).lic = s.lic := rfl
@[simp] theorem State.wrI_host (e : Entry) (u : Nat) (v : Int) : (s.wrI e u v).host = s.host := rfl
@[simp] theorem State.wrI_act (e : Entry) (u : Nat) (v : Int) : (s.wrI e u v).act = s.act := rfl
@[simp] theorem State.wrI_fabric (e : Entry) (u : Nat) (v : Int) : (s.wrI e u v).fabric = s.fabric := rfl
@[simp] theorem State.wrI_ingest (e : Entry) (u : Nat) (v : Int) : (s.wrI e u v).ingest = s.ingest := rfl
@[simp] theorem State.wrI_decisions (e : Entry) (u : Nat) (v : Int) : (s.wrI e u v).decisions = s.decisions := rfl
@[simp] theorem State.wrI_pins (e : Entry) (u : Nat) (v : Int) : (s.wrI e u v).pins = s.pins := rfl
@[simp] theorem State.wrI_lanes (e : Entry) (u : Nat) (v : Int) : (s.wrI e u v).lanes = s.lanes := rfl
@[simp] theorem State.wrI_capt (e : Entry) (u : Nat) (v : Int) : (s.wrI e u v).capt = s.capt := rfl
@[simp] theorem State.wrI_masks (e : Entry) (u : Nat) (v : Int) : (s.wrI e u v).masks = s.masks := rfl
@[simp] theorem State.wrI_deep (e : Entry) (u : Nat) (v : Int) : (s.wrI e u v).deep = s.deep := rfl
@[simp] theorem State.wrI_groups (e : Entry) (u : Nat) (v : Int) : (s.wrI e u v).groups = s.groups := rfl
@[simp] theorem State.wrI_hbm (e : Entry) (u : Nat) (v : Int) : (s.wrI e u v).hbm = s.hbm := rfl
@[simp] theorem State.wrI_audit (e : Entry) (u : Nat) (v : Int) : (s.wrI e u v).audit = s.audit := rfl
@[simp] theorem State.wrI_tape (e : Entry) (u : Nat) (v : Int) : (s.wrI e u v).tape = s.tape := rfl
@[simp] theorem State.wrI_girder (e : Entry) (u : Nat) (v : Int) : (s.wrI e u v).girder = s.girder := rfl
@[simp] theorem State.wrI_bases (e : Entry) (u : Nat) (v : Int) : (s.wrI e u v).bases = s.bases := rfl
@[simp] theorem State.wrI_power (e : Entry) (u : Nat) (v : Int) : (s.wrI e u v).power = s.power := rfl
@[simp] theorem State.wrI_faults (e : Entry) (u : Nat) (v : Int) : (s.wrI e u v).faults = s.faults := rfl
@[simp] theorem State.wrI_freeCtr (e : Entry) (u : Nat) (v : Int) : (s.wrI e u v).freeCtr = s.freeCtr := rfl

@[simp] theorem State.clr_pending (e : Entry) (u : Nat) : (s.clr e u).pending = s.pending := rfl
@[simp] theorem State.clr_clock (e : Entry) (u : Nat) : (s.clr e u).clock = s.clock := rfl
@[simp] theorem State.clr_boot (e : Entry) (u : Nat) : (s.clr e u).boot = s.boot := rfl
@[simp] theorem State.clr_lic (e : Entry) (u : Nat) : (s.clr e u).lic = s.lic := rfl
@[simp] theorem State.clr_host (e : Entry) (u : Nat) : (s.clr e u).host = s.host := rfl
@[simp] theorem State.clr_act (e : Entry) (u : Nat) : (s.clr e u).act = s.act := rfl
@[simp] theorem State.clr_fabric (e : Entry) (u : Nat) : (s.clr e u).fabric = s.fabric := rfl
@[simp] theorem State.clr_ingest (e : Entry) (u : Nat) : (s.clr e u).ingest = s.ingest := rfl
@[simp] theorem State.clr_decisions (e : Entry) (u : Nat) : (s.clr e u).decisions = s.decisions := rfl
@[simp] theorem State.clr_pins (e : Entry) (u : Nat) : (s.clr e u).pins = s.pins := rfl
@[simp] theorem State.clr_lanes (e : Entry) (u : Nat) : (s.clr e u).lanes = s.lanes := rfl
@[simp] theorem State.clr_capt (e : Entry) (u : Nat) : (s.clr e u).capt = s.capt := rfl
@[simp] theorem State.clr_masks (e : Entry) (u : Nat) : (s.clr e u).masks = s.masks := rfl
@[simp] theorem State.clr_deep (e : Entry) (u : Nat) : (s.clr e u).deep = s.deep := rfl
@[simp] theorem State.clr_groups (e : Entry) (u : Nat) : (s.clr e u).groups = s.groups := rfl
@[simp] theorem State.clr_hbm (e : Entry) (u : Nat) : (s.clr e u).hbm = s.hbm := rfl
@[simp] theorem State.clr_audit (e : Entry) (u : Nat) : (s.clr e u).audit = s.audit := rfl
@[simp] theorem State.clr_tape (e : Entry) (u : Nat) : (s.clr e u).tape = s.tape := rfl
@[simp] theorem State.clr_girder (e : Entry) (u : Nat) : (s.clr e u).girder = s.girder := rfl
@[simp] theorem State.clr_bases (e : Entry) (u : Nat) : (s.clr e u).bases = s.bases := rfl
@[simp] theorem State.clr_power (e : Entry) (u : Nat) : (s.clr e u).power = s.power := rfl
@[simp] theorem State.clr_faults (e : Entry) (u : Nat) : (s.clr e u).faults = s.faults := rfl
@[simp] theorem State.clr_freeCtr (e : Entry) (u : Nat) : (s.clr e u).freeCtr = s.freeCtr := rfl

@[simp] theorem State.clrAll_pending (e : Entry) : (s.clrAll e).pending = s.pending := rfl
@[simp] theorem State.clrAll_clock (e : Entry) : (s.clrAll e).clock = s.clock := rfl
@[simp] theorem State.clrAll_boot (e : Entry) : (s.clrAll e).boot = s.boot := rfl
@[simp] theorem State.clrAll_lic (e : Entry) : (s.clrAll e).lic = s.lic := rfl
@[simp] theorem State.clrAll_host (e : Entry) : (s.clrAll e).host = s.host := rfl
@[simp] theorem State.clrAll_act (e : Entry) : (s.clrAll e).act = s.act := rfl
@[simp] theorem State.clrAll_fabric (e : Entry) : (s.clrAll e).fabric = s.fabric := rfl
@[simp] theorem State.clrAll_ingest (e : Entry) : (s.clrAll e).ingest = s.ingest := rfl
@[simp] theorem State.clrAll_decisions (e : Entry) : (s.clrAll e).decisions = s.decisions := rfl
@[simp] theorem State.clrAll_pins (e : Entry) : (s.clrAll e).pins = s.pins := rfl
@[simp] theorem State.clrAll_lanes (e : Entry) : (s.clrAll e).lanes = s.lanes := rfl
@[simp] theorem State.clrAll_capt (e : Entry) : (s.clrAll e).capt = s.capt := rfl
@[simp] theorem State.clrAll_masks (e : Entry) : (s.clrAll e).masks = s.masks := rfl
@[simp] theorem State.clrAll_deep (e : Entry) : (s.clrAll e).deep = s.deep := rfl
@[simp] theorem State.clrAll_groups (e : Entry) : (s.clrAll e).groups = s.groups := rfl
@[simp] theorem State.clrAll_hbm (e : Entry) : (s.clrAll e).hbm = s.hbm := rfl
@[simp] theorem State.clrAll_audit (e : Entry) : (s.clrAll e).audit = s.audit := rfl
@[simp] theorem State.clrAll_tape (e : Entry) : (s.clrAll e).tape = s.tape := rfl
@[simp] theorem State.clrAll_girder (e : Entry) : (s.clrAll e).girder = s.girder := rfl
@[simp] theorem State.clrAll_bases (e : Entry) : (s.clrAll e).bases = s.bases := rfl
@[simp] theorem State.clrAll_power (e : Entry) : (s.clrAll e).power = s.power := rfl
@[simp] theorem State.clrAll_faults (e : Entry) : (s.clrAll e).faults = s.faults := rfl
@[simp] theorem State.clrAll_freeCtr (e : Entry) : (s.clrAll e).freeCtr = s.freeCtr := rfl

@[simp] theorem State.setCore_pending (p : Nat) (c : Core) : (s.setCore p c).pending = s.pending := rfl
@[simp] theorem State.setCore_clock (p : Nat) (c : Core) : (s.setCore p c).clock = s.clock := rfl
@[simp] theorem State.setCore_boot (p : Nat) (c : Core) : (s.setCore p c).boot = s.boot := rfl
@[simp] theorem State.setCore_lic (p : Nat) (c : Core) : (s.setCore p c).lic = s.lic := rfl
@[simp] theorem State.setCore_dict (p : Nat) (c : Core) : (s.setCore p c).dict = s.dict := rfl
@[simp] theorem State.setCore_host (p : Nat) (c : Core) : (s.setCore p c).host = s.host := rfl
@[simp] theorem State.setCore_act (p : Nat) (c : Core) : (s.setCore p c).act = s.act := rfl
@[simp] theorem State.setCore_ingest (p : Nat) (c : Core) : (s.setCore p c).ingest = s.ingest := rfl
@[simp] theorem State.setCore_decisions (p : Nat) (c : Core) : (s.setCore p c).decisions = s.decisions := rfl
@[simp] theorem State.setCore_pins (p : Nat) (c : Core) : (s.setCore p c).pins = s.pins := rfl
@[simp] theorem State.setCore_lanes (p : Nat) (c : Core) : (s.setCore p c).lanes = s.lanes := rfl
@[simp] theorem State.setCore_capt (p : Nat) (c : Core) : (s.setCore p c).capt = s.capt := rfl
@[simp] theorem State.setCore_masks (p : Nat) (c : Core) : (s.setCore p c).masks = s.masks := rfl
@[simp] theorem State.setCore_deep (p : Nat) (c : Core) : (s.setCore p c).deep = s.deep := rfl
@[simp] theorem State.setCore_groups (p : Nat) (c : Core) : (s.setCore p c).groups = s.groups := rfl
@[simp] theorem State.setCore_hbm (p : Nat) (c : Core) : (s.setCore p c).hbm = s.hbm := rfl
@[simp] theorem State.setCore_audit (p : Nat) (c : Core) : (s.setCore p c).audit = s.audit := rfl
@[simp] theorem State.setCore_tape (p : Nat) (c : Core) : (s.setCore p c).tape = s.tape := rfl
@[simp] theorem State.setCore_girder (p : Nat) (c : Core) : (s.setCore p c).girder = s.girder := rfl
@[simp] theorem State.setCore_bases (p : Nat) (c : Core) : (s.setCore p c).bases = s.bases := rfl
@[simp] theorem State.setCore_power (p : Nat) (c : Core) : (s.setCore p c).power = s.power := rfl
@[simp] theorem State.setCore_faults (p : Nat) (c : Core) : (s.setCore p c).faults = s.faults := rfl
@[simp] theorem State.setCore_freeCtr (p : Nat) (c : Core) : (s.setCore p c).freeCtr = s.freeCtr := rfl

@[simp] theorem State.updCore_pending (p : Nat) (f : Core → Core) : (s.updCore p f).pending = s.pending := rfl
@[simp] theorem State.updCore_clock (p : Nat) (f : Core → Core) : (s.updCore p f).clock = s.clock := rfl
@[simp] theorem State.updCore_boot (p : Nat) (f : Core → Core) : (s.updCore p f).boot = s.boot := rfl
@[simp] theorem State.updCore_lic (p : Nat) (f : Core → Core) : (s.updCore p f).lic = s.lic := rfl
@[simp] theorem State.updCore_dict (p : Nat) (f : Core → Core) : (s.updCore p f).dict = s.dict := rfl
@[simp] theorem State.updCore_host (p : Nat) (f : Core → Core) : (s.updCore p f).host = s.host := rfl
@[simp] theorem State.updCore_act (p : Nat) (f : Core → Core) : (s.updCore p f).act = s.act := rfl
@[simp] theorem State.updCore_ingest (p : Nat) (f : Core → Core) : (s.updCore p f).ingest = s.ingest := rfl
@[simp] theorem State.updCore_decisions (p : Nat) (f : Core → Core) : (s.updCore p f).decisions = s.decisions := rfl
@[simp] theorem State.updCore_pins (p : Nat) (f : Core → Core) : (s.updCore p f).pins = s.pins := rfl
@[simp] theorem State.updCore_lanes (p : Nat) (f : Core → Core) : (s.updCore p f).lanes = s.lanes := rfl
@[simp] theorem State.updCore_capt (p : Nat) (f : Core → Core) : (s.updCore p f).capt = s.capt := rfl
@[simp] theorem State.updCore_masks (p : Nat) (f : Core → Core) : (s.updCore p f).masks = s.masks := rfl
@[simp] theorem State.updCore_deep (p : Nat) (f : Core → Core) : (s.updCore p f).deep = s.deep := rfl
@[simp] theorem State.updCore_groups (p : Nat) (f : Core → Core) : (s.updCore p f).groups = s.groups := rfl
@[simp] theorem State.updCore_hbm (p : Nat) (f : Core → Core) : (s.updCore p f).hbm = s.hbm := rfl
@[simp] theorem State.updCore_audit (p : Nat) (f : Core → Core) : (s.updCore p f).audit = s.audit := rfl
@[simp] theorem State.updCore_tape (p : Nat) (f : Core → Core) : (s.updCore p f).tape = s.tape := rfl
@[simp] theorem State.updCore_girder (p : Nat) (f : Core → Core) : (s.updCore p f).girder = s.girder := rfl
@[simp] theorem State.updCore_bases (p : Nat) (f : Core → Core) : (s.updCore p f).bases = s.bases := rfl
@[simp] theorem State.updCore_power (p : Nat) (f : Core → Core) : (s.updCore p f).power = s.power := rfl
@[simp] theorem State.updCore_faults (p : Nat) (f : Core → Core) : (s.updCore p f).faults = s.faults := rfl
@[simp] theorem State.updCore_freeCtr (p : Nat) (f : Core → Core) : (s.updCore p f).freeCtr = s.freeCtr := rfl

@[simp] theorem State.setCluster_pending (p : Nat) (c : Cluster) : (s.setCluster p c).pending = s.pending := rfl
@[simp] theorem State.setCluster_clock (p : Nat) (c : Cluster) : (s.setCluster p c).clock = s.clock := rfl
@[simp] theorem State.setCluster_boot (p : Nat) (c : Cluster) : (s.setCluster p c).boot = s.boot := rfl
@[simp] theorem State.setCluster_lic (p : Nat) (c : Cluster) : (s.setCluster p c).lic = s.lic := rfl
@[simp] theorem State.setCluster_dict (p : Nat) (c : Cluster) : (s.setCluster p c).dict = s.dict := rfl
@[simp] theorem State.setCluster_host (p : Nat) (c : Cluster) : (s.setCluster p c).host = s.host := rfl
@[simp] theorem State.setCluster_act (p : Nat) (c : Cluster) : (s.setCluster p c).act = s.act := rfl
@[simp] theorem State.setCluster_ingest (p : Nat) (c : Cluster) : (s.setCluster p c).ingest = s.ingest := rfl
@[simp] theorem State.setCluster_decisions (p : Nat) (c : Cluster) : (s.setCluster p c).decisions = s.decisions := rfl
@[simp] theorem State.setCluster_pins (p : Nat) (c : Cluster) : (s.setCluster p c).pins = s.pins := rfl
@[simp] theorem State.setCluster_lanes (p : Nat) (c : Cluster) : (s.setCluster p c).lanes = s.lanes := rfl
@[simp] theorem State.setCluster_capt (p : Nat) (c : Cluster) : (s.setCluster p c).capt = s.capt := rfl
@[simp] theorem State.setCluster_masks (p : Nat) (c : Cluster) : (s.setCluster p c).masks = s.masks := rfl
@[simp] theorem State.setCluster_deep (p : Nat) (c : Cluster) : (s.setCluster p c).deep = s.deep := rfl
@[simp] theorem State.setCluster_groups (p : Nat) (c : Cluster) : (s.setCluster p c).groups = s.groups := rfl
@[simp] theorem State.setCluster_hbm (p : Nat) (c : Cluster) : (s.setCluster p c).hbm = s.hbm := rfl
@[simp] theorem State.setCluster_audit (p : Nat) (c : Cluster) : (s.setCluster p c).audit = s.audit := rfl
@[simp] theorem State.setCluster_tape (p : Nat) (c : Cluster) : (s.setCluster p c).tape = s.tape := rfl
@[simp] theorem State.setCluster_girder (p : Nat) (c : Cluster) : (s.setCluster p c).girder = s.girder := rfl
@[simp] theorem State.setCluster_bases (p : Nat) (c : Cluster) : (s.setCluster p c).bases = s.bases := rfl
@[simp] theorem State.setCluster_power (p : Nat) (c : Cluster) : (s.setCluster p c).power = s.power := rfl
@[simp] theorem State.setCluster_faults (p : Nat) (c : Cluster) : (s.setCluster p c).faults = s.faults := rfl
@[simp] theorem State.setCluster_freeCtr (p : Nat) (c : Cluster) : (s.setCluster p c).freeCtr = s.freeCtr := rfl

@[simp] theorem State.updCluster_pending (p : Nat) (f : Cluster → Cluster) : (s.updCluster p f).pending = s.pending := rfl
@[simp] theorem State.updCluster_clock (p : Nat) (f : Cluster → Cluster) : (s.updCluster p f).clock = s.clock := rfl
@[simp] theorem State.updCluster_boot (p : Nat) (f : Cluster → Cluster) : (s.updCluster p f).boot = s.boot := rfl
@[simp] theorem State.updCluster_lic (p : Nat) (f : Cluster → Cluster) : (s.updCluster p f).lic = s.lic := rfl
@[simp] theorem State.updCluster_dict (p : Nat) (f : Cluster → Cluster) : (s.updCluster p f).dict = s.dict := rfl
@[simp] theorem State.updCluster_host (p : Nat) (f : Cluster → Cluster) : (s.updCluster p f).host = s.host := rfl
@[simp] theorem State.updCluster_act (p : Nat) (f : Cluster → Cluster) : (s.updCluster p f).act = s.act := rfl
@[simp] theorem State.updCluster_ingest (p : Nat) (f : Cluster → Cluster) : (s.updCluster p f).ingest = s.ingest := rfl
@[simp] theorem State.updCluster_decisions (p : Nat) (f : Cluster → Cluster) : (s.updCluster p f).decisions = s.decisions := rfl
@[simp] theorem State.updCluster_pins (p : Nat) (f : Cluster → Cluster) : (s.updCluster p f).pins = s.pins := rfl
@[simp] theorem State.updCluster_lanes (p : Nat) (f : Cluster → Cluster) : (s.updCluster p f).lanes = s.lanes := rfl
@[simp] theorem State.updCluster_capt (p : Nat) (f : Cluster → Cluster) : (s.updCluster p f).capt = s.capt := rfl
@[simp] theorem State.updCluster_masks (p : Nat) (f : Cluster → Cluster) : (s.updCluster p f).masks = s.masks := rfl
@[simp] theorem State.updCluster_deep (p : Nat) (f : Cluster → Cluster) : (s.updCluster p f).deep = s.deep := rfl
@[simp] theorem State.updCluster_groups (p : Nat) (f : Cluster → Cluster) : (s.updCluster p f).groups = s.groups := rfl
@[simp] theorem State.updCluster_hbm (p : Nat) (f : Cluster → Cluster) : (s.updCluster p f).hbm = s.hbm := rfl
@[simp] theorem State.updCluster_audit (p : Nat) (f : Cluster → Cluster) : (s.updCluster p f).audit = s.audit := rfl
@[simp] theorem State.updCluster_tape (p : Nat) (f : Cluster → Cluster) : (s.updCluster p f).tape = s.tape := rfl
@[simp] theorem State.updCluster_girder (p : Nat) (f : Cluster → Cluster) : (s.updCluster p f).girder = s.girder := rfl
@[simp] theorem State.updCluster_bases (p : Nat) (f : Cluster → Cluster) : (s.updCluster p f).bases = s.bases := rfl
@[simp] theorem State.updCluster_power (p : Nat) (f : Cluster → Cluster) : (s.updCluster p f).power = s.power := rfl
@[simp] theorem State.updCluster_faults (p : Nat) (f : Cluster → Cluster) : (s.updCluster p f).faults = s.faults := rfl
@[simp] theorem State.updCluster_freeCtr (p : Nat) (f : Cluster → Cluster) : (s.updCluster p f).freeCtr = s.freeCtr := rfl

@[simp] theorem State.updIng_pending (n : Nat) (f : Ingest → Ingest) : (s.updIng n f).pending = s.pending := rfl
@[simp] theorem State.updIng_clock (n : Nat) (f : Ingest → Ingest) : (s.updIng n f).clock = s.clock := rfl
@[simp] theorem State.updIng_boot (n : Nat) (f : Ingest → Ingest) : (s.updIng n f).boot = s.boot := rfl
@[simp] theorem State.updIng_lic (n : Nat) (f : Ingest → Ingest) : (s.updIng n f).lic = s.lic := rfl
@[simp] theorem State.updIng_dict (n : Nat) (f : Ingest → Ingest) : (s.updIng n f).dict = s.dict := rfl
@[simp] theorem State.updIng_host (n : Nat) (f : Ingest → Ingest) : (s.updIng n f).host = s.host := rfl
@[simp] theorem State.updIng_act (n : Nat) (f : Ingest → Ingest) : (s.updIng n f).act = s.act := rfl
@[simp] theorem State.updIng_fabric (n : Nat) (f : Ingest → Ingest) : (s.updIng n f).fabric = s.fabric := rfl
@[simp] theorem State.updIng_decisions (n : Nat) (f : Ingest → Ingest) : (s.updIng n f).decisions = s.decisions := rfl
@[simp] theorem State.updIng_pins (n : Nat) (f : Ingest → Ingest) : (s.updIng n f).pins = s.pins := rfl
@[simp] theorem State.updIng_lanes (n : Nat) (f : Ingest → Ingest) : (s.updIng n f).lanes = s.lanes := rfl
@[simp] theorem State.updIng_capt (n : Nat) (f : Ingest → Ingest) : (s.updIng n f).capt = s.capt := rfl
@[simp] theorem State.updIng_masks (n : Nat) (f : Ingest → Ingest) : (s.updIng n f).masks = s.masks := rfl
@[simp] theorem State.updIng_deep (n : Nat) (f : Ingest → Ingest) : (s.updIng n f).deep = s.deep := rfl
@[simp] theorem State.updIng_groups (n : Nat) (f : Ingest → Ingest) : (s.updIng n f).groups = s.groups := rfl
@[simp] theorem State.updIng_hbm (n : Nat) (f : Ingest → Ingest) : (s.updIng n f).hbm = s.hbm := rfl
@[simp] theorem State.updIng_audit (n : Nat) (f : Ingest → Ingest) : (s.updIng n f).audit = s.audit := rfl
@[simp] theorem State.updIng_tape (n : Nat) (f : Ingest → Ingest) : (s.updIng n f).tape = s.tape := rfl
@[simp] theorem State.updIng_girder (n : Nat) (f : Ingest → Ingest) : (s.updIng n f).girder = s.girder := rfl
@[simp] theorem State.updIng_bases (n : Nat) (f : Ingest → Ingest) : (s.updIng n f).bases = s.bases := rfl
@[simp] theorem State.updIng_power (n : Nat) (f : Ingest → Ingest) : (s.updIng n f).power = s.power := rfl
@[simp] theorem State.updIng_faults (n : Nat) (f : Ingest → Ingest) : (s.updIng n f).faults = s.faults := rfl
@[simp] theorem State.updIng_freeCtr (n : Nat) (f : Ingest → Ingest) : (s.updIng n f).freeCtr = s.freeCtr := rfl

@[simp] theorem State.updDec_pending (n : Nat) (f : Decide → Decide) : (s.updDec n f).pending = s.pending := rfl
@[simp] theorem State.updDec_clock (n : Nat) (f : Decide → Decide) : (s.updDec n f).clock = s.clock := rfl
@[simp] theorem State.updDec_boot (n : Nat) (f : Decide → Decide) : (s.updDec n f).boot = s.boot := rfl
@[simp] theorem State.updDec_lic (n : Nat) (f : Decide → Decide) : (s.updDec n f).lic = s.lic := rfl
@[simp] theorem State.updDec_dict (n : Nat) (f : Decide → Decide) : (s.updDec n f).dict = s.dict := rfl
@[simp] theorem State.updDec_host (n : Nat) (f : Decide → Decide) : (s.updDec n f).host = s.host := rfl
@[simp] theorem State.updDec_act (n : Nat) (f : Decide → Decide) : (s.updDec n f).act = s.act := rfl
@[simp] theorem State.updDec_fabric (n : Nat) (f : Decide → Decide) : (s.updDec n f).fabric = s.fabric := rfl
@[simp] theorem State.updDec_ingest (n : Nat) (f : Decide → Decide) : (s.updDec n f).ingest = s.ingest := rfl
@[simp] theorem State.updDec_pins (n : Nat) (f : Decide → Decide) : (s.updDec n f).pins = s.pins := rfl
@[simp] theorem State.updDec_lanes (n : Nat) (f : Decide → Decide) : (s.updDec n f).lanes = s.lanes := rfl
@[simp] theorem State.updDec_capt (n : Nat) (f : Decide → Decide) : (s.updDec n f).capt = s.capt := rfl
@[simp] theorem State.updDec_masks (n : Nat) (f : Decide → Decide) : (s.updDec n f).masks = s.masks := rfl
@[simp] theorem State.updDec_deep (n : Nat) (f : Decide → Decide) : (s.updDec n f).deep = s.deep := rfl
@[simp] theorem State.updDec_groups (n : Nat) (f : Decide → Decide) : (s.updDec n f).groups = s.groups := rfl
@[simp] theorem State.updDec_hbm (n : Nat) (f : Decide → Decide) : (s.updDec n f).hbm = s.hbm := rfl
@[simp] theorem State.updDec_audit (n : Nat) (f : Decide → Decide) : (s.updDec n f).audit = s.audit := rfl
@[simp] theorem State.updDec_tape (n : Nat) (f : Decide → Decide) : (s.updDec n f).tape = s.tape := rfl
@[simp] theorem State.updDec_girder (n : Nat) (f : Decide → Decide) : (s.updDec n f).girder = s.girder := rfl
@[simp] theorem State.updDec_bases (n : Nat) (f : Decide → Decide) : (s.updDec n f).bases = s.bases := rfl
@[simp] theorem State.updDec_power (n : Nat) (f : Decide → Decide) : (s.updDec n f).power = s.power := rfl
@[simp] theorem State.updDec_faults (n : Nat) (f : Decide → Decide) : (s.updDec n f).faults = s.faults := rfl
@[simp] theorem State.updDec_freeCtr (n : Nat) (f : Decide → Decide) : (s.updDec n f).freeCtr = s.freeCtr := rfl

@[simp] theorem State.updLane_pending (n : Nat) (f : Lane → Lane) : (s.updLane n f).pending = s.pending := rfl
@[simp] theorem State.updLane_clock (n : Nat) (f : Lane → Lane) : (s.updLane n f).clock = s.clock := rfl
@[simp] theorem State.updLane_boot (n : Nat) (f : Lane → Lane) : (s.updLane n f).boot = s.boot := rfl
@[simp] theorem State.updLane_lic (n : Nat) (f : Lane → Lane) : (s.updLane n f).lic = s.lic := rfl
@[simp] theorem State.updLane_dict (n : Nat) (f : Lane → Lane) : (s.updLane n f).dict = s.dict := rfl
@[simp] theorem State.updLane_host (n : Nat) (f : Lane → Lane) : (s.updLane n f).host = s.host := rfl
@[simp] theorem State.updLane_act (n : Nat) (f : Lane → Lane) : (s.updLane n f).act = s.act := rfl
@[simp] theorem State.updLane_fabric (n : Nat) (f : Lane → Lane) : (s.updLane n f).fabric = s.fabric := rfl
@[simp] theorem State.updLane_ingest (n : Nat) (f : Lane → Lane) : (s.updLane n f).ingest = s.ingest := rfl
@[simp] theorem State.updLane_decisions (n : Nat) (f : Lane → Lane) : (s.updLane n f).decisions = s.decisions := rfl
@[simp] theorem State.updLane_pins (n : Nat) (f : Lane → Lane) : (s.updLane n f).pins = s.pins := rfl
@[simp] theorem State.updLane_capt (n : Nat) (f : Lane → Lane) : (s.updLane n f).capt = s.capt := rfl
@[simp] theorem State.updLane_masks (n : Nat) (f : Lane → Lane) : (s.updLane n f).masks = s.masks := rfl
@[simp] theorem State.updLane_deep (n : Nat) (f : Lane → Lane) : (s.updLane n f).deep = s.deep := rfl
@[simp] theorem State.updLane_groups (n : Nat) (f : Lane → Lane) : (s.updLane n f).groups = s.groups := rfl
@[simp] theorem State.updLane_hbm (n : Nat) (f : Lane → Lane) : (s.updLane n f).hbm = s.hbm := rfl
@[simp] theorem State.updLane_audit (n : Nat) (f : Lane → Lane) : (s.updLane n f).audit = s.audit := rfl
@[simp] theorem State.updLane_tape (n : Nat) (f : Lane → Lane) : (s.updLane n f).tape = s.tape := rfl
@[simp] theorem State.updLane_girder (n : Nat) (f : Lane → Lane) : (s.updLane n f).girder = s.girder := rfl
@[simp] theorem State.updLane_bases (n : Nat) (f : Lane → Lane) : (s.updLane n f).bases = s.bases := rfl
@[simp] theorem State.updLane_power (n : Nat) (f : Lane → Lane) : (s.updLane n f).power = s.power := rfl
@[simp] theorem State.updLane_faults (n : Nat) (f : Lane → Lane) : (s.updLane n f).faults = s.faults := rfl
@[simp] theorem State.updLane_freeCtr (n : Nat) (f : Lane → Lane) : (s.updLane n f).freeCtr = s.freeCtr := rfl

@[simp] theorem State.updCap_pending (n : Nat) (f : Capt → Capt) : (s.updCap n f).pending = s.pending := rfl
@[simp] theorem State.updCap_clock (n : Nat) (f : Capt → Capt) : (s.updCap n f).clock = s.clock := rfl
@[simp] theorem State.updCap_boot (n : Nat) (f : Capt → Capt) : (s.updCap n f).boot = s.boot := rfl
@[simp] theorem State.updCap_lic (n : Nat) (f : Capt → Capt) : (s.updCap n f).lic = s.lic := rfl
@[simp] theorem State.updCap_dict (n : Nat) (f : Capt → Capt) : (s.updCap n f).dict = s.dict := rfl
@[simp] theorem State.updCap_host (n : Nat) (f : Capt → Capt) : (s.updCap n f).host = s.host := rfl
@[simp] theorem State.updCap_act (n : Nat) (f : Capt → Capt) : (s.updCap n f).act = s.act := rfl
@[simp] theorem State.updCap_fabric (n : Nat) (f : Capt → Capt) : (s.updCap n f).fabric = s.fabric := rfl
@[simp] theorem State.updCap_ingest (n : Nat) (f : Capt → Capt) : (s.updCap n f).ingest = s.ingest := rfl
@[simp] theorem State.updCap_decisions (n : Nat) (f : Capt → Capt) : (s.updCap n f).decisions = s.decisions := rfl
@[simp] theorem State.updCap_pins (n : Nat) (f : Capt → Capt) : (s.updCap n f).pins = s.pins := rfl
@[simp] theorem State.updCap_lanes (n : Nat) (f : Capt → Capt) : (s.updCap n f).lanes = s.lanes := rfl
@[simp] theorem State.updCap_masks (n : Nat) (f : Capt → Capt) : (s.updCap n f).masks = s.masks := rfl
@[simp] theorem State.updCap_deep (n : Nat) (f : Capt → Capt) : (s.updCap n f).deep = s.deep := rfl
@[simp] theorem State.updCap_groups (n : Nat) (f : Capt → Capt) : (s.updCap n f).groups = s.groups := rfl
@[simp] theorem State.updCap_hbm (n : Nat) (f : Capt → Capt) : (s.updCap n f).hbm = s.hbm := rfl
@[simp] theorem State.updCap_audit (n : Nat) (f : Capt → Capt) : (s.updCap n f).audit = s.audit := rfl
@[simp] theorem State.updCap_tape (n : Nat) (f : Capt → Capt) : (s.updCap n f).tape = s.tape := rfl
@[simp] theorem State.updCap_girder (n : Nat) (f : Capt → Capt) : (s.updCap n f).girder = s.girder := rfl
@[simp] theorem State.updCap_bases (n : Nat) (f : Capt → Capt) : (s.updCap n f).bases = s.bases := rfl
@[simp] theorem State.updCap_power (n : Nat) (f : Capt → Capt) : (s.updCap n f).power = s.power := rfl
@[simp] theorem State.updCap_faults (n : Nat) (f : Capt → Capt) : (s.updCap n f).faults = s.faults := rfl
@[simp] theorem State.updCap_freeCtr (n : Nat) (f : Capt → Capt) : (s.updCap n f).freeCtr = s.freeCtr := rfl

@[simp] theorem State.updGrp_pending (g : Nat) (f : Grp → Grp) : (s.updGrp g f).pending = s.pending := rfl
@[simp] theorem State.updGrp_clock (g : Nat) (f : Grp → Grp) : (s.updGrp g f).clock = s.clock := rfl
@[simp] theorem State.updGrp_boot (g : Nat) (f : Grp → Grp) : (s.updGrp g f).boot = s.boot := rfl
@[simp] theorem State.updGrp_lic (g : Nat) (f : Grp → Grp) : (s.updGrp g f).lic = s.lic := rfl
@[simp] theorem State.updGrp_dict (g : Nat) (f : Grp → Grp) : (s.updGrp g f).dict = s.dict := rfl
@[simp] theorem State.updGrp_host (g : Nat) (f : Grp → Grp) : (s.updGrp g f).host = s.host := rfl
@[simp] theorem State.updGrp_act (g : Nat) (f : Grp → Grp) : (s.updGrp g f).act = s.act := rfl
@[simp] theorem State.updGrp_fabric (g : Nat) (f : Grp → Grp) : (s.updGrp g f).fabric = s.fabric := rfl
@[simp] theorem State.updGrp_ingest (g : Nat) (f : Grp → Grp) : (s.updGrp g f).ingest = s.ingest := rfl
@[simp] theorem State.updGrp_decisions (g : Nat) (f : Grp → Grp) : (s.updGrp g f).decisions = s.decisions := rfl
@[simp] theorem State.updGrp_pins (g : Nat) (f : Grp → Grp) : (s.updGrp g f).pins = s.pins := rfl
@[simp] theorem State.updGrp_lanes (g : Nat) (f : Grp → Grp) : (s.updGrp g f).lanes = s.lanes := rfl
@[simp] theorem State.updGrp_capt (g : Nat) (f : Grp → Grp) : (s.updGrp g f).capt = s.capt := rfl
@[simp] theorem State.updGrp_masks (g : Nat) (f : Grp → Grp) : (s.updGrp g f).masks = s.masks := rfl
@[simp] theorem State.updGrp_deep (g : Nat) (f : Grp → Grp) : (s.updGrp g f).deep = s.deep := rfl
@[simp] theorem State.updGrp_hbm (g : Nat) (f : Grp → Grp) : (s.updGrp g f).hbm = s.hbm := rfl
@[simp] theorem State.updGrp_audit (g : Nat) (f : Grp → Grp) : (s.updGrp g f).audit = s.audit := rfl
@[simp] theorem State.updGrp_tape (g : Nat) (f : Grp → Grp) : (s.updGrp g f).tape = s.tape := rfl
@[simp] theorem State.updGrp_girder (g : Nat) (f : Grp → Grp) : (s.updGrp g f).girder = s.girder := rfl
@[simp] theorem State.updGrp_bases (g : Nat) (f : Grp → Grp) : (s.updGrp g f).bases = s.bases := rfl
@[simp] theorem State.updGrp_power (g : Nat) (f : Grp → Grp) : (s.updGrp g f).power = s.power := rfl
@[simp] theorem State.updGrp_faults (g : Nat) (f : Grp → Grp) : (s.updGrp g f).faults = s.faults := rfl
@[simp] theorem State.updGrp_freeCtr (g : Nat) (f : Grp → Grp) : (s.updGrp g f).freeCtr = s.freeCtr := rfl

@[simp] theorem State.updDie_pending (d : Nat) (f : DieSt → DieSt) : (s.updDie d f).pending = s.pending := rfl
@[simp] theorem State.updDie_clock (d : Nat) (f : DieSt → DieSt) : (s.updDie d f).clock = s.clock := rfl
@[simp] theorem State.updDie_boot (d : Nat) (f : DieSt → DieSt) : (s.updDie d f).boot = s.boot := rfl
@[simp] theorem State.updDie_lic (d : Nat) (f : DieSt → DieSt) : (s.updDie d f).lic = s.lic := rfl
@[simp] theorem State.updDie_dict (d : Nat) (f : DieSt → DieSt) : (s.updDie d f).dict = s.dict := rfl
@[simp] theorem State.updDie_host (d : Nat) (f : DieSt → DieSt) : (s.updDie d f).host = s.host := rfl
@[simp] theorem State.updDie_act (d : Nat) (f : DieSt → DieSt) : (s.updDie d f).act = s.act := rfl
@[simp] theorem State.updDie_fabric (d : Nat) (f : DieSt → DieSt) : (s.updDie d f).fabric = s.fabric := rfl
@[simp] theorem State.updDie_ingest (d : Nat) (f : DieSt → DieSt) : (s.updDie d f).ingest = s.ingest := rfl
@[simp] theorem State.updDie_decisions (d : Nat) (f : DieSt → DieSt) : (s.updDie d f).decisions = s.decisions := rfl
@[simp] theorem State.updDie_pins (d : Nat) (f : DieSt → DieSt) : (s.updDie d f).pins = s.pins := rfl
@[simp] theorem State.updDie_lanes (d : Nat) (f : DieSt → DieSt) : (s.updDie d f).lanes = s.lanes := rfl
@[simp] theorem State.updDie_capt (d : Nat) (f : DieSt → DieSt) : (s.updDie d f).capt = s.capt := rfl
@[simp] theorem State.updDie_masks (d : Nat) (f : DieSt → DieSt) : (s.updDie d f).masks = s.masks := rfl
@[simp] theorem State.updDie_deep (d : Nat) (f : DieSt → DieSt) : (s.updDie d f).deep = s.deep := rfl
@[simp] theorem State.updDie_groups (d : Nat) (f : DieSt → DieSt) : (s.updDie d f).groups = s.groups := rfl
@[simp] theorem State.updDie_hbm (d : Nat) (f : DieSt → DieSt) : (s.updDie d f).hbm = s.hbm := rfl
@[simp] theorem State.updDie_audit (d : Nat) (f : DieSt → DieSt) : (s.updDie d f).audit = s.audit := rfl
@[simp] theorem State.updDie_tape (d : Nat) (f : DieSt → DieSt) : (s.updDie d f).tape = s.tape := rfl
@[simp] theorem State.updDie_girder (d : Nat) (f : DieSt → DieSt) : (s.updDie d f).girder = s.girder := rfl
@[simp] theorem State.updDie_bases (d : Nat) (f : DieSt → DieSt) : (s.updDie d f).bases = s.bases := rfl
@[simp] theorem State.updDie_faults (d : Nat) (f : DieSt → DieSt) : (s.updDie d f).faults = s.faults := rfl
@[simp] theorem State.updDie_freeCtr (d : Nat) (f : DieSt → DieSt) : (s.updDie d f).freeCtr = s.freeCtr := rfl

@[simp] theorem State.updPort_pending (p : Nat) (f : GPort → GPort) : (s.updPort p f).pending = s.pending := rfl
@[simp] theorem State.updPort_clock (p : Nat) (f : GPort → GPort) : (s.updPort p f).clock = s.clock := rfl
@[simp] theorem State.updPort_boot (p : Nat) (f : GPort → GPort) : (s.updPort p f).boot = s.boot := rfl
@[simp] theorem State.updPort_lic (p : Nat) (f : GPort → GPort) : (s.updPort p f).lic = s.lic := rfl
@[simp] theorem State.updPort_dict (p : Nat) (f : GPort → GPort) : (s.updPort p f).dict = s.dict := rfl
@[simp] theorem State.updPort_host (p : Nat) (f : GPort → GPort) : (s.updPort p f).host = s.host := rfl
@[simp] theorem State.updPort_act (p : Nat) (f : GPort → GPort) : (s.updPort p f).act = s.act := rfl
@[simp] theorem State.updPort_fabric (p : Nat) (f : GPort → GPort) : (s.updPort p f).fabric = s.fabric := rfl
@[simp] theorem State.updPort_ingest (p : Nat) (f : GPort → GPort) : (s.updPort p f).ingest = s.ingest := rfl
@[simp] theorem State.updPort_decisions (p : Nat) (f : GPort → GPort) : (s.updPort p f).decisions = s.decisions := rfl
@[simp] theorem State.updPort_pins (p : Nat) (f : GPort → GPort) : (s.updPort p f).pins = s.pins := rfl
@[simp] theorem State.updPort_lanes (p : Nat) (f : GPort → GPort) : (s.updPort p f).lanes = s.lanes := rfl
@[simp] theorem State.updPort_capt (p : Nat) (f : GPort → GPort) : (s.updPort p f).capt = s.capt := rfl
@[simp] theorem State.updPort_masks (p : Nat) (f : GPort → GPort) : (s.updPort p f).masks = s.masks := rfl
@[simp] theorem State.updPort_deep (p : Nat) (f : GPort → GPort) : (s.updPort p f).deep = s.deep := rfl
@[simp] theorem State.updPort_groups (p : Nat) (f : GPort → GPort) : (s.updPort p f).groups = s.groups := rfl
@[simp] theorem State.updPort_hbm (p : Nat) (f : GPort → GPort) : (s.updPort p f).hbm = s.hbm := rfl
@[simp] theorem State.updPort_audit (p : Nat) (f : GPort → GPort) : (s.updPort p f).audit = s.audit := rfl
@[simp] theorem State.updPort_tape (p : Nat) (f : GPort → GPort) : (s.updPort p f).tape = s.tape := rfl
@[simp] theorem State.updPort_bases (p : Nat) (f : GPort → GPort) : (s.updPort p f).bases = s.bases := rfl
@[simp] theorem State.updPort_power (p : Nat) (f : GPort → GPort) : (s.updPort p f).power = s.power := rfl
@[simp] theorem State.updPort_faults (p : Nat) (f : GPort → GPort) : (s.updPort p f).faults = s.faults := rfl
@[simp] theorem State.updPort_freeCtr (p : Nat) (f : GPort → GPort) : (s.updPort p f).freeCtr = s.freeCtr := rfl

@[simp] theorem State.hbmWrites_pending (a : Nat) (bs : List Byte) : (s.hbmWrites a bs).pending = s.pending := rfl
@[simp] theorem State.hbmWrites_clock (a : Nat) (bs : List Byte) : (s.hbmWrites a bs).clock = s.clock := rfl
@[simp] theorem State.hbmWrites_boot (a : Nat) (bs : List Byte) : (s.hbmWrites a bs).boot = s.boot := rfl
@[simp] theorem State.hbmWrites_lic (a : Nat) (bs : List Byte) : (s.hbmWrites a bs).lic = s.lic := rfl
@[simp] theorem State.hbmWrites_dict (a : Nat) (bs : List Byte) : (s.hbmWrites a bs).dict = s.dict := rfl
@[simp] theorem State.hbmWrites_host (a : Nat) (bs : List Byte) : (s.hbmWrites a bs).host = s.host := rfl
@[simp] theorem State.hbmWrites_act (a : Nat) (bs : List Byte) : (s.hbmWrites a bs).act = s.act := rfl
@[simp] theorem State.hbmWrites_fabric (a : Nat) (bs : List Byte) : (s.hbmWrites a bs).fabric = s.fabric := rfl
@[simp] theorem State.hbmWrites_ingest (a : Nat) (bs : List Byte) : (s.hbmWrites a bs).ingest = s.ingest := rfl
@[simp] theorem State.hbmWrites_decisions (a : Nat) (bs : List Byte) : (s.hbmWrites a bs).decisions = s.decisions := rfl
@[simp] theorem State.hbmWrites_pins (a : Nat) (bs : List Byte) : (s.hbmWrites a bs).pins = s.pins := rfl
@[simp] theorem State.hbmWrites_lanes (a : Nat) (bs : List Byte) : (s.hbmWrites a bs).lanes = s.lanes := rfl
@[simp] theorem State.hbmWrites_capt (a : Nat) (bs : List Byte) : (s.hbmWrites a bs).capt = s.capt := rfl
@[simp] theorem State.hbmWrites_masks (a : Nat) (bs : List Byte) : (s.hbmWrites a bs).masks = s.masks := rfl
@[simp] theorem State.hbmWrites_deep (a : Nat) (bs : List Byte) : (s.hbmWrites a bs).deep = s.deep := rfl
@[simp] theorem State.hbmWrites_groups (a : Nat) (bs : List Byte) : (s.hbmWrites a bs).groups = s.groups := rfl
@[simp] theorem State.hbmWrites_audit (a : Nat) (bs : List Byte) : (s.hbmWrites a bs).audit = s.audit := rfl
@[simp] theorem State.hbmWrites_tape (a : Nat) (bs : List Byte) : (s.hbmWrites a bs).tape = s.tape := rfl
@[simp] theorem State.hbmWrites_girder (a : Nat) (bs : List Byte) : (s.hbmWrites a bs).girder = s.girder := rfl
@[simp] theorem State.hbmWrites_bases (a : Nat) (bs : List Byte) : (s.hbmWrites a bs).bases = s.bases := rfl
@[simp] theorem State.hbmWrites_power (a : Nat) (bs : List Byte) : (s.hbmWrites a bs).power = s.power := rfl
@[simp] theorem State.hbmWrites_faults (a : Nat) (bs : List Byte) : (s.hbmWrites a bs).faults = s.faults := rfl
@[simp] theorem State.hbmWrites_freeCtr (a : Nat) (bs : List Byte) : (s.hbmWrites a bs).freeCtr = s.freeCtr := rfl

@[simp] theorem State.inc_pending (e : Entry) (u n : Nat) : (s.inc e u n).pending = s.pending := by unfold State.inc; split <;> rfl
@[simp] theorem State.inc_clock (e : Entry) (u n : Nat) : (s.inc e u n).clock = s.clock := by unfold State.inc; split <;> rfl
@[simp] theorem State.inc_boot (e : Entry) (u n : Nat) : (s.inc e u n).boot = s.boot := by unfold State.inc; split <;> rfl
@[simp] theorem State.inc_lic (e : Entry) (u n : Nat) : (s.inc e u n).lic = s.lic := by unfold State.inc; split <;> rfl
@[simp] theorem State.inc_host (e : Entry) (u n : Nat) : (s.inc e u n).host = s.host := by unfold State.inc; split <;> rfl
@[simp] theorem State.inc_act (e : Entry) (u n : Nat) : (s.inc e u n).act = s.act := by unfold State.inc; split <;> rfl
@[simp] theorem State.inc_fabric (e : Entry) (u n : Nat) : (s.inc e u n).fabric = s.fabric := by unfold State.inc; split <;> rfl
@[simp] theorem State.inc_ingest (e : Entry) (u n : Nat) : (s.inc e u n).ingest = s.ingest := by unfold State.inc; split <;> rfl
@[simp] theorem State.inc_decisions (e : Entry) (u n : Nat) : (s.inc e u n).decisions = s.decisions := by unfold State.inc; split <;> rfl
@[simp] theorem State.inc_pins (e : Entry) (u n : Nat) : (s.inc e u n).pins = s.pins := by unfold State.inc; split <;> rfl
@[simp] theorem State.inc_lanes (e : Entry) (u n : Nat) : (s.inc e u n).lanes = s.lanes := by unfold State.inc; split <;> rfl
@[simp] theorem State.inc_capt (e : Entry) (u n : Nat) : (s.inc e u n).capt = s.capt := by unfold State.inc; split <;> rfl
@[simp] theorem State.inc_masks (e : Entry) (u n : Nat) : (s.inc e u n).masks = s.masks := by unfold State.inc; split <;> rfl
@[simp] theorem State.inc_deep (e : Entry) (u n : Nat) : (s.inc e u n).deep = s.deep := by unfold State.inc; split <;> rfl
@[simp] theorem State.inc_groups (e : Entry) (u n : Nat) : (s.inc e u n).groups = s.groups := by unfold State.inc; split <;> rfl
@[simp] theorem State.inc_hbm (e : Entry) (u n : Nat) : (s.inc e u n).hbm = s.hbm := by unfold State.inc; split <;> rfl
@[simp] theorem State.inc_audit (e : Entry) (u n : Nat) : (s.inc e u n).audit = s.audit := by unfold State.inc; split <;> rfl
@[simp] theorem State.inc_tape (e : Entry) (u n : Nat) : (s.inc e u n).tape = s.tape := by unfold State.inc; split <;> rfl
@[simp] theorem State.inc_girder (e : Entry) (u n : Nat) : (s.inc e u n).girder = s.girder := by unfold State.inc; split <;> rfl
@[simp] theorem State.inc_bases (e : Entry) (u n : Nat) : (s.inc e u n).bases = s.bases := by unfold State.inc; split <;> rfl
@[simp] theorem State.inc_power (e : Entry) (u n : Nat) : (s.inc e u n).power = s.power := by unfold State.inc; split <;> rfl
@[simp] theorem State.inc_faults (e : Entry) (u n : Nat) : (s.inc e u n).faults = s.faults := by unfold State.inc; split <;> rfl
@[simp] theorem State.inc_freeCtr (e : Entry) (u n : Nat) : (s.inc e u n).freeCtr = s.freeCtr := by unfold State.inc; split <;> rfl

/-! ### Entries of the dictionary -/

@[simp] theorem State.rd_wr_same (e : Entry) (u v : Nat) : (s.wr e u v).rd e u = v := SMap.get_set_same _ _ _ _

theorem SMap.get_set_of_ne' {α : Type} [DecidableEq α] (d d' : α) (m : SMap α) {q p : Nat} (x : α) (h : p ≠ q) :
    SMap.get d (SMap.set d' m q x) p = SMap.get d m p := by
  unfold SMap.set
  split
  · rw [SMap.get_erase, if_neg h]
  · rw [SMap.get_put, if_neg h]

/-- An entry's write leaves every other cell alone. -/
theorem State.rd_wr_of_ne {e f : Entry} {u w : Nat} (v : Nat) (h : f.key w ≠ e.key u) : (s.wr e u v).rd f w = s.rd f w :=
  SMap.get_set_of_ne' _ _ _ _ h

/-- Cells of different entries are different. -/
theorem unitOffset_inj {a b x y : Nat} (hx : x < 65536) (hy : y < 65536) (h : a * 65536 + x = b * 65536 + y) : a = b := by omega

/-- A write to another entry, known by index and sub-index. -/
theorem State.rd_wr_other {e f : Entry} (u v w : Nat) (h : e.idx * 256 + e.sub ≠ f.idx * 256 + f.sub) :
    (s.wr e u v).rd f w = s.rd f w := by
  refine State.rd_wr_of_ne s v fun k => h ?_
  exact (unitOffset_inj (Nat.mod_lt _ (by decide)) (Nat.mod_lt _ (by decide)) k).symm

theorem SMap.get_filter_of_ne {α : Type} (d : α) (p : Nat × α → Bool) (q : Nat) : ∀ m : SMap α,
    (∀ v, p (q, v) = true) → SMap.get d (m.filter p) q = SMap.get d m q
  | [], _ => rfl
  | (k, v) :: m, h => by
    have ih := SMap.get_filter_of_ne d p q m h
    by_cases hk : k = q
    · subst hk
      simp [List.filter, h v, SMap.get]
    · simp only [List.filter]
      split <;> simp [SMap.get, hk, ih]

theorem State.rd_clrAll_other {e f : Entry} (w : Nat) (h : e.idx * 256 + e.sub ≠ f.idx * 256 + f.sub) :
    (s.clrAll e).rd f w = s.rd f w := by
  refine SMap.get_filter_of_ne _ _ _ _ fun v => ?_
  apply decide_eq_true
  show f.key w < e.key 0 ∨ e.key 0 + 65536 ≤ f.key w
  unfold Entry.key
  omega

/-! ### Units -/

@[simp] theorem State.ing_updIng (n : Nat) (f : Ingest → Ingest) : (s.updIng n f).ing n = f (s.ing n) := SMap.get_upd_same _ _ _ _
@[simp] theorem State.dec_updDec (n : Nat) (f : Decide → Decide) : (s.updDec n f).dec n = f (s.dec n) := SMap.get_upd_same _ _ _ _
@[simp] theorem State.lane_updLane (n : Nat) (f : Lane → Lane) : (s.updLane n f).lane n = f (s.lane n) := SMap.get_upd_same _ _ _ _
@[simp] theorem State.cap_updCap (n : Nat) (f : Capt → Capt) : (s.updCap n f).cap n = f (s.cap n) := SMap.get_upd_same _ _ _ _
@[simp] theorem State.grp_updGrp (n : Nat) (f : Grp → Grp) : (s.updGrp n f).grp n = f (s.grp n) := SMap.get_upd_same _ _ _ _
@[simp] theorem State.die_updDie (n : Nat) (f : DieSt → DieSt) : (s.updDie n f).die n = f (s.die n) := SMap.get_upd_same _ _ _ _
@[simp] theorem State.port_updPort (n : Nat) (f : GPort → GPort) : (s.updPort n f).port n = f (s.port n) := SMap.get_upd_same _ _ _ _
@[simp] theorem State.core_updCore (p : Nat) (f : Core → Core) : (s.updCore p f).core p = f (s.core p) := SMap.get_set_same _ _ _ _

/-- An update of one core leaves every other core alone. -/
theorem State.core_updCore_of_ne {p q : Nat} (f : Core → Core) (h : q ≠ p) : (s.updCore p f).core q = s.core q :=
  SMap.get_set_of_ne _ _ _ h

theorem State.lane_updLane_of_ne {p q : Nat} (f : Lane → Lane) (h : q ≠ p) : (s.updLane p f).lane q = s.lane q :=
  SMap.get_upd_of_ne _ _ _ h

theorem State.dec_updDec_of_ne {p q : Nat} (f : Decide → Decide) (h : q ≠ p) : (s.updDec p f).dec q = s.dec q :=
  SMap.get_upd_of_ne _ _ _ h

/-! ### Time -/

/-- Time never goes back. -/
theorem State.advanceTo_cycle_le (c : Nat) : s.clock.cycle ≤ (s.advanceTo c).clock.cycle := by
  unfold State.advanceTo
  split
  · next h => exact Nat.le_of_lt h.2
  · exact Nat.le_refl _

@[simp] theorem State.advanceTo_dict (c : Nat) : (s.advanceTo c).dict = s.dict := by unfold State.advanceTo; split <;> rfl
@[simp] theorem State.advanceTo_pending (c : Nat) : (s.advanceTo c).pending = s.pending := by unfold State.advanceTo; split <;> rfl
@[simp] theorem State.advanceTo_boot (c : Nat) : (s.advanceTo c).boot = s.boot := by unfold State.advanceTo; split <;> rfl
@[simp] theorem State.advanceTo_lic (c : Nat) : (s.advanceTo c).lic = s.lic := by unfold State.advanceTo; split <;> rfl
@[simp] theorem State.advanceTo_host (c : Nat) : (s.advanceTo c).host = s.host := by unfold State.advanceTo; split <;> rfl
@[simp] theorem State.advanceTo_act (c : Nat) : (s.advanceTo c).act = s.act := by unfold State.advanceTo; split <;> rfl
@[simp] theorem State.advanceTo_ingest (c : Nat) : (s.advanceTo c).ingest = s.ingest := by unfold State.advanceTo; split <;> rfl
@[simp] theorem State.advanceTo_decisions (c : Nat) : (s.advanceTo c).decisions = s.decisions := by unfold State.advanceTo; split <;> rfl
@[simp] theorem State.advanceTo_pins (c : Nat) : (s.advanceTo c).pins = s.pins := by unfold State.advanceTo; split <;> rfl
@[simp] theorem State.advanceTo_lanes (c : Nat) : (s.advanceTo c).lanes = s.lanes := by unfold State.advanceTo; split <;> rfl
@[simp] theorem State.advanceTo_capt (c : Nat) : (s.advanceTo c).capt = s.capt := by unfold State.advanceTo; split <;> rfl
@[simp] theorem State.advanceTo_masks (c : Nat) : (s.advanceTo c).masks = s.masks := by unfold State.advanceTo; split <;> rfl
@[simp] theorem State.advanceTo_deep (c : Nat) : (s.advanceTo c).deep = s.deep := by unfold State.advanceTo; split <;> rfl
@[simp] theorem State.advanceTo_groups (c : Nat) : (s.advanceTo c).groups = s.groups := by unfold State.advanceTo; split <;> rfl
@[simp] theorem State.advanceTo_hbm (c : Nat) : (s.advanceTo c).hbm = s.hbm := by unfold State.advanceTo; split <;> rfl
@[simp] theorem State.advanceTo_audit (c : Nat) : (s.advanceTo c).audit = s.audit := by unfold State.advanceTo; split <;> rfl
@[simp] theorem State.advanceTo_tape (c : Nat) : (s.advanceTo c).tape = s.tape := by unfold State.advanceTo; split <;> rfl
@[simp] theorem State.advanceTo_girder (c : Nat) : (s.advanceTo c).girder = s.girder := by unfold State.advanceTo; split <;> rfl
@[simp] theorem State.advanceTo_bases (c : Nat) : (s.advanceTo c).bases = s.bases := by unfold State.advanceTo; split <;> rfl
@[simp] theorem State.advanceTo_power (c : Nat) : (s.advanceTo c).power = s.power := by unfold State.advanceTo; split <;> rfl
@[simp] theorem State.advanceTo_faults (c : Nat) : (s.advanceTo c).faults = s.faults := by unfold State.advanceTo; split <;> rfl
@[simp] theorem State.advanceTo_freeCtr (c : Nat) : (s.advanceTo c).freeCtr = s.freeCtr := by unfold State.advanceTo; split <;> rfl

@[simp] theorem State.advanceTo_drone (c : Nat) : (s.advanceTo c).clock.drone = s.clock.drone := by
  unfold State.advanceTo; split <;> rfl

end Sys2Proof.Machine
end

