-- ==== Sys2Proof/Laws/Frames.lean ====
section
/-! SUPPORT. Laws of frames: what each shared operation can change, said once. -/

namespace Sys2Proof.Machine

theorem keeps_refl (l : List Piece) (s : State) : keeps l s s := fun p _ => by cases p <;> rfl

theorem Piece.same_trans {s t u : State} {p : Piece} (a : p.same s t) (b : p.same t u) : p.same s u := by
  cases p <;> simp only [Piece.same] at * <;> rw [b, a]

theorem keeps_trans {l : List Piece} {s t u : State} (a : keeps l s t) (b : keeps l t u) : keeps l s u :=
  fun p h => Piece.same_trans (a p h) (b p h)

theorem keeps_mono {l m : List Piece} {s t : State} (i : ∀ p, p ∈ l → p ∈ m) (a : keeps l s t) : keeps m s t :=
  fun p h => a p fun x => h (i p x)

/-- A fold of steps that each keep some pieces keeps them. -/
theorem keeps_foldl {α : Type} {l : List Piece} (f : State → α → State) (h : ∀ s x, keeps l s (f s x)) :
    ∀ (xs : List α) (s : State), keeps l s (xs.foldl f s)
  | [], s => keeps_refl l s
  | x :: xs, s => keeps_trans (h s x) (keeps_foldl f h xs (f s x))

theorem keepsCells_refl (l : List Nat) (s : State) : keepsCells l s s := ⟨fun _ _ _ => rfl, rfl⟩

theorem keepsCells_trans {l : List Nat} {s t u : State} (a : keepsCells l s t) (b : keepsCells l t u) : keepsCells l s u :=
  ⟨fun k d h => (b.1 k d h).trans (a.1 k d h), by rw [b.2, a.2]⟩

theorem keepsCells_mono {l m : List Nat} {s t : State} (i : ∀ k, k ∈ l → k ∈ m) (a : keepsCells l s t) : keepsCells m s t :=
  ⟨fun k d h => a.1 k d fun x => h (i k x), a.2⟩

theorem keepsCells_of_dict {l : List Nat} {s t : State} (h : t.dict = s.dict) : keepsCells l s t := by
  constructor
  · intro k d _; rw [h]
  · rw [h]

/-- A write changes one cell. -/
theorem keepsCells_wr (s : State) (e : Entry) (u v : Nat) : keepsCells [e.key u] s (s.wr e u v) := by
  refine ⟨fun k d h => ?_, rfl⟩
  simp only [List.mem_singleton] at h
  show SMap.get d (SMap.set e.dflt s.dict.cells (e.key u) v) k = _
  unfold SMap.set
  split <;> simp [SMap.get_erase, SMap.get_put, h]

theorem keepsCells_inc (s : State) (e : Entry) (u n : Nat) : keepsCells [e.key u] s (s.inc e u n) := by
  unfold State.inc
  split <;> exact keepsCells_wr _ _ _ _

/-! ### Writes of the dictionary, the recorder and the sealer -/

theorem keeps_wr (s : State) (e : Entry) (u v : Nat) : keeps [.dict] s (s.wr e u v) := by
  intro p hp; cases p <;> first | exact absurd (by decide) hp | rfl

theorem keeps_inc (s : State) (e : Entry) (u n : Nat) : keeps [.dict] s (s.inc e u n) := by
  unfold State.inc; split <;> exact keeps_wr _ _ _ _

theorem keeps_recQueue (s : State) (e : RecEnt) : keeps [.tape] s (s.recQueue e) := by
  intro p hp; unfold State.recQueue; cases p <;> first | exact absurd (by decide) hp | (simp only [Piece.same]; split <;> rfl)

/-- Recording the writes of a command changes the tape alone (R330). -/
theorem keeps_noteWrites (s : State) (ws : List (Entry × Nat × Nat)) : keeps [.tape] s (s.noteWrites ws) :=
  keeps_foldl _ (fun _ _ => keeps_recQueue _ _) ws s

/-- While nothing is recorded it changes nothing. -/
theorem recQueue_idle (s : State) (e : RecEnt) (h : s.recording = false) : s.recQueue e = s := by simp [State.recQueue, h]

theorem noteWrites_idle (s : State) (h : s.recording = false) : ∀ ws : List (Entry × Nat × Nat), s.noteWrites ws = s
  | [] => rfl
  | w :: ws => by
    show State.noteWrites (s.recOd _ _ _ _ _ _) ws = s
    rw [show s.recOd w.1 (if w.1.sel = .array then w.1.sub + w.2.1 else w.1.sub) w.2.1 0 s.nextTick (leBytes w.1.typ.size w.2.2) = s
      from recQueue_idle s _ h]
    exact noteWrites_idle s h ws

theorem keeps_enterEvent (s : State) (e : AudEvent) : keeps [.audit] s (s.enterEvent e) := by
  intro p hp; unfold State.enterEvent; cases p <;> first | exact absurd (by decide) hp | (simp only [Piece.same]; split <;> rfl)

/-- An audit event changes the parts and the tape alone (R320, R330). -/
theorem keeps_auditEvent (s : State) (e : AudEvent) : keeps [.audit, .tape] s (s.auditEvent e) := by
  unfold State.auditEvent
  split
  · exact keeps_refl _ s
  · have a := keeps_mono (m := [.audit, .tape]) (by simp) (keeps_enterEvent s e)
    dsimp only
    split
    · exact keeps_trans a (keeps_mono (by simp) (keeps_recQueue _ _))
    · exact a

/-! ### The event ring -/

theorem keeps_sendSignal (s : State) (v : Nat) : keeps [.host] s (s.sendSignal v) := by
  intro p hp; unfold State.sendSignal; cases p <;> first | exact absurd (by decide) hp | (simp only [Piece.same]; split <;> rfl)

theorem keeps_signal (s : State) (v : Nat) : keeps [.host] s (s.signal v) := by
  unfold State.signal
  split
  · exact keeps_sendSignal s v
  · split
    · intro p hp; cases p <;> first | exact absurd (by decide) hp | rfl
    · refine keeps_trans (keeps_sendSignal s v) ?_
      intro p hp; cases p <;> first | exact absurd (by decide) hp | rfl

/-- An event changes the ring, the signals and, where it is lost, EVT_LOST_TOTAL (R394 to R396). -/
theorem keeps_announce (s : State) (c l d : Nat) (r : Bool) : keeps [.dict, .host] s (s.announce c l d r) := by
  have w : ∀ (t : State) (h : HostIf), keeps [.host] t { t with host := h } := fun t h p hp => by
    cases p <;> first | exact absurd (by decide) hp | rfl
  unfold State.announce
  split
  · exact keeps_mono (l := [.host]) (by simp) (keeps_trans (w s _) (keeps_signal _ _))
  · split
    · exact keeps_trans (keeps_mono (by simp) (w s _)) (keeps_mono (by simp) (keeps_inc _ _ _ _))
    · exact keeps_mono (l := [.host]) (by simp) (keeps_trans (w s _) (keeps_signal _ _))

theorem dict_signal (s : State) (v : Nat) : (s.signal v).dict = s.dict := keeps_signal s v .dict (by decide)

theorem keepsCells_announce (s : State) (c l d : Nat) (r : Bool) : keepsCells [OD.EVT_LOST_TOTAL.key 0] s (s.announce c l d r) := by
  unfold State.announce
  split
  · exact keepsCells_of_dict (by rw [dict_signal])
  · split
    · exact keepsCells_trans (keepsCells_of_dict rfl) (keepsCells_inc _ _ _ _)
    · exact keepsCells_of_dict (by rw [dict_signal])

/-! ### Raising -/

theorem keeps_setErrUnit (s : State) (u : Nat) (e : ErrUnit) : keeps [.faults] s (s.setErrUnit u e) := by
  intro p hp; cases p <;> first | exact absurd (by decide) hp | rfl

theorem keeps_handleError : ∀ (n : Nat) (s : State) (r : ErrRec) (code u : Nat) (esc : Bool),
    keeps [.dict, .host, .faults] s (State.handleError n s r code u esc).1
  | 0, s, _, _, _, _ => keeps_refl _ s
  | n + 1, s, r, code, u, esc => by
    have a : ∀ (t : State) (v : Nat) (e : ErrUnit), keeps [.dict, .host, .faults] t (t.setErrUnit v e) :=
      fun t v e => keeps_mono (by simp) (keeps_setErrUnit t v e)
    have b : ∀ (t : State) (c l v : Nat), keeps [.dict, .host, .faults] t (t.escalatedEvent c l v) :=
      fun t c l v => keeps_mono (by simp) (keeps_announce _ _ _ _ _)
    unfold State.handleError State.secondary
    dsimp only
    split
    · exact a _ _ _
    · split
      · split
        · exact a _ _ _
        · split
          · exact a _ _ _
          · split
            · exact keeps_trans (a _ _ _) (b _ _ _ _)
            · exact a _ _ _
      · split
        · exact keeps_trans (keeps_trans (a _ _ _) (b _ _ _ _)) (keeps_handleError n _ _ _ _ _)
        · exact a _ _ _

/-- Only a FATAL error makes the package enter SAFE (R471). -/
theorem handleError_safe : ∀ (n : Nat) (s : State) (r : ErrRec) (code u : Nat) (esc : Bool), r.sev ≠ 3 →
    (State.handleError n s r code u esc).2.safe = false
  | 0, _, _, _, _, _, _ => rfl
  | n + 1, s, r, code, u, esc, h => by
    unfold State.handleError
    dsimp only
    split
    · rfl
    · split
      · rw [if_neg (fun x => h x.1)]
        split
        · rfl
        · split <;> rfl
      · split
        · exact handleError_safe n _ r code _ true h
        · rfl

theorem keeps_logError (s : State) (r : ErrRec) : keeps [.dict, .faults] s (s.logError r) := by
  have w : ∀ (t : State) (h : Faults), keeps [.dict, .faults] t { t with faults := h } := fun t h p hp => by
    cases p <;> first | exact absurd (by decide) hp | rfl
  have a : keeps [.dict, .faults] s (match s.faults.log.getLast? with
    | some old =>
      if s.faults.log.length = 256 ∧ (old.logseq + 2 ^ 32 - s.rd OD.ERRLOG_IDX) % 2 ^ 32 < 2 ^ 31
      then s.inc OD.ERRLOG_OVR 0 else s
    | none => s) := by
    split
    · split
      · exact keeps_mono (by simp) (keeps_inc _ _ _ _)
      · exact keeps_refl _ s
    · exact keeps_refl _ s
  unfold State.logError
  exact keeps_trans (keeps_trans a (w _ _)) (keeps_mono (by simp) (keeps_wr _ _ _ _))

theorem keeps_pluckForce (s : State) (b c e : Nat) : keeps [.faults] s (s.pluckForce b c e) := by
  intro p hp; unfold State.pluckForce; cases p <;> first | exact absurd (by decide) hp | rfl

theorem keeps_pluckFrom (s : State) (b c e : Nat) : keeps [.faults] s (s.pluckFrom b c e) := by
  unfold State.pluckFrom; split
  · exact keeps_pluckForce _ _ _ _
  · exact keeps_refl _ s

/-- Raising an error that is not FATAL changes the event ring, the error units and log, a Pluck it starts, and the counters of
lost events and log entries: never a result (R465). -/
theorem keeps_raiseD (s : State) (code u loc d : Nat) (h : severity code ≠ 3) :
    keeps [.dict, .host, .faults] s (s.raiseD code u loc d) := by
  have a : keeps [.dict, .host, .faults] s ((s.announce code loc d (decide (1 ≤ severity code))).pluckError code) := by
    refine keeps_trans (keeps_mono (l := [.dict, .host]) (by simp) (keeps_announce s code loc d (decide (1 ≤ severity code)))) ?_
    unfold State.pluckError
    split
    · exact keeps_mono (by simp) (keeps_pluckFrom _ _ _ _)
    · exact keeps_refl _ _
  unfold State.raiseD
  dsimp only
  split
  · exact a
  · have hub : code ≠ 0x0B05 := fun e => h (e ▸ rfl)
    rw [handleError_safe 4 _ _ _ _ _ h, decide_eq_false hub]
    exact keeps_trans (keeps_trans a (keeps_handleError _ _ _ _ _ _)) (keeps_mono (by simp) (keeps_logError _ _))

theorem keeps_raise (s : State) (code u loc : Nat) (h : severity code ≠ 3) :
    keeps [.dict, .host, .faults] s (s.raise code u loc) := keeps_raiseD s code u loc 0 h

theorem keeps_raisePkg (s : State) (code loc : Nat) (h : severity code ≠ 3) :
    keeps [.dict, .host, .faults] s (s.raisePkg code loc) := keeps_raiseD s code pkgUnit loc 0 h

/-! ### Time -/

/-- Time that passes moves the clock and the sequencers that run (R84). -/
theorem keeps_advanceTo (s : State) (c : Nat) : keeps [.clock, .fabric] s (s.advanceTo c) := by
  intro p hp; unfold State.advanceTo; cases p <;> first | exact absurd (by decide) hp | (simp only [Piece.same]; split <;> rfl)

/-! ### Cores and Girder ports -/

theorem keeps_times {l : List Piece} (f : State → State) (h : ∀ s, keeps l s (f s)) : ∀ (n : Nat) (s : State), keeps l s (s.times f n)
  | 0, s => keeps_refl l s
  | n + 1, s => keeps_trans (h s) (keeps_times f h n (f s))

theorem keeps_updCore (s : State) (p : Nat) (f : Core → Core) : keeps [.fabric] s (s.updCore p f) := by
  intro q hq; cases q <;> first | exact absurd (by decide) hq | rfl

theorem keeps_counted (s : State) (e f : Entry) (u n w m code k l : Nat) (h : severity code ≠ 3) :
    keeps [.dict, .host, .faults] s (((s.inc e u n).inc f w m).raise code k l) :=
  keeps_trans (keeps_trans (keeps_mono (by simp) (keeps_inc s e u n)) (keeps_mono (by simp) (keeps_inc _ f w m))) (keeps_raise _ code k l h)

/-- What a core counted is reported and what it has ready leaves it: the fabric, the counters and the events change, nothing else. -/
theorem keeps_settleCore (s : State) (p : Nat) : keeps [.fabric, .dict, .host, .faults] s (s.settleCore p) := by
  have d : ∀ (t : State) (e : Entry) (u n : Nat), keeps [.fabric, .dict, .host, .faults] t (t.inc e u n) :=
    fun t e u n => keeps_mono (by simp) (keeps_inc t e u n)
  have a : ∀ (t : State) (n : Nat), keeps [.fabric, .dict, .host, .faults] t (t.accSat p n) := by
    intro t n
    unfold State.accSat
    split
    · exact keeps_refl _ t
    · exact keeps_trans (d _ _ _ _) (d _ _ _ _)
  have m : ∀ (t : State), keeps [.fabric, .dict, .host, .faults] t (t.mismatch p) :=
    fun t => keeps_mono (by simp) (keeps_counted t _ _ _ _ _ _ _ _ _ (by decide))
  have k : ∀ (t : State), keeps [.fabric, .dict, .host, .faults] t (t.scaleSkew p) :=
    fun t => keeps_trans (d t _ _ _) (keeps_mono (by simp) (keeps_raise _ _ _ _ (by decide)))
  have r : keeps [.fabric, .dict, .host, .faults] s { s with fabric := s.fabric.release p } := by
    intro q hq; cases q <;> first | exact absurd (by decide) hq | rfl
  have v : ∀ (t : State) (n : Nat), keeps [.fabric, .dict, .host, .faults] t (if n = 0 then t else t.inc OD.CORE_VOID_OUT p n) := by
    intro t n
    split
    · exact keeps_refl _ t
    · exact d _ _ _ _
  exact keeps_trans (keeps_trans (keeps_trans (keeps_trans (keeps_trans r (keeps_mono (by simp) (keeps_updCore _ p _))) (a _ _)) (v _ _))
    (keeps_times _ m _ _)) (keeps_times _ k _ _)

/-- The pipeline of a core that acts changes no more. -/
theorem keeps_issue (s : State) (p : Nat) (f : Issue → Core → Core) : keeps [.fabric, .dict, .host, .faults] s (s.issue p f) :=
  keeps_trans (keeps_mono (by simp) (keeps_updCore s p _)) (keeps_settleCore _ p)

theorem keeps_updPort (s : State) (p : Nat) (f : GPort → GPort) : keeps [.girder] s (s.updPort p f) := by
  intro q hq; cases q <;> first | exact absurd (by decide) hq | rfl

theorem keeps_sendFrame (s : State) (p typ : Nat) (payload : List Byte) (v : Via) : keeps [.girder] s (s.sendFrame p typ payload v) :=
  keeps_updPort s p _

theorem keeps_sendDown (s : State) (typ : Nat) (payload : List Byte) (v : Via) : keeps [.girder] s (s.sendDown typ payload v) :=
  keeps_foldl _ (fun _ _ => keeps_sendFrame _ _ _ _ _) _ s

theorem keeps_sendUp (s : State) (typ : Nat) (payload : List Byte) (v : Via) : keeps [.girder] s (s.sendUp typ payload v) := by
  unfold State.sendUp
  split
  · exact keeps_sendFrame _ _ _ _ _
  · exact keeps_refl _ s

/-- A frame that comes in changes its port and the counters of bad frames at most (R344 to R346). -/
theorem keeps_frameIn (s : State) (rx : GFrame) (typ : Nat) : keeps [.girder, .dict] s (s.frameIn rx typ).1 := by
  have a : ∀ (t : State) (p : Nat) (n : Bool), keeps [.girder, .dict] t (t.sendAck p n) :=
    fun t p n => keeps_mono (by simp) (keeps_sendFrame t p _ _ _)
  have d : ∀ (e : Entry) (u : Nat), keeps [.girder, .dict] s (s.inc e u) := fun e u => keeps_mono (by simp) (keeps_inc s e u 1)
  unfold State.frameIn
  dsimp only
  split
  · exact keeps_refl _ s
  · split
    · exact keeps_trans (d _ _) (a _ _ _)
    · split
      · exact d _ _
      · split
        · exact keeps_refl _ s
        · split
          · exact keeps_refl _ s
          · split
            · exact keeps_trans (keeps_mono (by simp) (keeps_updPort s _ _)) (a _ _ _)
            · exact a _ _ _

end Sys2Proof.Machine
end

