-- ==== Sys2Proof/Laws/Hbm.lean ====
section
/-! SUPPORT. Laws of the HBM: a byte read after a write, bytes left alone, and the canonical form that every operation keeps (R194,
R198). -/

namespace Sys2Proof.Machine

@[simp] theorem Hbm.write_undef (h : Hbm) (a : Nat) (b : Byte) : (h.write a b).undef = h.undef := by
  unfold Hbm.write; split <;> rfl

@[simp] theorem Hbm.write_isUndef (h : Hbm) (a : Nat) (b : Byte) (x : Nat) : (h.write a b).isUndef x = h.isUndef x := by
  simp [Hbm.isUndef]

theorem Hbm.unlisted_of_defined (h : Hbm) (a : Nat) (u : h.isUndef a = false) : h.unlisted a = 0 := by
  unfold Hbm.unlisted
  cases e : h.undef.find? (fun r => decide (r.1 ≤ a ∧ a < r.2.1)) with
  | none => rfl
  | some r =>
    have := List.find?_some e
    have m := List.mem_of_find?_eq_some e
    simp only [Hbm.isUndef, List.any_eq_false] at u
    exact absurd this (u r m)

@[simp] theorem Hbm.write_unlisted (h : Hbm) (a : Nat) (b : Byte) (x : Nat) : (h.write a b).unlisted x = h.unlisted x := by
  simp [Hbm.unlisted]

/-- A byte reads as what was last written there. -/
@[simp] theorem Hbm.read_write_same (h : Hbm) (a : Nat) (b : Byte) : (h.write a b).read a = b := by
  unfold Hbm.read
  rw [Hbm.write_unlisted]
  unfold Hbm.write
  split
  · simp [SMap.get_put]
  · next u =>
    rw [Hbm.unlisted_of_defined h a (by simpa using u)]
    simp

/-- A write leaves every other byte alone. -/
theorem Hbm.read_write_of_ne (h : Hbm) {a x : Nat} (b : Byte) (n : x ≠ a) : (h.write a b).read x = h.read x := by
  unfold Hbm.read
  rw [Hbm.write_unlisted]
  unfold Hbm.write
  split
  · simp [SMap.get_put, n]
  · unfold SMap.set
    split <;> simp [SMap.get_erase, SMap.get_put, n]

/-- Bytes outside a run of writes stay as they were. -/
theorem Hbm.read_writes_outside (x : Nat) : ∀ (bs : List Byte) (h : Hbm) (a : Nat), x < a ∨ a + bs.length ≤ x →
    (h.writes a bs).read x = h.read x
  | [], _, _, _ => rfl
  | b :: bs, h, a, o => by
    simp only [List.length_cons] at o
    rw [Hbm.writes, Hbm.read_writes_outside x bs (h.write a b) (a + 1) (by omega), Hbm.read_write_of_ne h b (by omega)]

/-- Bytes inside a run of writes are the bytes written. -/
theorem Hbm.read_writes_inside : ∀ (bs : List Byte) (h : Hbm) (a i : Nat), i < bs.length →
    (h.writes a bs).read (a + i) = bs.getD i 0
  | [], _, _, _, l => by simp at l
  | b :: bs, h, a, 0, _ => by
    show ((h.write a b).writes (a + 1) bs).read a = b
    rw [Hbm.read_writes_outside a bs (h.write a b) (a + 1) (by omega), Hbm.read_write_same]
  | b :: bs, h, a, i + 1, l => by
    rw [Hbm.writes, show a + (i + 1) = a + 1 + i by omega, Hbm.read_writes_inside bs (h.write a b) (a + 1) i (by simpa using l)]
    simp

theorem Hbm.wfCells_mono (h : Hbm) {lo lo' : Nat} (l : lo' ≤ lo) (m : List Host.Cell) (w : h.wfCells lo m = true) :
    h.wfCells lo' m = true := by
  cases m with
  | nil => rfl
  | cons x m =>
    simp only [Hbm.wfCells, Bool.and_eq_true, decide_eq_true_eq] at *
    exact ⟨⟨by omega, w.1.2⟩, w.2⟩

theorem Hbm.wfCells_congr {g h : Hbm} (u : ∀ x, h.isUndef x = true → g.isUndef x = true) :
    ∀ (m : List Host.Cell) (lo : Nat), h.wfCells lo m = true → g.wfCells lo m = true
  | [], _, _ => rfl
  | (a, b) :: m, lo, w => by
    simp only [Hbm.wfCells, Bool.and_eq_true, Bool.or_eq_true, decide_eq_true_eq] at *
    exact ⟨⟨w.1.1, w.1.2.imp (u a) id⟩, Hbm.wfCells_congr u m (a + 1) w.2⟩

theorem Hbm.wfCells_erase (h : Hbm) (q : Nat) : ∀ (m : List Host.Cell) (lo : Nat), h.wfCells lo m = true →
    h.wfCells lo (SMap.erase m q) = true
  | [], _, _ => rfl
  | (a, b) :: m, lo, w => by
    simp only [Hbm.wfCells, Bool.and_eq_true, decide_eq_true_eq] at w
    have ih := Hbm.wfCells_erase h q m (a + 1) w.2
    simp only [SMap.erase]
    split
    · exact Hbm.wfCells_mono h (by omega) _ ih
    · simp only [Hbm.wfCells, Bool.and_eq_true, decide_eq_true_eq]
      exact ⟨w.1, ih⟩

theorem Hbm.wfCells_put (h : Hbm) (q : Nat) {x : Byte} (hx : (h.isUndef q || decide (x ≠ 0)) = true) :
    ∀ (m : List Host.Cell) (lo : Nat), lo ≤ q → h.wfCells lo m = true → h.wfCells lo (SMap.put m q x) = true
  | [], lo, hl, _ => by simp only [SMap.put, Hbm.wfCells, hl, hx]; rfl
  | (a, b) :: m, lo, hl, w => by
    simp only [Hbm.wfCells, Bool.and_eq_true, decide_eq_true_eq] at w
    simp only [SMap.put]
    split
    · simp only [Hbm.wfCells, Bool.and_eq_true, decide_eq_true_eq]
      exact ⟨⟨hl, hx⟩, ⟨⟨by omega, w.1.2⟩, w.2⟩⟩
    · split
      · subst_vars
        simp only [Hbm.wfCells, Bool.and_eq_true, decide_eq_true_eq]
        exact ⟨⟨hl, hx⟩, w.2⟩
      · simp only [Hbm.wfCells, Bool.and_eq_true, decide_eq_true_eq]
        exact ⟨w.1, Hbm.wfCells_put h q hx m (a + 1) (by omega) w.2⟩

/-- Writing a byte keeps the canonical form. -/
theorem Hbm.wf_write {h : Hbm} (w : h.wf = true) (a : Nat) (b : Byte) : (h.write a b).wf = true := by
  refine Hbm.wfCells_congr (h := h) (fun x hx => by simpa using hx) _ 0 ?_
  unfold Hbm.write
  split
  · next u => exact Hbm.wfCells_put h a (by simp [u]) _ 0 (Nat.zero_le a) w
  · simp only [SMap.set]
    split
    · exact Hbm.wfCells_erase h a _ 0 w
    · next u hb => exact Hbm.wfCells_put h a (by rw [decide_eq_true hb, Bool.or_true]) _ 0 (Nat.zero_le a) w

/-- Writing bytes keeps the canonical form. -/
theorem Hbm.wf_writes : ∀ (bs : List Byte) {h : Hbm} (_ : h.wf = true) (a : Nat), (h.writes a bs).wf = true
  | [], _, w, _ => w
  | b :: bs, _, w, a => Hbm.wf_writes bs (Hbm.wf_write w a b) (a + 1)

theorem Hbm.wfCells_filter (h : Hbm) (p : Host.Cell → Bool) : ∀ (m : List Host.Cell) (lo : Nat), h.wfCells lo m = true →
    h.wfCells lo (m.filter p) = true
  | [], _, _ => rfl
  | (a, b) :: m, lo, w => by
    simp only [Hbm.wfCells, Bool.and_eq_true, decide_eq_true_eq] at w
    have ih := Hbm.wfCells_filter h p m (a + 1) w.2
    simp only [List.filter]
    split
    · simp only [Hbm.wfCells, Bool.and_eq_true, decide_eq_true_eq]
      exact ⟨w.1, ih⟩
    · exact Hbm.wfCells_mono h (by omega) _ ih

/-- Contents that become undefined keep the canonical form. -/
theorem Hbm.wf_undefine {h : Hbm} (w : h.wf = true) (lo hi draw : Nat) : (h.undefine lo hi draw).wf = true := by
  refine Hbm.wfCells_congr (h := h) (fun x hx => ?_) _ 0 (Hbm.wfCells_filter h _ _ 0 w)
  simp only [Hbm.isUndef, Hbm.undefine, List.any_cons, Bool.or_eq_true] at *
  exact Or.inr hx

end Sys2Proof.Machine
end

