-- ==== Sys2Proof/Laws/PerInstr.lean ====
section
/-! SUPPORT. Facts of the commands as syntax, one lemma per constructor. -/

namespace Sys2Proof.Laws.OperandsNamed

/-- A well-formed command names only cores and spares that exist (R151). -/
def Statement (i : Instr) : Prop := i.wf = true → ∀ p ∈ i.pcids, p < 8192 ∧ p % 32 ≤ 16

theorem core_of {c p : Nat} (h : coreOk c = true) (m : p ∈ [c]) : p < 8192 ∧ p % 32 ≤ 16 := by
  rw [List.mem_singleton] at m
  subst m
  exact of_decide_eq_true h

theorem home_of {c p : Nat} (h : homeOk c = true) (m : p ∈ [c]) : p < 8192 ∧ p % 32 ≤ 16 := by
  rw [List.mem_singleton] at m
  subst m
  have w : p < 8192 ∧ p % 32 < 16 := of_decide_eq_true h
  omega

theorem perstNRelease (role : Fin 4) (refdly : Fin 8) : Statement (.perstNRelease role refdly) := fun _ _ h => absurd h (List.not_mem_nil)
theorem refdlyWaitEnd : Statement (.refdlyWaitEnd) := fun _ _ h => absurd h (List.not_mem_nil)
theorem pllLockComplete : Statement (.pllLockComplete) := fun _ _ h => absurd h (List.not_mem_nil)
theorem pllLockTimeout : Statement (.pllLockTimeout) := fun _ _ h => absurd h (List.not_mem_nil)
theorem fuseReadComplete (array : BitVec 8192) : Statement (.fuseReadComplete array) := fun _ _ h => absurd h (List.not_mem_nil)
theorem fwChunk (ofs : Fin 16777216) (len : Fin 65536) : Statement (.fwChunk ofs len) := fun _ _ h => absurd h (List.not_mem_nil)
theorem fwCmdVerify : Statement (.fwCmdVerify) := fun _ _ h => absurd h (List.not_mem_nil)
theorem fwCmdDiscard : Statement (.fwCmdDiscard) := fun _ _ h => absurd h (List.not_mem_nil)
theorem fwVerifyDone : Statement (.fwVerifyDone) := fun _ _ h => absurd h (List.not_mem_nil)
theorem selfTestDone (r : SelfTest) : Statement (.selfTestDone r) := fun _ _ h => absurd h (List.not_mem_nil)
theorem trainingDone (failed : List (Fin 128)) : Statement (.trainingDone failed) := fun _ _ h => absurd h (List.not_mem_nil)
theorem defectMergeDone (ms : Word32) : Statement (.defectMergeDone ms) := fun _ _ h => absurd h (List.not_mem_nil)
theorem conventionalReset : Statement (.conventionalReset) := fun _ _ h => absurd h (List.not_mem_nil)
theorem supplyMonitorReset : Statement (.supplyMonitorReset) := fun _ _ h => absurd h (List.not_mem_nil)
theorem tickBoundary (ue : Word64) : Statement (.tickBoundary ue) := fun _ _ h => absurd h (List.not_mem_nil)
theorem ingestDeadline : Statement (.ingestDeadline) := fun _ _ h => absurd h (List.not_mem_nil)
theorem tickinEdge (rising : Bool) (cycle : Nat) : Statement (.tickinEdge rising cycle) := fun _ _ h => absurd h (List.not_mem_nil)
theorem tickinTimeout : Statement (.tickinTimeout) := fun _ _ h => absurd h (List.not_mem_nil)
theorem inputFifoArrival (core : Nat) (ctrl : Bool) (label : Fin 16) (flit : Flit) : Statement (.inputFifoArrival core ctrl label flit) := fun h _ m => core_of h m
theorem bof (core : Nat) (label : Fin 16) (tag : Word16) (ftag : Word16) (stream : Fin 64) : Statement (.bof core label tag ftag stream) := fun h _ m => core_of h m
theorem eof (core : Nat) (label : Fin 16) (tag : Word16) (ftag : Word16) : Statement (.eof core label tag ftag) := fun h _ m => core_of h m
theorem select (core : Nat) (label : Fin 16) (tag : Word16) (ftag : Word16) (sel : Fin 16) : Statement (.select core label tag ftag sel) := fun h _ m => core_of h m
theorem skip (core : Nat) (label : Fin 16) (tag : Word16) (ftag : Word16) : Statement (.skip core label tag ftag) := fun h _ m => core_of h m
theorem void (core : Nat) (label : Fin 16) (tag : Word16) (ftag : Word16) (cause : Byte) : Statement (.void core label tag ftag cause) := fun h _ m => core_of h m
theorem frameAccept (core : Nat) (ecc : Ecc) : Statement (.frameAccept core ecc) := fun h _ m => core_of h m
theorem steerTimeout (core : Nat) : Statement (.steerTimeout core) := fun h _ m => core_of h m
theorem mac8 (core : Nat) (w : Word64) (ecc : Ecc) : Statement (.mac8 core w ecc) := fun h _ m => core_of (Bool.and_eq_true_iff.mp h).1 m
theorem mac4 (core : Nat) (w : Word64) (ecc : Ecc) : Statement (.mac4 core w ecc) := fun h _ m => core_of (Bool.and_eq_true_iff.mp h).1 m
theorem scaleStep (core : Nat) (w : Word64) (ecc : Ecc) : Statement (.scaleStep core w ecc) := fun h _ m => core_of (Bool.and_eq_true_iff.mp h).1 m
theorem dataStep (core : Nat) (w : Word64) (ecc : Ecc) : Statement (.dataStep core w ecc) := fun h _ m => core_of (Bool.and_eq_true_iff.mp h).1 m
theorem loadInputFlit (core : Nat) (w : Word64) : Statement (.loadInputFlit core w) := fun h _ m => core_of (Bool.and_eq_true_iff.mp h).1 m
theorem loadActivationWord (core : Nat) (w : Word64) (ecc : Ecc) : Statement (.loadActivationWord core w ecc) := fun h _ m => core_of (Bool.and_eq_true_iff.mp h).1 m
theorem weightWordRewrite (core : Nat) (addr : Fin 32768) : Statement (.weightWordRewrite core addr) := fun h _ m => core_of (Bool.and_eq_true_iff.mp h).1 m
theorem loadPartialSum (core : Nat) (w : Word64) : Statement (.loadPartialSum core w) := fun h _ m => core_of (Bool.and_eq_true_iff.mp h).1 m
theorem requantise (core : Nat) (w : Word64) (ecc : Ecc) : Statement (.requantise core w ecc) := fun h _ m => core_of (Bool.and_eq_true_iff.mp h).1 m
theorem requantiseLookup (core : Nat) (w : Word64) (ecc : Ecc) : Statement (.requantiseLookup core w ecc) := fun h _ m => core_of (Bool.and_eq_true_iff.mp h).1 m
theorem lookup (core : Nat) (w : Word64) (ecc : Ecc) : Statement (.lookup core w ecc) := fun h _ m => core_of (Bool.and_eq_true_iff.mp h).1 m
theorem mergeIn (core : Nat) (w : Word64) : Statement (.mergeIn core w) := fun h _ m => core_of (Bool.and_eq_true_iff.mp h).1 m
theorem mergeOut (core : Nat) (w : Word64) (ecc : Ecc) : Statement (.mergeOut core w ecc) := fun h _ m => core_of (Bool.and_eq_true_iff.mp h).1 m
theorem mergeOutLookup (core : Nat) (w : Word64) (ecc : Ecc) : Statement (.mergeOutLookup core w ecc) := fun h _ m => core_of (Bool.and_eq_true_iff.mp h).1 m
theorem blockEncode (core : Nat) (w : Word64) (ecc : Ecc) : Statement (.blockEncode core w ecc) := fun h _ m => core_of (Bool.and_eq_true_iff.mp h).1 m
theorem emitData (core : Nat) (w : Word64) : Statement (.emitData core w) := fun h _ m => core_of (Bool.and_eq_true_iff.mp h).1 m
theorem emitPartialSums (core : Nat) (w : Word64) : Statement (.emitPartialSums core w) := fun h _ m => core_of (Bool.and_eq_true_iff.mp h).1 m
theorem emitControlTemplate (core : Nat) (w : Word64) : Statement (.emitControlTemplate core w) := fun h _ m => core_of (Bool.and_eq_true_iff.mp h).1 m
theorem storeActivation (core : Nat) (w : Word64) : Statement (.storeActivation core w) := fun h _ m => core_of (Bool.and_eq_true_iff.mp h).1 m
theorem emitDecisionRecord (core : Nat) (w : Word64) : Statement (.emitDecisionRecord core w) := fun h _ m => core_of (Bool.and_eq_true_iff.mp h).1 m
theorem coreParity (core : Nat) : Statement (.coreParity core) := fun h _ m => core_of h m
theorem routerHop (pos : Nat) (out : Fin 5) (fault : HopFault) : Statement (.routerHop pos out fault) := fun h _ m => home_of h m
theorem gatewayCrossing (cluster : Fin 256) (outbound : Bool) (port : Fin 12) (ctrl : Bool) : Statement (.gatewayCrossing cluster outbound port ctrl) := fun _ _ h => absurd h (List.not_mem_nil)
theorem trussHop (cluster : Fin 256) (out : Fin 6) (lane : Fin 8) (ecc : Ecc) : Statement (.trussHop cluster out lane ecc) := fun _ _ h => absurd h (List.not_mem_nil)
theorem viaductCrossing (via : Fin 8) (chan : Fin 64) (lane : Fin 8) (ctrl : Bool) (back : Bool) (ecc : Ecc) : Statement (.viaductCrossing via chan lane ctrl back ecc) := fun _ _ h => absurd h (List.not_mem_nil)
theorem hubRelay (src : Fin 5) (chan : Fin 64) (lane : Fin 4) (ctrl : Bool) : Statement (.hubRelay src chan lane ctrl) := fun _ _ h => absurd h (List.not_mem_nil)
theorem deckWrite (cluster : Fin 256) (label : Fin 16) (ctrl : Bool) (flit : Flit) : Statement (.deckWrite cluster label ctrl flit) := fun _ _ h => absurd h (List.not_mem_nil)
theorem deckRead (cluster : Fin 256) (label : Fin 16) (ctrl : Bool) (flit : Flit) (ue : Option (Fin 4096)) (ce : Bool) : Statement (.deckRead cluster label ctrl flit ue ce) := fun _ _ h => absurd h (List.not_mem_nil)
theorem recordArrival (stream : Fin 64) (record : Word64) (epoch : Fin 8) (cycle : Nat) : Statement (.recordArrival stream record epoch cycle) := fun _ _ h => absurd h (List.not_mem_nil)
theorem recordRelease (stream : Fin 64) : Statement (.recordRelease stream) := fun _ _ h => absurd h (List.not_mem_nil)
theorem deadlineMiss (stream : Fin 64) : Statement (.deadlineMiss stream) := fun _ _ h => absurd h (List.not_mem_nil)
theorem staleRecord (stream : Fin 64) : Statement (.staleRecord stream) := fun _ _ h => absurd h (List.not_mem_nil)
theorem trigoutPulseEnd (pin : Fin 8) (stream : Fin 64) : Statement (.trigoutPulseEnd pin stream) := fun _ _ h => absurd h (List.not_mem_nil)
theorem decisionBurst (lane : Fin 64) : Statement (.decisionBurst lane) := fun _ _ h => absurd h (List.not_mem_nil)
theorem laneSubstitute (lane : Fin 64) (rank : Fin 16) : Statement (.laneSubstitute lane rank) := fun _ _ h => absurd h (List.not_mem_nil)
theorem laneBlockReceived (lane : Fin 64) (bytes : List Byte) (fault : BlockFault) (fill : Nat) (pin : Nat) : Statement (.laneBlockReceived lane bytes fault fill pin) := fun _ _ h => absurd h (List.not_mem_nil)
theorem fecCodeword (lane : Fin 64) (corrected : Option (Fin 16)) : Statement (.fecCodeword lane corrected) := fun _ _ h => absurd h (List.not_mem_nil)
theorem laneEnable (lane : Fin 64) (value : Byte) : Statement (.laneEnable lane value) := fun _ _ h => absurd h (List.not_mem_nil)
theorem quadConfigWrite (quad : Fin 16) (sub : Fin 9) (value : Word32) : Statement (.quadConfigWrite quad sub value) := fun _ _ h => absurd h (List.not_mem_nil)
theorem lanePllLocked (quad : Fin 16) : Statement (.lanePllLocked quad) := fun _ _ h => absurd h (List.not_mem_nil)
theorem cdrLocked (lane : Fin 64) : Statement (.cdrLocked lane) := fun _ _ h => absurd h (List.not_mem_nil)
theorem adaptConverged (lane : Fin 64) (ctle : Fin 16) (dfe : Word32) : Statement (.adaptConverged lane ctle dfe) := fun _ _ h => absurd h (List.not_mem_nil)
theorem adaptTimeout (lane : Fin 64) (ctle : Fin 16) (dfe : Word32) : Statement (.adaptTimeout lane ctle dfe) := fun _ _ h => absurd h (List.not_mem_nil)
theorem fecLock (lane : Fin 64) : Statement (.fecLock lane) := fun _ _ h => absurd h (List.not_mem_nil)
theorem blockLock (lane : Fin 64) : Statement (.blockLock lane) := fun _ _ h => absurd h (List.not_mem_nil)
theorem delineated (lane : Fin 64) : Statement (.delineated lane) := fun _ _ h => absurd h (List.not_mem_nil)
theorem laneDown (lane : Fin 64) (why : LaneLoss) : Statement (.laneDown lane why) := fun _ _ h => absurd h (List.not_mem_nil)
theorem laneTrainFail (lane : Fin 64) : Statement (.laneTrainFail lane) := fun _ _ h => absurd h (List.not_mem_nil)
theorem prbsLock (lane : Fin 64) (rx : List Bool) : Statement (.prbsLock lane rx) := fun _ _ h => absurd h (List.not_mem_nil)
theorem injFire (lane : Fin 64) : Statement (.injFire lane) := fun _ _ h => absurd h (List.not_mem_nil)
theorem injPeriodic (lane : Fin 64) : Statement (.injPeriodic lane) := fun _ _ h => absurd h (List.not_mem_nil)
theorem deepBurst (lane : Fin 64) : Statement (.deepBurst lane) := fun _ _ h => absurd h (List.not_mem_nil)
theorem readoutBurst (lane : Fin 64) (ecc : Ecc) : Statement (.readoutBurst lane ecc) := fun _ _ h => absurd h (List.not_mem_nil)
theorem captureFrameWrite (stream : Fin 64) : Statement (.captureFrameWrite stream) := fun _ _ h => absurd h (List.not_mem_nil)
theorem captArm (stream : Fin 64) : Statement (.captArm stream) := fun _ _ h => absurd h (List.not_mem_nil)
theorem captStop (stream : Fin 64) : Statement (.captStop stream) := fun _ _ h => absurd h (List.not_mem_nil)
theorem captFreeTo (stream : Fin 64) (segno : Word32) : Statement (.captFreeTo stream segno) := fun _ _ h => absurd h (List.not_mem_nil)
theorem ovfRearm (stream : Fin 64) : Statement (.ovfRearm stream) := fun _ _ h => absurd h (List.not_mem_nil)
theorem maskTestDone (stream : Fin 64) (ueFirst : Option Nat) (ce : Bool) : Statement (.maskTestDone stream ueFirst ce) := fun _ _ h => absurd h (List.not_mem_nil)
theorem maskPointWrite (hi : Word32) : Statement (.maskPointWrite hi) := fun _ _ h => absurd h (List.not_mem_nil)
theorem gateTimeout (stream : Fin 64) : Statement (.gateTimeout stream) := fun _ _ h => absurd h (List.not_mem_nil)
theorem deepSlotBoundary : Statement (.deepSlotBoundary) := fun _ _ h => absurd h (List.not_mem_nil)
theorem refreshWindow (t0 : Byte) (t1 : Byte) (corrected : Nat) (reissued : Nat) : Statement (.refreshWindow t0 t1 corrected reissued) := fun _ _ h => absurd h (List.not_mem_nil)
theorem handoffDrain (stream : Fin 64) : Statement (.handoffDrain stream) := fun _ _ h => absurd h (List.not_mem_nil)
theorem recallRequest (core : Nat) (f0 : Word64) (q0 : Word64) (q1 : Word64) : Statement (.recallRequest core f0 q0 q1) := fun h _ m => core_of h m
theorem recallStart (ueAddrs : List Nat) (ce : Nat) : Statement (.recallStart ueAddrs ce) := fun _ _ h => absurd h (List.not_mem_nil)
theorem recallResponse : Statement (.recallResponse) := fun _ _ h => absurd h (List.not_mem_nil)
theorem deepItemStart : Statement (.deepItemStart) := fun _ _ h => absurd h (List.not_mem_nil)
theorem deepResult (payload : Word64) (sat : Bool) (hist : Bool) (reset : Bool) (repair : Bool) (programVoid : Bool) : Statement (.deepResult payload sat hist reset repair programVoid) := fun _ _ h => absurd h (List.not_mem_nil)
theorem deepStrictRelease : Statement (.deepStrictRelease) := fun _ _ h => absurd h (List.not_mem_nil)
theorem histClear : Statement (.histClear) := fun _ _ h => absurd h (List.not_mem_nil)
theorem labelCutoff (group : Fin 8) : Statement (.labelCutoff group) := fun _ _ h => absurd h (List.not_mem_nil)
theorem adaptUpdate (group : Fin 8) (grads : List GradBlock) (banksWritten : Bool) : Statement (.adaptUpdate group grads banksWritten) := fun _ _ h => absurd h (List.not_mem_nil)
theorem adaptBankRelease (group : Fin 8) : Statement (.adaptBankRelease group) := fun _ _ h => absurd h (List.not_mem_nil)
theorem adaptSwap (group : Fin 8) : Statement (.adaptSwap group) := fun _ _ h => absurd h (List.not_mem_nil)
theorem rollbackCmd : Statement (.rollbackCmd) := fun _ _ h => absurd h (List.not_mem_nil)
theorem satReport (core : Nat) (layer : Fin 1088) (count : Word32) : Statement (.satReport core layer count) := fun h _ m => core_of h m
theorem driftWindowBoundary : Statement (.driftWindowBoundary) := fun _ _ h => absurd h (List.not_mem_nil)
theorem slotOpen (slot : Fin 2) (seq : Word32) : Statement (.slotOpen slot seq) := fun _ _ h => absurd h (List.not_mem_nil)
theorem slotCommit (slot : Fin 2) (size : Word64) (prog : BitVec 256) (weight : BitVec 256) : Statement (.slotCommit slot size prog weight) := fun _ _ h => absurd h (List.not_mem_nil)
theorem slotClear (slot : Fin 2) : Statement (.slotClear slot) := fun _ _ h => absurd h (List.not_mem_nil)
theorem slotCheckDone (slot : Fin 2) (content : ImageContent) : Statement (.slotCheckDone slot content) := fun _ _ h => absurd h (List.not_mem_nil)
theorem bar2Write (ofs : Fin 268435456) (bytes : List Byte) : Statement (.bar2Write ofs bytes) := fun _ _ h => absurd h (List.not_mem_nil)
theorem bar2Read (ofs : Fin 268435456) (len : Fin 4097) (ecc : Ecc) : Statement (.bar2Read ofs len ecc) := fun _ _ h => absurd h (List.not_mem_nil)
theorem winBaseWrite (value : Word64) : Statement (.winBaseWrite value) := fun _ _ h => absurd h (List.not_mem_nil)
theorem actCmdActivate (slot : Fin 2) (mode : Fin 2) (at_ : Word64) (resumeAt : Word64) : Statement (.actCmdActivate slot mode at_ resumeAt) := fun _ _ h => absurd h (List.not_mem_nil)
theorem actCmdCancel : Statement (.actCmdCancel) := fun _ _ h => absurd h (List.not_mem_nil)
theorem actStart : Statement (.actStart) := fun _ _ h => absurd h (List.not_mem_nil)
theorem drainDone : Statement (.drainDone) := fun _ _ h => absurd h (List.not_mem_nil)
theorem verifyPass : Statement (.verifyPass) := fun _ _ h => absurd h (List.not_mem_nil)
theorem dampStuck : Statement (.dampStuck) := fun _ _ h => absurd h (List.not_mem_nil)
theorem loadDone (ecc : Ecc) : Statement (.loadDone ecc) := fun _ _ h => absurd h (List.not_mem_nil)
theorem rampWave (wave : Fin 8) : Statement (.rampWave wave) := fun _ _ h => absurd h (List.not_mem_nil)
theorem resumeTick : Statement (.resumeTick) := fun _ _ h => absurd h (List.not_mem_nil)
theorem launchMissed : Statement (.launchMissed) := fun _ _ h => absurd h (List.not_mem_nil)
theorem epochSweep (found : Bool) : Statement (.epochSweep found) := fun _ _ h => absurd h (List.not_mem_nil)
theorem auditWindowBoundary : Statement (.auditWindowBoundary) := fun _ _ h => absurd h (List.not_mem_nil)
theorem sealComplete : Statement (.sealComplete) := fun _ _ h => absurd h (List.not_mem_nil)
theorem sealEnWrite (value : Bool) : Statement (.sealEnWrite value) := fun _ _ h => absurd h (List.not_mem_nil)
theorem recArm : Statement (.recArm) := fun _ _ h => absurd h (List.not_mem_nil)
theorem recStop : Statement (.recStop) := fun _ _ h => absurd h (List.not_mem_nil)
theorem recOverrun : Statement (.recOverrun) := fun _ _ h => absurd h (List.not_mem_nil)
theorem replayStart (anchor : Word64) (slot : Fin 2) (end_ : Word64) : Statement (.replayStart anchor slot end_) := fun _ _ h => absurd h (List.not_mem_nil)
theorem replayStop : Statement (.replayStop) := fun _ _ h => absurd h (List.not_mem_nil)
theorem beaconSend : Statement (.beaconSend) := fun _ _ h => absurd h (List.not_mem_nil)
theorem beacon (rx : GFrame) (domain : Word32) (mgrSerial : Word64) (rosterGen : Word32) (joins : Bool) : Statement (.beacon rx domain mgrSerial rosterGen joins) := fun _ _ h => absurd h (List.not_mem_nil)
theorem joinReq (rx : GFrame) (info : JoinInfo) : Statement (.joinReq rx info) := fun _ _ h => absurd h (List.not_mem_nil)
theorem joinAck (rx : GFrame) (serial : Word64) (addr : Word16) (depth : Fin 256) : Statement (.joinAck rx serial addr depth) := fun _ _ h => absurd h (List.not_mem_nil)
theorem joinNak (rx : GFrame) (serial : Word64) (reason : Fin 256) : Statement (.joinNak rx serial reason) := fun _ _ h => absurd h (List.not_mem_nil)
theorem leave (rx : GFrame) (addr : Fin 256) (orderly : Bool) (subtree : Bool) : Statement (.leave rx addr orderly subtree) := fun _ _ h => absurd h (List.not_mem_nil)
theorem heartbeat (rx : GFrame) (addr : Fin 256) (drone : Word32) : Statement (.heartbeat rx addr drone) := fun _ _ h => absurd h (List.not_mem_nil)
theorem heartbeatSend : Statement (.heartbeatSend) := fun _ _ h => absurd h (List.not_mem_nil)
theorem heartbeatMissed (addr : Fin 256) : Statement (.heartbeatMissed addr) := fun _ _ h => absurd h (List.not_mem_nil)
theorem sync (rx : GFrame) (m : SyncMsg) (ingress : Nat) (frac : Fin 65536) : Statement (.sync rx m ingress frac) := fun _ _ h => absurd h (List.not_mem_nil)
theorem syncSend (egressFrac : Fin 65536) : Statement (.syncSend egressFrac) := fun _ _ h => absurd h (List.not_mem_nil)
theorem delayMeasure : Statement (.delayMeasure) := fun _ _ h => absurd h (List.not_mem_nil)
theorem delayReq (rx : GFrame) (turn : Word64) : Statement (.delayReq rx turn) := fun _ _ h => absurd h (List.not_mem_nil)
theorem delayResp (rx : GFrame) (t1 : Nat) (t4 : Nat) (turn : Word64) : Statement (.delayResp rx t1 t4 turn) := fun _ _ h => absurd h (List.not_mem_nil)
theorem launch (rx : GFrame) (m : LaunchMsg) : Statement (.launch rx m) := fun _ _ h => absurd h (List.not_mem_nil)
theorem launchAck (rx : GFrame) (count : Word64) (code : Fin 4) (refuse : Byte) (addr : Fin 256) : Statement (.launchAck rx count code refuse addr) := fun _ _ h => absurd h (List.not_mem_nil)
theorem launchAckTimeout : Statement (.launchAckTimeout) := fun _ _ h => absurd h (List.not_mem_nil)
theorem odReq (rx : GFrame) (op : OdOp) (m : OdMsg) : Statement (.odReq rx op m) := fun _ _ h => absurd h (List.not_mem_nil)
theorem odResp (rx : GFrame) (addr : Fin 256) (tag : Word16) (op : OdOp) (status : Byte) (failItem : Word16) (tick : Word64) (items : List (OdItem × Byte)) : Statement (.odResp rx addr tag op status failItem tick items) := fun _ _ h => absurd h (List.not_mem_nil)
theorem odForwardTimeout : Statement (.odForwardTimeout) := fun _ _ h => absurd h (List.not_mem_nil)
theorem fwData (rx : GFrame) (ofs : Word32) (bytes : List Byte) (last : Bool) : Statement (.fwData rx ofs bytes last) := fun _ _ h => absurd h (List.not_mem_nil)
theorem fwStatus (rx : GFrame) (addr : Fin 256) (received : Word32) (status : Fin 3) : Statement (.fwStatus rx addr received status) := fun _ _ h => absurd h (List.not_mem_nil)
theorem linkAck (rx : GFrame) (lseq : Word16) (nak : Bool) : Statement (.linkAck rx lseq nak) := fun _ _ h => absurd h (List.not_mem_nil)
theorem resendTimeout (port : Fin 4) : Statement (.resendTimeout port) := fun _ _ h => absurd h (List.not_mem_nil)
theorem joinRetry : Statement (.joinRetry) := fun _ _ h => absurd h (List.not_mem_nil)
theorem refusedWaitEnd : Statement (.refusedWaitEnd) := fun _ _ h => absurd h (List.not_mem_nil)
theorem beaconWatchdog : Statement (.beaconWatchdog) := fun _ _ h => absurd h (List.not_mem_nil)
theorem servoHoldover : Statement (.servoHoldover) := fun _ _ h => absurd h (List.not_mem_nil)
theorem addrHoldExpiry (addr : Fin 256) : Statement (.addrHoldExpiry addr) := fun _ _ h => absurd h (List.not_mem_nil)
theorem joinCmd : Statement (.joinCmd) := fun _ _ h => absurd h (List.not_mem_nil)
theorem leaveCmd (value : Bool) : Statement (.leaveCmd value) := fun _ _ h => absurd h (List.not_mem_nil)
theorem launchCmd (m : LaunchMsg) : Statement (.launchCmd m) := fun _ _ h => absurd h (List.not_mem_nil)
theorem roleOverride (value : Byte) : Statement (.roleOverride value) := fun _ _ h => absurd h (List.not_mem_nil)
theorem upstreamLoss (refclk : Bool) : Statement (.upstreamLoss refclk) := fun _ _ h => absurd h (List.not_mem_nil)
theorem holdoverEnd (refclk : Bool) : Statement (.holdoverEnd refclk) := fun _ _ h => absurd h (List.not_mem_nil)
theorem tbTimeWrite (tb : Fin 4) (time : BitVec 96) : Statement (.tbTimeWrite tb time) := fun _ _ h => absurd h (List.not_mem_nil)
theorem tbStep (tb : Fin 4) (step : BitVec 96) : Statement (.tbStep tb step) := fun _ _ h => absurd h (List.not_mem_nil)
theorem tbRateWrite (tb : Fin 4) (rate : Word32) : Statement (.tbRateWrite tb rate) := fun _ _ h => absurd h (List.not_mem_nil)
theorem tbIncrWrite (tb : Fin 4) (incr : Word32) : Statement (.tbIncrWrite tb incr) := fun _ _ h => absurd h (List.not_mem_nil)
theorem tbIncAdj (tb : Fin 4) (adj : Word32) : Statement (.tbIncAdj tb adj) := fun _ _ h => absurd h (List.not_mem_nil)
theorem odRead (m : OdMsg) : Statement (.odRead m) := fun _ _ h => absurd h (List.not_mem_nil)
theorem odWrite (m : OdMsg) : Statement (.odWrite m) := fun _ _ h => absurd h (List.not_mem_nil)
theorem odWriteDry (m : OdMsg) : Statement (.odWriteDry m) := fun _ _ h => absurd h (List.not_mem_nil)
theorem odDescribe (m : OdMsg) : Statement (.odDescribe m) := fun _ _ h => absurd h (List.not_mem_nil)
theorem odList (m : OdMsg) : Statement (.odList m) := fun _ _ h => absurd h (List.not_mem_nil)
theorem mbAck : Statement (.mbAck) := fun _ _ h => absurd h (List.not_mem_nil)
theorem txnCommit : Statement (.txnCommit) := fun _ _ h => absurd h (List.not_mem_nil)
theorem bar0RegisterWrite (reg : Bar0Reg) (value : Word32) : Statement (.bar0RegisterWrite reg value) := fun _ _ h => absurd h (List.not_mem_nil)
theorem functionLevelReset : Statement (.functionLevelReset) := fun _ _ h => absurd h (List.not_mem_nil)
theorem pcieLinkDown : Statement (.pcieLinkDown) := fun _ _ h => absurd h (List.not_mem_nil)
theorem licData (bytes : List Byte) : Statement (.licData bytes) := fun _ _ h => absurd h (List.not_mem_nil)
theorem licInstall : Statement (.licInstall) := fun _ _ h => absurd h (List.not_mem_nil)
theorem licCheckDone : Statement (.licCheckDone) := fun _ _ h => absurd h (List.not_mem_nil)
theorem licRemove : Statement (.licRemove) := fun _ _ h => absurd h (List.not_mem_nil)
theorem licDiscard : Statement (.licDiscard) := fun _ _ h => absurd h (List.not_mem_nil)
theorem presenceBtnPress : Statement (.presenceBtnPress) := fun _ _ h => absurd h (List.not_mem_nil)
theorem presenceWindowExpiry : Statement (.presenceWindowExpiry) := fun _ _ h => absurd h (List.not_mem_nil)
theorem presClose : Statement (.presClose) := fun _ _ h => absurd h (List.not_mem_nil)
theorem presentNChange (level : Bool) : Statement (.presentNChange level) := fun _ _ h => absurd h (List.not_mem_nil)
theorem sealLoopBreak : Statement (.sealLoopBreak) := fun _ _ h => absurd h (List.not_mem_nil)
theorem sealLoopRestored : Statement (.sealLoopRestored) := fun _ _ h => absurd h (List.not_mem_nil)
theorem fuseProgram (field : Byte) (value : BitVec 256) : Statement (.fuseProgram field value) := fun _ _ h => absurd h (List.not_mem_nil)
theorem fuseProgramDone (good : Bool) : Statement (.fuseProgramDone good) := fun _ _ h => absurd h (List.not_mem_nil)
theorem debugUnlock : Statement (.debugUnlock) := fun _ _ h => absurd h (List.not_mem_nil)
theorem debugRelock : Statement (.debugRelock) := fun _ _ h => absurd h (List.not_mem_nil)
theorem tapInstruction (ins : TapInstr) : Statement (.tapInstruction ins) := fun _ _ h => absurd h (List.not_mem_nil)
theorem powerEstimate (mw : Word32) : Statement (.powerEstimate mw) := fun _ _ h => absurd h (List.not_mem_nil)
theorem thermSample (readings : List Int) : Statement (.thermSample readings) := fun _ _ h => absurd h (List.not_mem_nil)
theorem thermalDemandStep : Statement (.thermalDemandStep) := fun _ _ h => absurd h (List.not_mem_nil)
theorem marginShort (die : Fin 4) : Statement (.marginShort die) := fun _ _ h => absurd h (List.not_mem_nil)
theorem avsTransactionDone (die : Fin 4) (ok : Bool) (mv : Word16) (deciAmps : Word16) : Statement (.avsTransactionDone die ok mv deciAmps) := fun _ _ h => absurd h (List.not_mem_nil)
theorem loadHint (dies : Fin 16) (drone48 : BitVec 48) : Statement (.loadHint dies drone48) := fun _ _ h => absurd h (List.not_mem_nil)
theorem hintBoostStart : Statement (.hintBoostStart) := fun _ _ h => absurd h (List.not_mem_nil)
theorem hintBoostEnd : Statement (.hintBoostEnd) := fun _ _ h => absurd h (List.not_mem_nil)
theorem droopTrip (die : Fin 4) (cycle : Nat) : Statement (.droopTrip die cycle) := fun _ _ h => absurd h (List.not_mem_nil)
theorem stretchEnd (die : Fin 4) (cycle : Nat) : Statement (.stretchEnd die cycle) := fun _ _ h => absurd h (List.not_mem_nil)
theorem gateIdleAck (block : Nat) : Statement (.gateIdleAck block) := fun _ _ h => absurd h (List.not_mem_nil)
theorem gateRefused (block : Nat) : Statement (.gateRefused block) := fun _ _ h => absurd h (List.not_mem_nil)
theorem pllUnlock (pll : Fin 42) : Statement (.pllUnlock pll) := fun _ _ h => absurd h (List.not_mem_nil)
theorem clockMuxSwitch (mux : Fin 8) (src : Fin 64) : Statement (.clockMuxSwitch mux src) := fun _ _ h => absurd h (List.not_mem_nil)
theorem deadClock (mux : Fin 8) (src : Fin 64) : Statement (.deadClock mux src) := fun _ _ h => absurd h (List.not_mem_nil)
theorem clkmonWrite (sel : Byte) (div : Word16) : Statement (.clkmonWrite sel div) := fun _ _ h => absurd h (List.not_mem_nil)
theorem errClear (unit : Word16) : Statement (.errClear unit) := fun _ _ h => absurd h (List.not_mem_nil)
theorem errAutoclearExpiry (unit : Word16) : Statement (.errAutoclearExpiry unit) := fun _ _ h => absurd h (List.not_mem_nil)
theorem hubFault : Statement (.hubFault) := fun _ _ h => absurd h (List.not_mem_nil)
theorem safeDrainEnd : Statement (.safeDrainEnd) := fun _ _ h => absurd h (List.not_mem_nil)
theorem repairWindowStart (core : Nat) : Statement (.repairWindowStart core) := fun h _ m => home_of h m
theorem standInLoadDone (core : Nat) : Statement (.standInLoadDone core) := fun h _ m => home_of h m
theorem standIn (core : Nat) : Statement (.standIn core) := fun h _ m => home_of h m
theorem pluckCmd : Statement (.pluckCmd) := fun _ _ h => absurd h (List.not_mem_nil)
theorem pluckInEdge (rising : Bool) : Statement (.pluckInEdge rising) := fun _ _ h => absurd h (List.not_mem_nil)
theorem pluckLatch : Statement (.pluckLatch) := fun _ _ h => absurd h (List.not_mem_nil)
theorem snapshotCopyDone (bank : Fin 2) : Statement (.snapshotCopyDone bank) := fun _ _ h => absurd h (List.not_mem_nil)
theorem snapRelease (bank : Byte) : Statement (.snapRelease bank) := fun _ _ h => absurd h (List.not_mem_nil)
theorem monClear : Statement (.monClear) := fun _ _ h => absurd h (List.not_mem_nil)
theorem coreCntClear : Statement (.coreCntClear) := fun _ _ h => absurd h (List.not_mem_nil)
theorem satClear : Statement (.satClear) := fun _ _ h => absurd h (List.not_mem_nil)
theorem fabricCntClear : Statement (.fabricCntClear) := fun _ _ h => absurd h (List.not_mem_nil)
theorem deepCntClear : Statement (.deepCntClear) := fun _ _ h => absurd h (List.not_mem_nil)
theorem adaptCntClear : Statement (.adaptCntClear) := fun _ _ h => absurd h (List.not_mem_nil)
theorem laneCntClear : Statement (.laneCntClear) := fun _ _ h => absurd h (List.not_mem_nil)
theorem trgCntClear : Statement (.trgCntClear) := fun _ _ h => absurd h (List.not_mem_nil)
theorem hostCntClear : Statement (.hostCntClear) := fun _ _ h => absurd h (List.not_mem_nil)
theorem pwrCntClear : Statement (.pwrCntClear) := fun _ _ h => absurd h (List.not_mem_nil)
theorem fwImgData (bytes : List Byte) : Statement (.fwImgData bytes) := fun _ _ h => absurd h (List.not_mem_nil)
theorem girderPortLock (port : Fin 4) : Statement (.girderPortLock port) := fun _ _ h => absurd h (List.not_mem_nil)
theorem girderPortLossOfLock (port : Fin 4) : Statement (.girderPortLossOfLock port) := fun _ _ h => absurd h (List.not_mem_nil)
theorem referenceReturn (src : Fin 6) : Statement (.referenceReturn src) := fun _ _ h => absurd h (List.not_mem_nil)
theorem pcieLinkUp (rate : Fin 8) (width : Fin 32) : Statement (.pcieLinkUp rate width) := fun _ _ h => absurd h (List.not_mem_nil)
theorem evtModExpiry (vector : Fin 32) : Statement (.evtModExpiry vector) := fun _ _ h => absurd h (List.not_mem_nil)
theorem hubFirmwareRestartDone : Statement (.hubFirmwareRestartDone) := fun _ _ h => absurd h (List.not_mem_nil)

end Sys2Proof.Laws.OperandsNamed
end

