-- ==== Sys2Proof/Tests/Slice0.lean ====
section
/-! SUPPORT. The model's own tests: the manual's worked examples; well-formedness, with a term that breaks each check; and for every
statement with hypotheses, states and operands that meet the hypotheses of each of its clauses (witness_<the statement's name>). -/

namespace Sys2Proof.Tests

open Sys2Proof.Machine

set_option Elab.async false

theorem test_reset_inv : State.reset.Inv := by decide

/-- A device that is up: clocks running, dictionary served. -/
def dev : State := { State.reset with clock.running := true, host.ready := true, boot.inReset := false, boot.stage := 9 }

/-- A device with some dictionary cells set. -/
def devWith (l : List (Entry × Nat × Nat)) : State := l.foldl (fun s x => s.wr x.1 x.2.1 x.2.2) dev

/-- A device with one core loaded. -/
def devCore (p : Nat) (c : Core) : State := dev.setCore p { c with loaded := true }

/-! ### The manual's worked examples -/

/-- The input quantiser of the Orsk wall example. -/
theorem test_quantiser_example :
    [4095, 3328, 100, 0].map (fun x => quantise x 256 67 11 false (-128) 127) = [(126, false), (100, false), (-5, false), (-8, false)] ∧
    (quantise 3328 256 67 11 true (-128) 127).1 = 101 := by decide

/-- The requantiser of the Orsk wall example, in both modes. -/
theorem test_requantiser_example :
    [2000, 1984, 2112, -1984, 8000000, -6000].map (fun a => requant a 3145728 27 (-5) (-128) 127 false) =
      [(42, false), (41, false), (45, false), (-51, false), (127, true), (-128, true)] ∧
    [2000, 1984, 2112, -1984, 8000000, -6000].map (fun a => requant a 3145728 27 (-5) (-128) 127 true) =
      [(42, false), (42, false), (45, false), (-52, false), (127, true), (-128, true)] := by decide

/-- The block group of the Veldmark example: the aligned terms and the requantised sum. -/
theorem test_block_group_example :
    [rnd 1002 (252 - 124 - 126) false, rnd (-3000) (252 - 125 - 127) false, rnd 20004 (252 - 123 - 126) false] = [250, -3000, 2500] ∧
    requant (250 - 3000 + 2500) 1000 (10 - (252 - 254)) 0 (-128) 127 false = (-61, false) ∧
    effShift (BitVec.ofNat 128 (10 * 2 ^ 32 + 254 * 2 ^ 112)) (some { xe := [252] }) 0 = 12 := by decide

/-- The PCID of the A3584 in the Veldmark reduction example. -/
theorem test_pcid_example :
    { dev with boot.fuses := BitVec.ofNat 8192 (2 * 2 ^ 104 + 2 * 2 ^ 152) }.pcidOf 12 45 = some 5476 := by decide +kernel

/-- Averaging: the sum of the example at k = 7, exponent k - 5. -/
theorem test_average_example : rnd 131090 (7 - 5) false = 32772 := by decide

/-- The moments of the adaptation example, in elements 0 of blocks whose other elements are zero. -/
theorem test_moments_example :
    let z := List.replicate 31 (0 : Int)
    let r := moments 3 7 (115, -64 :: z) (117, 40 :: z) (103, 200 :: z)
    (r.1.1, laneOf r.1.2 0, r.2.1.1, laneOf r.2.1.2 0) = (116, 66, 103, 199) := by decide +kernel

/-- The weight's step of that example, on either side of the draw that divides it. -/
theorem test_step_example :
    let c : StepCfg := { lrM := 3, lrS := 15, epsE := -30, wexp := -14, envStep := 8, envDrift := 2048 }
    rs0 71 = 26280 ∧ stepWeight c 66 116 199 103 1300 1280 31536 = (1298, false, 0) ∧
      stepWeight c 66 116 199 103 1300 1280 31535 = (1297, false, 0) := by decide +kernel

/-- The check value of the CRC-64. -/
theorem test_crc64_check : crc64 ((List.range 9).map fun i => BitVec.ofNat 8 (0x31 + i)) = 0x6C40DF5F0B497347 := by decide +kernel

/-- CRC-32 and SHA-256 on their standards' own examples: "123456789" and "abc". -/
theorem test_crc32_check : crc32 ((List.range 9).map fun i => BitVec.ofNat 8 (0x31 + i)) = 0xCBF43926 := by decide +kernel

/-- IEEE 802.3 Clause 36 and Clause 91: /K28.5/, /K28.0/, /K27.7/ and D21.5 from negative disparity, a wrong disparity, and the
generator polynomial's last three coefficients. -/
theorem test_code_groups : codeGroups false [.comma, .skip, .marker, .data 0xB5] = [0x0FA, 0x30B, 0x097, 0x2AA] ∧
    codeUse false 0x0FA = some .comma ∧ codeUse true 0x0FA = none := by decide
theorem test_fec_generator : rsGenerator.drop 28 = [128, 834, 523] := by decide +kernel

theorem test_sha256_abc : beNat (sha256 [0x61, 0x62, 0x63]) =
    0xBA7816BF8F01CFEA414140DE5DAE2223B00361A396177A9CB410FF61F20015AD := by decide +kernel

/-! ### Well-formedness -/

/-- The table gives no row any bits, so no word spells a command and `withFetchWord` changes nothing. -/
theorem test_no_bits (n w : Nat) (s : State) : decodeTableWord n w = none ∧ s.withFetchWord n w = s := ⟨rfl, rfl⟩

/-- A microword with one field. -/
def micro (lo v : Nat) : Word64 := BitVec.ofNat 64 (v * 2 ^ lo)

/-- Commands that are well formed. -/
theorem test_wf_smoke :
    ([.fwChunk 0x3FFF00 256, .selfTestDone { badCores := [8176], badRows := [(0, 2, 7)] }, .mac8 16 (micro 62 1) .ok,
      .bof 8175 15 0 0 63, .laneBlockReceived 0 [0, 1] .none 0 0, .odRead { bell := 0, tag := 0, items := [{ index := 0x1000, sub := 1 }] },
      .thermSample (List.replicate 68 45000)] : List Instr).all Instr.wf = true := by decide +kernel

/-- A core number that names no core. -/
theorem test_wf_refuses_cores :
    ([.inputFifoArrival 17 false 0 { payload := 0, tag := 0 }, .bof 17 0 0 0 0, .eof 8192 0 0 0, .select 17 0 0 0 0, .skip 31 0 0 0,
      .void 17 0 0 0 0, .frameAccept 17 .ok, .steerTimeout 17, .weightWordRewrite 17 0, .coreParity 17, .recallRequest 17 0 0 0,
      .satReport 17 0 0, .mac8 17 (micro 62 1) .ok] : List Instr).any Instr.wf = false ∧
    ([.routerHop 16 0 .none, .repairWindowStart 16, .standInLoadDone 16, .standIn 16, .gateIdleAck 8272, .gateRefused 8272] : List Instr).any
      Instr.wf = false := by decide +kernel

/-- A microword of another operation. -/
theorem test_wf_refuses_microwords :
    ([.mac8 0 (micro 62 2) .ok, .mac4 0 0 .ok, .scaleStep 0 0 .ok, .dataStep 0 0 .ok, .loadInputFlit 0 0, .loadActivationWord 0 0 .ok,
      .loadPartialSum 0 0, .requantise 0 0 .ok, .requantiseLookup 0 0 .ok, .lookup 0 0 .ok, .mergeIn 0 0, .mergeOut 0 0 .ok,
      .mergeOutLookup 0 0 .ok, .blockEncode 0 0 .ok, .emitData 0 0, .emitPartialSums 0 0, .emitControlTemplate 0 0, .storeActivation 0 0,
      .emitDecisionRecord 0 0, .weightWordRewrite 0 1] : List Instr).any Instr.wf = false := by decide +kernel

/-- A Girder frame received at port 1. -/
def rx : GFrame := { port := 1, typ := 0 }

/-- Lengths, ranges and lists outside what the rules allow. -/
theorem test_wf_refuses_ranges :
    ([.fwChunk 0 0, .fwChunk 0x3FFF00 257, .selfTestDone { badCores := [8192] }, .laneBlockReceived 0 [0] .none 0 0,
      .adaptUpdate 0 [{ block := 0, scale := 0, elems := [] }] false, .bar2Write 0 [], .bar2Read 0 0 .ok,
      .slotCheckDone 0 { cores := [{ x := 64, y := 0 }] }, .joinAck rx 0 0 1, .joinNak rx 0 0, .leave rx 0 true false, .heartbeat rx 0 0,
      .heartbeatMissed 0, .addrHoldExpiry 0, .fwData rx 0 [] true, .bar0RegisterWrite (.staging 0 []) 0, .licData [], .fwImgData [],
      .thermSample []] : List Instr).any Instr.wf = false := by decide +kernel

/-- Messages that break their format. -/
theorem test_wf_refuses_messages :
    let bad : OdMsg := { bell := 0, tag := 0, items := [{ index := 65536, sub := 0 }] }
    let info : JoinInfo := { serial := 0, grade := 1, stepping := 0, latClass := 0, held := 0, parent := 0, pport := 4 }
    ([.odRead bad, .odWrite { bell := 0, tag := 0, dry := true }, .odWriteDry { bell := 0, tag := 0 }, .odDescribe bad, .odList bad,
      .odReq rx .read bad, .odResp rx 0 0 .read 0 0 0 [], .joinReq rx info, .launch rx { count := 0, kind := 0, targets := 0 },
      .launchCmd { count := 0, kind := 4, targets := 0 }, .sync rx { corr := 0, origin := 0, cyc := 0, cycFrac := 0, drone := 0, tphase := 0, tickdiv := 3, mgrRate := 0, syncLog2 := 4 } 0 0] : List Instr).any Instr.wf = false := by decide +kernel

/-- A fuse array of given fields, with a CRC. -/
def fuseArray (n crc : Nat) : BitVec 8192 := BitVec.ofNat 8192 (2 ^ 8160 * crc + n)

theorem fuseArray_bits {n c lo len : Nat} (hn : n < 2 ^ 8160) (hc : c < 2 ^ 32) (h : lo + len ≤ 8160) :
    bits (fuseArray n c).toNat lo len = bits n lo len := by
  have hx : 2 ^ 8160 * c + n < 2 ^ 8192 := by
    have : (2 : Nat) ^ 8192 = 2 ^ 8160 * 2 ^ 32 := by rw [← Nat.pow_add]
    rw [this]
    generalize (2 : Nat) ^ 8160 = k at *
    generalize (2 : Nat) ^ 32 = m at *
    calc k * c + n < k * c + k := by omega
      _ = k * (c + 1) := by rw [Nat.mul_add]; omega
      _ ≤ k * m := Nat.mul_le_mul_left k hc
  apply Nat.eq_of_testBit_eq
  intro i
  simp only [fuseArray, bits, BitVec.toNat_ofNat, Nat.mod_eq_of_lt hx, Nat.testBit_mod_two_pow, Nat.testBit_shiftRight]
  by_cases hi : i < len
  · rw [Nat.testBit_two_pow_mul_add c hn, if_pos (by omega)]
  · simp [hi]

theorem fuseArray_crc {n c : Nat} (hn : n < 2 ^ 8160) (hc : c < 2 ^ 32) : bits (fuseArray n c).toNat 8160 32 = c := by
  have hx : 2 ^ 8160 * c + n < 2 ^ 8192 := by
    have : (2 : Nat) ^ 8192 = 2 ^ 8160 * 2 ^ 32 := by rw [← Nat.pow_add]
    rw [this]
    generalize (2 : Nat) ^ 8160 = k at *
    generalize (2 : Nat) ^ 32 = m at *
    calc k * c + n < k * c + k := by omega
      _ = k * (c + 1) := by rw [Nat.mul_add]; omega
      _ ≤ k * m := Nat.mul_le_mul_left k hc
  simp only [fuseArray, bits, BitVec.toNat_ofNat, Nat.mod_eq_of_lt hx, Nat.shiftRight_eq_div_pow]
  rw [Nat.mul_add_div (by exact Nat.two_pow_pos _), Nat.div_eq_of_lt hn, Nat.add_zero, Nat.mod_eq_of_lt hc]

theorem crc32Shift_lt : ∀ k c, c < 2 ^ 32 → crc32Shift k c < 2 ^ 32
  | 0, _, h => h
  | k + 1, c, h => by
    unfold crc32Shift
    refine crc32Shift_lt k _ ?_
    split
    · exact Nat.xor_lt_two_pow (by omega) (by decide)
    · omega

theorem crc32Run_lt : ∀ (bs : List Byte) c, c < 2 ^ 32 → crc32Run c bs < 2 ^ 32
  | [], _, h => h
  | b :: bs, c, h => crc32Run_lt bs _ (crc32Shift_lt 8 _ (Nat.xor_lt_two_pow h (Nat.lt_trans b.isLt (by decide))))

theorem crc32_lt (bs : List Byte) : crc32 bs < 2 ^ 32 := Nat.xor_lt_two_pow (crc32Run_lt bs _ (by decide)) (by decide)

/-- The fields of a good array read as they were given, and its CRC fits. -/
theorem fuseArray_good {n : Nat} (hn : n < 2 ^ 4864) :
    bits (fuseArray n (crc32 (leBytes 608 n))).toNat 8160 32 =
      crc32 (leBytes 608 (bits (fuseArray n (crc32 (leBytes 608 n))).toNat 0 4864)) := by
  have h : n < 2 ^ 8160 := Nat.lt_trans hn (Nat.pow_lt_pow_right (by decide) (by decide))
  rw [fuseArray_crc h (crc32_lt _), fuseArray_bits h (crc32_lt _) (by decide)]
  simp only [bits, Nat.shiftRight_zero, Nat.mod_eq_of_lt hn]

theorem fusesLegal_fuseArray {s : State} {n c : Nat} (ho : s.boot.otp = 0) (hn : n < 2 ^ 4864) (hc : c < 2 ^ 32) :
    { s with boot.fuses := fuseArray n c }.fusesLegal = { s with boot.fuses := BitVec.ofNat 8192 n }.fusesLegal := by
  have hf : ∀ lo len, lo + len ≤ 8160 → { s with boot.fuses := fuseArray n c }.fuse lo len =
      { s with boot.fuses := BitVec.ofNat 8192 n }.fuse lo len := by
    intro lo len h
    have h1 : n < 2 ^ 8160 := Nat.lt_trans hn (Nat.pow_lt_pow_right (by decide) (by decide))
    have h2 : n < 2 ^ 8192 := Nat.lt_trans hn (Nat.pow_lt_pow_right (by decide) (by decide))
    have h0 : (0 : BitVec 8192).toNat = 0 := by simp
    simp only [State.fuse, ho, h0, Nat.or_zero, fuseArray_bits h1 hc h, BitVec.toNat_ofNat, Nat.mod_eq_of_lt h2]
  have hg : { s with boot.fuses := fuseArray n c }.grade = { s with boot.fuses := BitVec.ofNat 8192 n }.grade := hf _ _ (by decide)
  simp only [State.fusesLegal, hg]
  refine congrArg _ ?_
  have hb : ∀ x ∈ List.range 256, { s with boot.fuses := fuseArray n c }.fusedBad x = { s with boot.fuses := BitVec.ofNat 8192 n }.fusedBad x := by
    intro x hx
    have hx : x < 256 := List.mem_range.1 hx
    simp only [State.fusedBad, State.disabledCluster, State.disRow, hg, hf (160 + 5 * x) 5 (by omega), hf (144 + 4 * (x / 64)) 3 (by omega)]
  rw [Bool.eq_iff_iff, List.all_eq_true, List.all_eq_true]
  exact forall₂_congr fun x hx => by rw [hb x hx]

theorem fewBits {n k : Nat} (h : n < 2 ^ 200) (hk : 200 ≤ k) : n < 2 ^ k := Nat.lt_of_lt_of_le h (Nat.pow_le_pow_right (by decide) hk)

/-! ### Witnesses: for each statement, states and operands that meet the hypotheses of each of its clauses -/

theorem noneIs {α : Type} {P : α → Prop} {o : Option α} (h : o = none) : ∀ x, o = some x → P x := by
  intro x hx; rw [h] at hx; cases hx

theorem oneIs {α : Type} {P : α → Prop} {o : Option α} {a : α} (h : o = some a) (hp : P a) : ∀ x, o = some x → P x := by
  intro x hx; rw [h] at hx; cases hx; exact hp

theorem witness_StepRunsFrontCommand :
    (∃ s : State, s.pending = [] ∧ s.clock.running = false) ∧ (∃ s : State, s.pending = [] ∧ s.clock.running = true) :=
  ⟨⟨State.reset, by decide⟩, ⟨dev, by decide⟩⟩

theorem witness_EveryStepKeepsHbmCanonical : ∃ s t : State, s.Inv ∧ step s = .next t :=
  ⟨{ State.reset with hbm := { cells := [(0, 1), (2, 255)] }, pending := [.presentNChange false] },
   { State.reset with hbm := { cells := [(0, 1), (2, 255)] }, lic.presentN := false }, by decide, rfl⟩

theorem witness_EveryCommandGoesOn : ∃ c : Instr, ∀ array, c ≠ .fuseReadComplete array := ⟨.histClear, fun _ h => by simp at h⟩

theorem witness_SerialOrderOfSequenceNumbers :
    ∃ a b : Nat, ((a : Int) - b) % 2 ^ 32 = 2 ^ 31 := ⟨5, 2 ^ 31 + 5, by decide⟩

theorem witness_StrapsReferenceAndPllLock :
    (∃ s : State, s.boot.inReset = true) ∧ (∃ s : State, s.boot.stage = 1 ∧ s.boot.inReset = false ∧ s.isWorker = false) ∧
    (∃ s : State, s.boot.stage = 2 ∧ s.boot.halted = false) :=
  ⟨⟨State.reset, by decide⟩, ⟨{ State.reset with boot.inReset := false, boot.stage := 1 }, by decide⟩,
   ⟨{ State.reset with boot.stage := 2 }, by decide⟩⟩

theorem witness_FusesAndFirmwareImage_crc : ∃ (s : State) (a : BitVec 8192), s.boot.stage = 3 ∧ s.boot.halted = false ∧
    bits a.toNat 8160 32 ≠ crc32 (leBytes 608 (bits a.toNat 0 4864)) := by
  refine ⟨{ dev with boot.stage := 3 }, fuseArray 0 ((crc32 (leBytes 608 0) + 1) % 2 ^ 32), rfl, rfl, ?_⟩
  have h := crc32_lt (leBytes 608 0)
  have h0 : (crc32 (leBytes 608 0) + 1) % 2 ^ 32 < 2 ^ 32 := Nat.mod_lt _ (by decide)
  have hb : bits 0 0 4864 = 0 := by simp [bits]
  rw [fuseArray_crc (fewBits (by decide) (by decide)) h0, fuseArray_bits (fewBits (by decide) (by decide)) h0 (by decide), hb]
  omega

theorem witness_FusesAndFirmwareImage_illegal : ∃ (s : State) (a : BitVec 8192), s.boot.stage = 3 ∧ s.boot.halted = false ∧
    bits a.toNat 8160 32 = crc32 (leBytes 608 (bits a.toNat 0 4864)) ∧ { s with boot.fuses := a }.fusesLegal = false :=
  ⟨{ dev with boot.stage := 3 }, fuseArray (3 * 2 ^ 104) _, rfl, rfl, fuseArray_good (fewBits (by decide) (by decide)),
   (fusesLegal_fuseArray rfl (fewBits (by decide) (by decide)) (crc32_lt _)).trans (by decide +kernel)⟩

theorem witness_FusesAndFirmwareImage_legal : ∃ (s : State) (a : BitVec 8192), s.boot.stage = 3 ∧ s.boot.halted = false ∧
    bits a.toNat 8160 32 = crc32 (leBytes 608 (bits a.toNat 0 4864)) ∧ { s with boot.fuses := a }.fusesLegal = true :=
  ⟨{ dev with boot.stage := 3 }, fuseArray (2 ^ 104 + 31 * 2 ^ 165) _, rfl, rfl, fuseArray_good (fewBits (by decide) (by decide)),
   (fusesLegal_fuseArray rfl (fewBits (by decide) (by decide)) (crc32_lt _)).trans (by decide +kernel)⟩

theorem witness_FusesAndFirmwareImage :
    (∃ (s : State) (ofs : Fin 16777216) (len : Fin 65536), s.boot.stage = 4 ∧ s.boot.copied = true ∧ s.boot.source ≠ some true ∧
      1 ≤ len.val ∧ len.val ≤ 16384 ∧ ofs.val + len.val ≤ 2 ^ 22) ∧
    (∃ s : State, s.boot.stage = 14) :=
  ⟨⟨{ dev with boot.stage := 4, boot.copied := true }, 4177920, 16384, by decide⟩, ⟨{ dev with boot.stage := 14 }, by decide⟩⟩

theorem witness_VerifyTestTrainMerge :
    (∃ s : State, s.boot.stage = 5 ∧ s.fwCode ≠ 0) ∧ (∃ s : State, s.boot.stage = 6) ∧ (∃ s : State, s.boot.stage = 7) ∧
    (∃ s : State, s.boot.stage = 8) :=
  ⟨⟨{ dev with boot.stage := 5 }, by decide +kernel⟩, ⟨{ dev with boot.stage := 6 }, rfl⟩, ⟨{ dev with boot.stage := 7 }, rfl⟩,
   ⟨{ dev with boot.stage := 8 }, rfl⟩⟩

theorem witness_ResetAndReferenceReturn :
    (∃ s : State, s.boot.fuseBusy = none) ∧
    (∃ (s : State) (src : Fin 6), s.girder.refStopped = true ∧ s.girder.refDead = false ∧ 1 ≤ src.val ∧ s.isWorker = true ∧ src.val ≠ 1) ∧
    (∃ (s : State) (src : Fin 6), s.girder.refStopped = true ∧ s.girder.refDead = true ∧ 1 ≤ src.val) :=
  ⟨⟨dev, rfl⟩, ⟨{ devWith [(OD.ROLE, 0, 1)] with girder.refStopped := true }, 5, by decide⟩,
   ⟨{ dev with girder.refStopped := true, girder.refDead := true }, 1, by decide⟩⟩

/-- A flit of a frame and, with its KIND, a control token. -/
def flitOf (stag : Nat) : Flit := { payload := 0x1234, tag := BitVec.ofNat 16 (stag * 2) }
def tokenOf (kind extra ftag : Nat) : Tok := { flit := ctlFlit 0 kind ftag extra }

/-- A token of a list of tokens the steering unit leaves at the head. -/
def Stays (c : Core) (d : Tok) : Prop := c.distIn c.running d.flit.stag < 128 ∧
  (c.distIn c.running d.flit.stag = 0 → ∀ l, c.wantedSource c.running = some l → l = d.label)

theorem witness_TokensReachTheInputFifo_data :
    (∃ (s : State) (p : Nat) (label : Fin 16) (f : Flit), s.alive p = true ∧ (s.core p).rep = {} ∧ f.epoch = s.epoch ∧
      (s.core p).ended f.stag label = false ∧ (s.core p).fifoD.length < 6 ∧ (s.core p).fifoD.length + (s.core p).fifoC.length < 8 ∧
      (∀ x, (s.core p).fifoC.head? = some x → (s.core p).headStep (s.core p).running x = none) ∧
      (∀ x, ((s.core p).fifoD ++ [({ flit := f, label := label } : Tok)]).head? = some x → Stays (s.core p) x)) ∧
    (∃ (s : State) (p : Nat) (label : Fin 16) (f : Flit), s.alive p = true ∧ (s.core p).rep = {} ∧ f.epoch = s.epoch ∧
      (s.core p).ended f.stag label = false ∧ (s.core p).fifoD = [] ∧ (s.core p).fifoC.length < 8 ∧
      (∀ x, (s.core p).fifoC.head? = some x → (s.core p).headStep (s.core p).running x = none) ∧
      128 ≤ (s.core p).distIn (s.core p).running f.stag ∧ f.stag ∉ (s.core p).mmTags) ∧
    (∃ (s : State) (p : Nat) (f : Flit), s.alive p = true ∧ (s.core p).rep = {} ∧ f.epoch ≠ s.epoch) ∧
    (∃ (s : State) (p : Nat) (f : Flit), s.alive p = true ∧ (s.core p).rep = {} ∧ f.epoch = s.epoch ∧ f.wellFormed = false) ∧
    (∃ (s : State) (p : Nat) (label : Fin 16) (f : Flit), s.alive p = true ∧ (s.core p).rep = {} ∧ f.epoch = s.epoch ∧
      (s.core p).fifoD.length + (s.core p).fifoC.length < 8 ∧ (s.core p).fifoD.length < 6 ∧ (s.core p).ended f.stag label = true) ∧
    (∃ (s : State) (p : Nat) (f : Flit), s.alive p = true ∧ (s.core p).rep = {} ∧ f.epoch = s.epoch ∧ 6 ≤ (s.core p).fifoD.length) :=
  ⟨⟨(devCore 8175 { expect := 9, fifoD := List.replicate 5 { flit := flitOf 9 } }).wr OD.EPOCH 0 3, 8175, 2,
      { payload := 7, tag := 0x6012 }, by decide, by decide, by decide, by decide, by decide, by decide, noneIs (by decide),
      oneIs rfl ⟨by decide, fun _ => noneIs (by decide)⟩⟩,
   ⟨devCore 5 { expect := 9 }, 5, 2, flitOf 8, by decide, by decide, by decide, by decide, by decide, by decide, noneIs (by decide),
      by decide, by decide⟩,
   ⟨devCore 5 {}, 5, { payload := 7, tag := 0x2000 }, by decide⟩, ⟨devCore 5 {}, 5, { payload := 7, tag := 0 }, by decide⟩,
   ⟨devCore 5 { running := true, ftab := [{ ftag := 9 }], eofSeen := true }, 5, 0, flitOf 9, by decide⟩,
   ⟨devCore 5 { fifoD := List.replicate 6 { flit := flitOf 9 } }, 5, flitOf 9, by decide⟩⟩

theorem witness_TokensReachTheInputFifo_control :
    (∃ (s : State) (p : Nat) (tag ftag : Word16) (tok : Tok), s.alive p = true ∧ (s.core p).rep = {} ∧
      bits tag.toNat 13 3 = s.rd OD.EPOCH ∧ bits tag.toNat 1 8 = bits ftag.toNat 0 8 ∧
      (s.core p).fifoD.length + (s.core p).fifoC.length < 8 ∧ (∀ d, (s.core p).fifoD.head? = some d → Stays (s.core p) d) ∧
      (∀ y, ((s.core p).fifoC ++ [tok]).head? = some y → (s.core p).headStep (s.core p).running y = none)) ∧
    (∃ (s : State) (p : Nat) (tag ftag : Word16), s.alive p = true ∧ (s.core p).rep = {} ∧ bits tag.toNat 13 3 = s.rd OD.EPOCH ∧
      bits tag.toNat 1 8 = bits ftag.toNat 0 8 ∧ (∀ d, (s.core p).fifoD.head? = some d → Stays (s.core p) d) ∧
      (s.core p).fifoC = [] ∧ (s.core p).running = true ∧ ((s.core p).frameAt 0).ftag = ftag ∧ (s.core p).ctrl.mode ≠ .merge) :=
  ⟨⟨devCore 0 { expect := 0x1FF, fifoC := List.replicate 7 (tokenOf 4 0 0x1FF) }, 0, 0x1FE, 0xFFFF, tokenOf 4 0 0xFFFF, by decide, by decide,
      by decide, by decide, by decide, noneIs (by decide), oneIs rfl (by decide)⟩,
   ⟨devCore 5 { running := true, ftab := [{ ftag := 0x109 }] }, 5, 0x12, 0x109, by decide, by decide, by decide, by decide, noneIs (by decide),
      by decide⟩⟩

theorem landsNil {α : Type} {l : Late α} {k n : Nat} (h : l = []) : l.landsBy k n := by
  subst h; intro e he; cases he

theorem landsOne {α : Type} {l : Late α} {k n : Nat} {e : Nat × Nat × α} (h : l = [e]) (hn : e.2.1 ≤ n) : l.landsBy k n := by
  subst h; intro x hx; cases List.mem_singleton.1 hx; exact fun _ => hn

theorem witness_FramesAreAcceptedAndBodiesStart_pass :
    (∃ (s : State) (p n : Nat) (d : Tok) (ds : List Tok), s.windowAge p = some n ∧ (s.core p).rep = {} ∧ (s.core p).taken = [] ∧
      n < (s.core p).ctrl.steerWindow ∧ (s.core p).fifoC = [] ∧ (s.core p).fifoD = d :: ds ∧
      d.flit.stag = (s.core p).expect.toNat % 256 ∧ (s.core p).ctrl.mode = .pass ∧
      ∀ x ∈ (s.core p).hurt, x.1 ≠ (s.core p).expect.toNat % 256) ∧
    (∃ (s : State) (p n : Nat) (d : Tok) (ds : List Tok) (stale : Bool), s.windowAge p = some n ∧ (s.core p).rep = {} ∧
      (s.core p).taken = [] ∧ n < (s.core p).ctrl.steerWindow ∧ (s.core p).fifoC = [] ∧ (s.core p).fifoD = d :: ds ∧
      d.flit.stag = (s.core p).expect.toNat % 256 ∧ (s.core p).ctrl.mode = .pass ∧
      ((s.core p).expect.toNat % 256, stale) ∈ (s.core p).hurt ∧
      ∀ x ∈ (s.core p).hurt, x.1 = (s.core p).expect.toNat % 256 → x.2 = stale) ∧
    (∀ kind ∈ [4, 5], ∃ (s : State) (p n : Nat) (k : Tok), s.windowAge p = some n ∧ (s.core p).rep = {} ∧ (s.core p).taken = [] ∧
      n < (s.core p).ctrl.steerWindow ∧ (s.core p).ctrl.mode = .pass ∧ (∀ x ∈ (s.core p).hurt, x.1 ≠ (s.core p).expect.toNat % 256) ∧
      (s.core p).fifoC = [k] ∧ k.flit.stag = (s.core p).expect.toNat % 256 ∧ (s.core p).fifoD = [] ∧ k.flit.kind = kind) :=
  ⟨⟨devCore 5 { expect := 0x1FF, fifoD := [{ flit := flitOf 255 }], hurt := [(0, true)] }, 5, 0, { flit := flitOf 255 }, [], by decide⟩,
   ⟨devCore 5 { expect := 0x1FF, fifoD := [{ flit := flitOf 255 }], hurt := [(0, true), (255, false)] }, 5, 0, { flit := flitOf 255 }, [],
    false, by decide⟩,
   fun kind h => ⟨devCore 5 { expect := 7, fifoC := [tokenOf kind 4 7] }, 5, 0, tokenOf kind 4 7, by
     rcases List.mem_cons.1 h with rfl | h
     · decide
     · cases List.mem_singleton.1 h; decide⟩⟩

theorem witness_FramesAreAcceptedAndBodiesStart_sources :
    (∃ (s : State) (p n : Nat) (d : Tok) (ds : List Tok), s.windowAge p = some n ∧ (s.core p).rep = {} ∧ (s.core p).taken = [] ∧
      n < (s.core p).ctrl.steerWindow ∧ (s.core p).fifoC = [] ∧ (s.core p).fifoD = d :: ds ∧
      d.flit.stag = (s.core p).expect.toNat % 256 ∧ (s.core p).ctrl.mode = .merge ∧
      (∀ x ∈ (s.core p).hurt, x.1 ≠ (s.core p).expect.toNat % 256) ∧ (s.core p).mergeSel = some d.label ∧ d.label < 15) ∧
    (∃ (s : State) (p n : Nat) (k d : Tok) (ds : List Tok), s.windowAge p = some n ∧ (s.core p).rep = {} ∧ (s.core p).taken = [] ∧
      n < (s.core p).ctrl.steerWindow ∧ (s.core p).ctrl.mode = .select ∧
      (∀ x ∈ (s.core p).hurt, x.1 ≠ (s.core p).expect.toNat % 256) ∧ (s.core p).fifoC = [k] ∧
      k.flit.stag = (s.core p).expect.toNat % 256 ∧ k.flit.kind = 3 ∧ k.flit.sel ≤ 3 ∧ (s.core p).fifoD = d :: ds ∧
      d.flit.stag = (s.core p).expect.toNat % 256) :=
  ⟨⟨devCore 5 { expect := 0x1FF, ctrl := { mode := .merge }, mergeSel := some 14, fifoD := [{ flit := flitOf 255, label := 14 }] }, 5, 0,
      { flit := flitOf 255, label := 14 }, [], by decide⟩,
   ⟨(devCore 5 { expect := 7, ftab := [{ ftag := 6 }], age := 60, ctrl := { mode := .select }, fifoC := [tokenOf 3 3 7], fifoD := [{ flit := flitOf 7 }] }).wr OD.TICKDIV_MIN 0 60, 5, 0, tokenOf 3 3 7, { flit := flitOf 7 }, [], by decide⟩⟩

theorem witness_FramesAreAcceptedAndBodiesStart_late : ∃ (s : State) (p n : Nat), s.windowAge p = some n ∧ (s.core p).rep = {} ∧
    (s.core p).ctrl.steerWindow ≤ n ∧ (s.core p).ftab ≠ [] ∧ (∀ x ∈ (s.core p).hurt, x.1 ≠ (s.core p).expect.toNat % 256) ∧
    (s.core p).taken = [] ∧ (s.core p).fifoC = [] ∧ (s.core p).fifoD = [] :=
  ⟨(devCore 5 { ftab := [{}], age := 62, rest := 1 }).wr OD.TICKDIV_MIN 0 60, 5, 1, by decide⟩

theorem witness_IntegerStepsAccumulate : ∃ (s : State) (p : Nat) (w : Word64), s.alive p = true ∧ (s.core p).rep = {} ∧
    (s.core p).accOld.landsBy ((s.core p).stepAcc w) 10 :=
  ⟨devCore 0 { accOld := [(0, 10, {})] }, 0, 0, by decide, by decide, landsOne rfl (by decide)⟩

theorem witness_BlockStepsAccumulateGroups :
    (∀ bt ∈ [(0 : BitVec 4), 8, 3], ∃ (s : State) (p : Nat) (w : Word64), s.alive p = true ∧ (s.core p).rep = {} ∧
      (s.core p).accOld.landsBy ((s.core p).stepAcc w) 10 ∧ ((s.core p).oprIn 0 ((s.core p).stepOpr w)).bt = bt) ∧
    (∃ (s : State) (p : Nat) (w : Word64) (g : Group), s.alive p = true ∧ (s.core p).rep = {} ∧
      (s.core p).accOld.landsBy ((s.core p).stepAcc w) 10 ∧ ((s.core p).acc' ((s.core p).stepAcc w)).grp = some g ∧ g.step % 4 = 0 ∧
      ((s.core p).oprIn 0 ((s.core p).stepOpr w)).bt = g.g + BitVec.ofNat 4 (g.step / 4) ∧
      ¬(scaleByte g.ea (g.step / 4) = 0xFF ∨ ∃ i < 8, scaleTile ((s.core p).tile g.tile) i (g.step / 4) = 0xFF)) ∧
    (∃ (s : State) (p : Nat) (w : Word64) (g : Group), s.alive p = true ∧ (s.core p).rep = {} ∧
      (s.core p).accOld.landsBy ((s.core p).stepAcc w) 10 ∧ ((s.core p).acc' ((s.core p).stepAcc w)).grp = some g ∧ g.step % 4 ≠ 0 ∧
      ((s.core p).oprIn 0 ((s.core p).stepOpr w)).bt = g.g + BitVec.ofNat 4 (g.step / 4) ∧ g.bad = false) ∧
    (∃ (s : State) (p : Nat) (w : Word64) (g : Group), s.alive p = true ∧ (s.core p).rep = {} ∧
      (s.core p).accOld.landsBy ((s.core p).stepAcc w) 10 ∧ ((s.core p).acc' ((s.core p).stepAcc w)).grp = some g ∧
      ((s.core p).oprIn 0 ((s.core p).stepOpr w)).bt ≠ g.g + BitVec.ofNat 4 (g.step / 4)) :=
  ⟨fun bt h => ⟨devCore 5 { opr := [(0, { bt := bt })] }, 5, 0, by revert bt; decide, by revert bt; decide, landsNil (by revert bt; decide),
      by revert bt; decide⟩,
   ⟨devCore 5 { opr := [(0, { bt := 1 })], acc := [(0, { grp := some { step := 4 } })] }, 5, 0, { step := 4 }, by decide, by decide,
      landsNil (by decide), by decide⟩,
   ⟨devCore 5 { opr := [(0, { bt := 1 })], acc := [(0, { grp := some { step := 7 } })] }, 5, 0, { step := 7 }, by decide, by decide,
      landsNil (by decide), by decide⟩,
   ⟨devCore 5 { acc := [(0, { grp := some { g := 8 } })] }, 5, 0, { g := 8 }, by decide, by decide, landsNil (by decide), by decide⟩⟩

theorem witness_LoadsAndStoresOfACore :
    (∀ f ∈ [({ dead := true } : FrameEnt), { skip := true }, {}], ∃ (s : State) (p : Nat) (w : Word64), s.alive p = true ∧
      (s.core p).rep = {} ∧ (s.core p).oprOld.landsBy (uLdr w) 1 ∧ (s.core p).frameAt 0 = f ∧ (s.core p).fifoC = [] ∧
      (s.core p).fifoD = []) ∧
    (∃ (s : State) (p : Nat) (w : Word64) (d : Tok) (ds : List Tok), s.alive p = true ∧ (s.core p).rep = {} ∧
      ((s.core p).frameAt 0).dead = false ∧ ((s.core p).frameAt 0).skip = false ∧ ((s.core p).frameAt 0).src = 16 ∧
      (s.core p).fifoC = [] ∧ (s.core p).fifoD = d :: ds ∧ d.flit.stag = ((s.core p).frameAt 0).ftag.toNat % 256 ∧
      (s.core p).oprOld.landsBy (uLdr w) 1 ∧ ((s.core p).acc' (uLdr w % 16)).filled < 4 ∧ (s.core p).accOld.landsBy (uLdr w % 16) 1) ∧
    (∃ (s : State) (p : Nat) (w : Word64), s.alive p = true ∧ (s.core p).rep = {} ∧ (s.core p).oprOld.landsBy (uLdr w) 2 ∧
      (s.core p).actOld.landsBy ((s.core p).agAddr (uSag w) 1024) 1) :=
  ⟨fun f h => ⟨devCore 5 { ftab := [f] }, 5, 0, by revert f; decide, by revert f; decide, landsNil (by revert f; decide),
      by revert f; decide⟩,
   ⟨devCore 5 { ftab := [{ ftag := 0x2FF }], acc := [(0, { filled := 3 })], fifoD := [{ flit := flitOf 255 }] }, 5, 0,
     { flit := flitOf 255 }, [], by decide, by decide, by decide, by decide, by decide, by decide, by decide, by decide,
     landsNil (by decide), by decide, landsNil (by decide)⟩,
   ⟨devCore 5 { oprOld := [(0, 2, {})], actOld := [(0, 1, {})] }, 5, 0, by decide, by decide, landsOne rfl (by decide),
     landsOne rfl (by decide)⟩⟩

theorem witness_CoreMemoryErrors :
    (∃ (s : State) (p : Nat) (i : CoreImage), s.alive p = true ∧ s.servedImage p = some i) ∧
    (∃ (s : State) (p : Nat) (a : Fin 32768), s.alive p = true ∧ (s.core p).weightFail.find? (fun x => decide (x.1 = a.val / 8)) = none) ∧
    (∃ (s : State) (p : Nat) (a : Fin 32768) (x : Nat × Nat), s.alive p = true ∧
      (s.core p).weightFail.find? (fun x => decide (x.1 = a.val / 8)) = some x ∧ x.2 + 2 ^ 30 ≤ s.clock.cycle) ∧
    (∃ (s : State) (p : Nat) (a : Fin 32768) (x : Nat × Nat), s.alive p = true ∧
      (s.core p).weightFail.find? (fun x => decide (x.1 = a.val / 8)) = some x ∧ s.clock.cycle < x.2 + 2 ^ 30) :=
  ⟨⟨{ devCore 0 {} with boot.fuses := 2 ^ 104, act.content := { cores := [{ x := 0, y := 0 }] } }, 0, { x := 0, y := 0 }, by decide +kernel⟩,
   ⟨devCore 5 {}, 5, 32760, by decide⟩,
   ⟨{ devCore 5 { weightFail := [(0, 0)] } with clock.cycle := 2 ^ 30 }, 5, 0, (0, 0), by decide⟩,
   ⟨{ devCore 5 { weightFail := [(0, 1)] } with clock.cycle := 2 ^ 30 }, 5, 0, (0, 1), by decide⟩⟩

theorem witness_RequantisingPostOps : ∀ fmt < 4, ∃ (s : State) (p : Nat) (w : Word64), s.alive p = true ∧ (s.core p).rep = {} ∧
    rqFmt ((s.core p).rqEntry (uQsel w) 0) = fmt ∧ (s.core p).oprOld.landsBy (uPdst w % 32) 3 ∧
    (s.core p).oprOld.landsBy ((uPdst w + 1) % 32) 3 ∧ (s.core p).mgOld.landsBy (uPacc w % 4) 1 := fun fmt h =>
  have hf : fmt = 0 ∨ fmt = 1 ∨ fmt = 2 ∨ fmt = 3 := by omega
  ⟨devCore 5 { req := (List.range 64).map fun i => (i, BitVec.ofNat 128 (fmt * 2 ^ 39)), oprOld := [(31, 3, {})] }, 5,
    BitVec.ofNat 64 (31 * 2 ^ 29), by rcases hf with rfl | rfl | rfl | rfl <;> decide, by rcases hf with rfl | rfl | rfl | rfl <;> decide,
    by rcases hf with rfl | rfl | rfl | rfl <;> decide, landsOne rfl (by decide), landsOne rfl (by decide), landsNil rfl⟩

theorem witness_LookupMergeAndBlockEncode :
    (∀ seg : Bool, ∃ (s : State) (p : Nat) (w : Word64), s.alive p = true ∧ (s.core p).rep = {} ∧
      (s.core p).oprOld.landsBy (uPdst w % 32) 2 ∧ (s.core p).ctrl.lutSegment = seg ∧ (s.core p).mgOld.landsBy (uPdst w % 4) 2) ∧
    (∃ (s : State) (p : Nat) (w : Word64), s.alive p = true ∧ (s.core p).rep = {} ∧ 4 ≤ (s.core p).ofmt w ∧
      (∀ r, (s.core p).oprOld.landsBy r 4) ∧ uPdst w % 32 + 3 < 31 ∧ uFofs w < (s.core p).ftab.length) :=
  ⟨fun seg => ⟨devCore 5 { ctrl := { lutSegment := seg } }, 5, 0, by revert seg; decide, by revert seg; decide, landsNil rfl, rfl,
      landsNil rfl⟩,
   ⟨devCore 5 { ftab := [{}], req := (List.range 64).map fun i => (i, BitVec.ofNat 128 (4 * 2 ^ 39)) }, 5, BitVec.ofNat 64 (27 * 2 ^ 29),
      by decide, by decide, by decide, fun _ => landsNil rfl, by decide⟩⟩

theorem witness_EmitsOfACore :
    (∃ (s : State) (p : Nat) (w : Word64), s.alive p = true ∧ (s.core p).rep = {} ∧ (∀ x ∈ (s.core p).out, x.1 ≠ 0) ∧
      ((s.core p).frameAt (uFofs w)).void = true) ∧
    (∃ (s : State) (p : Nat) (w : Word64), s.alive p = true ∧ (s.core p).rep = {} ∧ (∀ x ∈ (s.core p).out, x.1 ≠ 0) ∧
      ((s.core p).frameAt (uFofs w)).void = false ∧ ((s.core p).oprIn 0 (uSreg w)).marks.v = true ∧
      ((s.core p).accIn 0 (uSreg w)).marks.v = true) ∧
    (∃ (s : State) (p : Nat) (w : Word64), s.alive p = true ∧ (s.core p).rep = {} ∧ (∀ x ∈ (s.core p).out, x.1 ≠ 0) ∧
      ((s.core p).frameAt (uFofs w)).void = false ∧ ((s.core p).oprIn 0 (uSreg w)).marks.v = false ∧
      (((s.core p).oprIn 0 (uSreg w)).marks.k = true ∨ ((s.core p).frameAt (uFofs w)).skip = true ∧ uKeep w = false)) ∧
    (∃ (s : State) (p : Nat) (w : Word64), s.alive p = true ∧ (s.core p).rep = {} ∧ (∀ x ∈ (s.core p).out, x.1 ≠ 0) ∧
      ((s.core p).frameAt (uFofs w)).void = false ∧ ((s.core p).oprIn 0 (uSreg w)).marks.v = false ∧
      ((s.core p).oprIn 0 (uSreg w)).marks.k = false ∧ ((s.core p).accIn 0 (uSreg w)).marks.v = false ∧
      ((s.core p).accIn 0 (uSreg w)).marks.k = false ∧ ((s.core p).frameAt (uFofs w)).skip = true ∧ uKeep w = true) ∧
    (∀ kind ∈ [1, 5], ∃ (s : State) (p : Nat) (w x : Word64), s.alive p = true ∧ (s.core p).rep = {} ∧
      (∀ x ∈ (s.core p).out, x.1 ≠ 0) ∧ x = SMap.get 0 (s.core p).templates (uRte w) ∧ ((s.core p).frameAt (uFofs w)).void = false ∧
      ((s.core p).frameAt (uFofs w)).skip = false ∧ bits x.toNat 61 3 = kind) :=
  ⟨⟨devCore 5 { ftab := [{ void := true }], out := [(1, false, { flit := flitOf 1 })] }, 5, 0, by decide⟩,
   ⟨devCore 5 { opr := [(0, { marks := { v := true } })], acc := [(0, { marks := { v := true } })] }, 5, 0, by decide⟩,
   ⟨devCore 5 { ftab := [{ skip := true }] }, 5, 0, by decide⟩, ⟨devCore 5 { ftab := [{ skip := true }] }, 5, 0x800, by decide⟩,
   fun kind h => ⟨devCore 5 { templates := [(7, BitVec.ofNat 64 (kind * 2 ^ 61))] }, 5, BitVec.ofNat 64 (7 * 2 ^ 18),
     BitVec.ofNat 64 (kind * 2 ^ 61), by revert kind; decide⟩⟩

/-- Core 5 (or 0) with one flit waiting at port 4 and a route under label 3. -/
def hopDev (p entry : Nat) (fenced : Bool) : State :=
  let s := devCore p { routes := [(131, entry)] }
  { s with fabric.routerQ := [(rKey p 4 false, [{ flit := flitOf 9, label := 3 }])],
           fabric.fencedPos := if fenced then [(p, true)] else [] }

theorem hopDev_alone (p entry : Nat) (fenced : Bool) : ∀ port' ctrl', port' < 5 → (port', ctrl') ≠ (4, false) →
    (hopDev p entry fenced).rq (rKey p port' ctrl') = [] := by
  intro a c ha hne
  have : rKey p 4 false ≠ rKey p a c := by
    intro h
    apply hne
    simp only [rKey, b2n] at h
    cases c
    · have : a = 4 := by simp at h; omega
      rw [this]
    · simp at h; omega
  simp [hopDev, State.rq, SMap.get, this]

theorem witness_RouterHopMovesTheWaitingFlit : ∀ out : Fin 5, ∀ fenced : Bool,
    ∃ (s : State) (p port : Nat) (ctrl : Bool) (t : Tok) (ts : List Tok), port < 5 ∧ t.served = 0 ∧
      s.rq (rKey p port ctrl) = t :: ts ∧
      (∀ port' ctrl', port' < 5 → (port', ctrl') ≠ (port, ctrl) → s.rq (rKey p port' ctrl') = []) ∧
      bit (s.routeEntry p port ctrl t.label) 9 = true ∧ bits (s.routeEntry p port ctrl t.label) 0 5 = 2 ^ out.val ∧
      s.outRoom p out ctrl = true ∧ (s.localFenced p = fenced ∧ (out ≠ 4 → meshNext (pcidPos p) out ≠ none)) := fun out fenced =>
  ⟨hopDev 5 (512 + 2 ^ out.val) fenced, 5, 4, false, { flit := flitOf 9, label := 3 }, [], by decide, rfl, rfl, hopDev_alone _ _ _, by
    revert out fenced; decide +kernel⟩

theorem witness_RouterHopMovesTheWaitingFlit_edge : ∃ (s : State) (p port : Nat) (out : Fin 5) (ctrl : Bool) (t : Tok) (ts : List Tok),
    port < 5 ∧ t.served = 0 ∧ s.rq (rKey p port ctrl) = t :: ts ∧
    (∀ port' ctrl', port' < 5 → (port', ctrl') ≠ (port, ctrl) → s.rq (rKey p port' ctrl') = []) ∧
    bit (s.routeEntry p port ctrl t.label) 9 = true ∧ bits (s.routeEntry p port ctrl t.label) 0 5 = 2 ^ out.val ∧
    s.outRoom p out ctrl = true ∧ out ≠ 4 ∧ meshNext (pcidPos p) out = none ∧ edgeOf (pcidPos p) out = some 11 :=
  ⟨hopDev 15 (512 + 4) false, 15, 4, 2, false, { flit := flitOf 9, label := 3 }, [], by decide, rfl, rfl, hopDev_alone _ _ _, by decide⟩

theorem witness_RouterHopMovesTheWaitingFlit_parity : ∃ s : State, SMap.get false s.fabric.fencedPos 5 = false ∧
    s.rq (rKey 5 4 false) = [{ flit := flitOf 9, label := 3 }] := ⟨hopDev 5 0 false, by decide⟩

/-- A device with one flit at the head of a queue. -/
def waiting : Tok := { flit := flitOf 9, label := 3 }

theorem witness_GatewayViaductAndHubCrossings_gateway :
    (∃ (s : State) (c : Fin 256) (port : Fin 12) (t : Tok) (ts : List Tok), SMap.get [] s.fabric.gateQ (gKey c true port false) = t :: ts ∧
      bits (SMap.get 0 (s.cluster c).outbound (t.label % 16)) 0 2 = 1 ∧
      (∀ src < gateSources true, src ≠ port.val →
        s.gateAsks c true (.truss (bits (SMap.get 0 (s.cluster c).outbound (t.label % 16)) 10 3)) false src = false) ∧
      (∀ src < gateSources true, s.gateAsks c true (.truss (bits (SMap.get 0 (s.cluster c).outbound (t.label % 16)) 10 3)) true src = false) ∧
      (s.tq (trKey c 4 (bits (SMap.get 0 (s.cluster c).outbound (t.label % 16)) 10 3) false)).length < 4) ∧
    (∀ outbound : Bool, ∀ op ∈ [0, 2], ∃ (s : State) (c : Fin 256) (port : Fin 12) (ctrl : Bool) (t : Tok) (ts : List Tok),
      (outbound = false → port.val < 8) ∧ SMap.get [] s.fabric.gateQ (gKey c outbound port ctrl) = t :: ts ∧
      bits (SMap.get 0 (if outbound then (s.cluster c).outbound else (s.cluster c).inbound) (t.label % 16)) 0 2 = op) ∧
    (∀ n ∈ [3, 4], ∃ (s : State) (c : Fin 256) (port : Fin 12) (t : Tok) (ts : List Tok), port.val < 8 ∧
      SMap.get [] s.fabric.gateQ (gKey c false port false) = t :: ts ∧
      bits (SMap.get 0 (s.cluster c).inbound (t.label % 16)) 0 2 = 3 ∧ bits (SMap.get 0 (s.cluster c).inbound (t.label % 16)) 6 4 < 12 ∧
      (∀ src < gateSources false, src ≠ port.val →
        s.gateAsks c false (.mesh (bits (SMap.get 0 (s.cluster c).inbound (t.label % 16)) 6 4)) false src = false) ∧
      (∀ src < gateSources false, s.gateAsks c false (.mesh (bits (SMap.get 0 (s.cluster c).inbound (t.label % 16)) 6 4)) true src = false) ∧
      (s.rq (rKey (mkPcid c (edgePos (bits (SMap.get 0 (s.cluster c).inbound (t.label % 16)) 6 4)))
        (edgePort (bits (SMap.get 0 (s.cluster c).inbound (t.label % 16)) 6 4)) false)).length = n) :=
  ⟨⟨{ dev with fabric.gateQ := [(gKey 255 true 11 false, [waiting])], fabric.clusters := [(255, { outbound := [(3, 1 + 7 * 1024)] })] },
      255, 11, waiting, [], by decide⟩,
   fun o op h => ⟨{ dev with fabric.gateQ := [(gKey 255 o 7 true, [waiting])], fabric.clusters := [(255, { outbound := [(3, op)], inbound := [(3, op)] })] },
      255, 7, true, waiting, [], by revert o op; decide⟩,
   fun n h => ⟨{ dev with fabric.gateQ := [(gKey 9 false 7 false, [waiting])], fabric.clusters := [(9, { inbound := [(3, 3 + 11 * 64)] })],
                          fabric.routerQ := [(rKey (mkPcid 9 (edgePos 11)) (edgePort 11) false, List.replicate n waiting)] }, 9, 7,
    waiting, [], by revert n; decide⟩⟩

theorem witness_GatewayViaductAndHubCrossings_viaduct :
    (∃ (s : State) (via : Fin 8) (chan : Fin 64) (lane : Fin 8) (ctrl back : Bool) (t : Tok) (ts : List Tok),
      SMap.get [] s.fabric.viaQ (vKey via chan lane ctrl back) = t :: ts ∧ via.val < 4 ∧
      (s.tq (trKey (s.viaExit via (chan.val % 8) back).1 (s.viaExit via (chan.val % 8) back).2 lane ctrl)).length < 4) ∧
    (∃ (s : State) (via : Fin 8) (chan : Fin 64) (lane : Fin 8) (ctrl : Bool) (t : Tok) (ts : List Tok),
      SMap.get [] s.fabric.viaQ (vKey via chan lane ctrl true) = t :: ts ∧ 4 ≤ via.val ∧
      (s.tq (trKey (64 * (via.val - 4) + chan.val) 5 (lane.val % 4) ctrl)).length < 4) ∧
    (∃ (s : State) (via : Fin 8) (chan : Fin 64) (lane : Fin 8) (ctrl : Bool) (t : Tok) (ts : List Tok),
      SMap.get [] s.fabric.viaQ (vKey via chan lane ctrl false) = t :: ts ∧ 4 ≤ via.val ∧
      (SMap.get [] s.fabric.hubQ (hKey (via.val - 4) chan lane ctrl)).length < 4) :=
  ⟨⟨{ dev with fabric.viaQ := [(vKey 3 7 7 true true, [waiting])] }, 3, 7, 7, true, true, waiting, [], by decide⟩,
   ⟨{ dev with fabric.viaQ := [(vKey 4 63 3 true true, [waiting])] }, 4, 63, 3, true, waiting, [], by decide⟩,
   ⟨{ dev with fabric.viaQ := [(vKey 7 63 3 true false, [waiting])] }, 7, 63, 3, true, waiting, [], by decide⟩⟩

/-- A device with one flit at a hub switch queue of die 3, `n` flits ahead of it towards die 0, and a relay for it. -/
def hubDev (reserved : Bool) (n : Nat) : State :=
  { dev with fabric.hubQ := [(hKey 3 63 3 false, [waiting])], fabric.viaQ := [(vKey 4 5 2 false true, List.replicate n waiting)],
             act.content.relays := [{ die := 3, chan := 63, lane := 3, label := 3, dest := .die 0 5 2, reserved := reserved }] }

theorem witness_GatewayViaductAndHubCrossings_hub :
    (∃ (s : State) (src : Fin 5) (chan : Fin 64) (lane : Fin 4) (r : Relay) (t : Tok) (ts : List Tok) (n : Nat),
      SMap.get [] s.fabric.hubQ (hKey src chan lane true) = t :: ts ∧ s.relayOf src chan lane t.label = some r ∧ r.dest = .block n) ∧
    (∀ reserved : Bool, ∀ n ∈ [3, 4], ∃ (s : State) (src : Fin 5) (chan : Fin 64) (lane : Fin 4) (r : Relay) (t : Tok) (ts : List Tok)
      (d : Fin 4) (dchan : Fin 64) (dlane : Fin 4),
      SMap.get [] s.fabric.hubQ (hKey src chan lane false) = t :: ts ∧ s.relayOf src chan lane t.label = some r ∧
      r.dest = .die d dchan dlane ∧ (SMap.get [] s.fabric.viaQ (vKey (4 + d.val) dchan dlane false true)).length = n ∧
      r.reserved = reserved ∧ (∀ src' < 5, src' ≠ src.val → s.hubAsks d src' false = false) ∧
      (∀ src' < 5, s.hubAsks d src' true = false)) :=
  ⟨⟨{ dev with fabric.hubQ := [(hKey 4 1 0 true, [waiting])], act.content.relays := [{ die := 4, chan := 1, lane := 0, label := 3, dest := .block 4 }] },
      4, 1, 0, { die := 4, chan := 1, lane := 0, label := 3, dest := .block 4 }, waiting, [], 4, by decide⟩,
   fun b n h => ⟨hubDev b n, 3, 63, 3, { die := 3, chan := 63, lane := 3, label := 3, dest := .die 0 5 2, reserved := b }, waiting, [], 0, 5, 2,
     by revert b n; decide +kernel⟩⟩

/-- A truss router with one flit waiting at port 4, lane 2, and a route under label 3. -/
def trussDev (c entry : Nat) : State :=
  { dev with fabric.trussQ := [(trKey c 4 2 false, [waiting])], fabric.clusters := [(c, { truss := [(((4 * 8 + 2) * 2) * 16 + 3, entry)] })] }

theorem trussDev_alone (c entry : Nat) : ∀ port' il' ctrl', port' < 6 → il' < 8 → (port', il', ctrl') ≠ (4, 2, false) →
    (trussDev c entry).tq (trKey c port' il' ctrl') = [] := by
  intro a l k ha hl hne
  have : trKey c 4 2 false ≠ trKey c a l k := by
    intro h
    apply hne
    simp only [trKey, b2n] at h
    cases k
    · have : a = 4 ∧ l = 2 := by simp at h; omega
      rw [this.1, this.2]
    · simp at h; omega
  simp [trussDev, State.tq, SMap.get, this]

theorem witness_TrussHopMovesTheWaitingFlit : ∀ x ∈ [((0 : Fin 256), (1 : Fin 6), TrussEnd.router 1 3), (7, 1, .viaduct 0 0 false), (200, 4, .gateway), (255, 5, .hub)],
    ∃ (s : State) (port il : Nat) (lane : Fin 8) (ctrl : Bool) (t : Tok) (ts : List Tok), port < 6 ∧ il < 8 ∧ t.served = 0 ∧
      s.tq (trKey x.1 port il ctrl) = t :: ts ∧
      (∀ port' il' ctrl', port' < 6 → il' < 8 → (port', il', ctrl') ≠ (port, il, ctrl) → s.tq (trKey x.1 port' il' ctrl') = []) ∧
      bit (s.trussEntry x.1 port il ctrl t.label) 13 = true ∧ bits (s.trussEntry x.1 port il ctrl t.label) 0 6 = 2 ^ x.2.1.val ∧
      (if x.2.1 = 5 then bits (s.trussEntry x.1 port il ctrl t.label) 6 3 % 4 else bits (s.trussEntry x.1 port il ctrl t.label) 6 3) = lane.val ∧
      s.trussRoom x.1 x.2.1 lane ctrl = true ∧ s.trussEnd x.1 x.2.1 = x.2.2 := fun x hx =>
  ⟨trussDev x.1 (8192 + 2 ^ x.2.1.val), 4, 2, 0, false, waiting, [], by decide, by decide, rfl, by simp [trussDev, State.tq, SMap.get],
   trussDev_alone _ _, by revert x; decide +kernel⟩

/-- A deck entry of an operation (1 WRITE, 2 READ) under input label 3, of `count` + 1 words. -/
def deckOf (op count : Nat) : Nat := op + 3 * 4 + 5 * 2 ^ 6 + count * 2 ^ 31 + 2 ^ 51

def deckDev (op count : Nat) (x : Cluster) : State := { dev with fabric.clusters := [(255, { x with deck := [(63, deckOf op count)] })] }

theorem witness_DeckWritesFrameSlots_data :
    (∃ (s : State) (c : Fin 256) (label : Fin 16) (f : Flit) (n e : Nat), (s.cluster c).deckEntry 1 label = some (n, e) ∧
      (s.cluster c).writtenOf n f.stag = dkCount e ∧ (s.cluster c).bankOut (deckAddr e (f.stag % dkRing e) (dkCount e)) = false ∧
      (∀ x ∈ (s.cluster c).memOld, x.1 = deckAddr e (f.stag % dkRing e) (dkCount e) → x.2.1 ≤ s.now + 4) ∧ s.handoffOf c n = none) ∧
    (∃ (s : State) (c : Fin 256) (label : Fin 16) (f : Flit) (n e st : Nat), (s.cluster c).deckEntry 1 label = some (n, e) ∧
      (s.cluster c).writtenOf n f.stag = dkCount e ∧ (s.cluster c).bankOut (deckAddr e (f.stag % dkRing e) (dkCount e)) = false ∧
      (∀ x ∈ (s.cluster c).memOld, x.1 = deckAddr e (f.stag % dkRing e) (dkCount e) → x.2.1 ≤ s.now + 4) ∧
      s.handoffOf c n = some st ∧ (s.ring st).length < s.deepCfg.hqDepth ∧ s.faults.repairs = []) ∧
    (∃ (s : State) (c : Fin 256) (label : Fin 16) (f : Flit) (n e : Nat), (s.cluster c).deckEntry 1 label = some (n, e) ∧
      dkCount e < (s.cluster c).writtenOf n f.stag) :=
  ⟨⟨deckDev 1 7 { wr := [(63, [(9, 7)])], banksOut := 0x7FFF, memOld := [(15, 4, {})] }, 255, 3, flitOf 9, 63, deckOf 1 7, by decide⟩,
   ⟨{ (deckDev 1 7 { wr := [(63, [(9, 7)])] }) with boot.fuses := 2 ^ 104, act.content.deep.handoff := [(5, 16 * 15 + 15, 63)] }, 255, 3,
    flitOf 9, 63, deckOf 1 7, 5, by decide +kernel⟩,
   ⟨deckDev 1 7 { wr := [(63, [(9, 8)])] }, 255, 3, flitOf 9, 63, deckOf 1 7, by decide⟩⟩

theorem witness_DeckWritesFrameSlots_control :
    (∀ kind ∈ [4, 5], ∃ (s : State) (c : Fin 256) (label : Fin 16) (f : Flit) (n e : Nat), (s.cluster c).deckEntry 1 label = some (n, e) ∧
      f.kind = kind ∧ s.handoffOf c n = none ∧ ∀ i ≤ dkCount e, (s.cluster c).bankOut (deckAddr e (f.stag % dkRing e) i) = false ∧
        ∀ x ∈ (s.cluster c).memOld, x.1 = deckAddr e (f.stag % dkRing e) i → x.2.1 ≤ s.now + 4) ∧
    (∃ (s : State) (c : Fin 256) (label : Fin 16) (f : Flit) (n e st : Nat), (s.cluster c).deckEntry 1 label = some (n, e) ∧ f.kind = 5 ∧
      s.handoffOf c n = some st ∧ (s.ring st).length < s.deepCfg.hqDepth ∧ s.faults.repairs = []) ∧
    (∀ kind ∈ [1, 3], ∃ (s : State) (c : Fin 256) (label : Fin 16) (f : Flit) (n e : Nat),
      (s.cluster c).deckEntry 1 label = some (n, e) ∧ f.kind = kind) :=
  ⟨fun kind h => ⟨deckDev 1 7 {}, 255, 3, (tokenOf kind 3 9).flit, 63, deckOf 1 7, by revert kind; decide⟩,
   ⟨{ (deckDev 1 7 {}) with boot.fuses := 2 ^ 104, act.content.deep.handoff := [(5, 16 * 15 + 15, 63)] }, 255, 3, (tokenOf 5 3 9).flit, 63,
    deckOf 1 7, 5, by decide +kernel⟩,
   fun kind h => ⟨deckDev 1 7 {}, 255, 3, (tokenOf kind 3 9).flit, 63, deckOf 1 7, by revert kind; decide⟩⟩

/-- A READ under way, due, of the slot at word 8 on, for the edge of port 5. -/
def reading (kind : Nat) (bad : Bool) : DeckRead :=
  { num := 63, entry := deckOf 2 7, slot := 0, flit := if kind = 0 then flitOf 9 else (tokenOf kind 3 9).flit, ctrl := decide (kind ≠ 0), ftag := 9,
    bad := bad }

theorem witness_DeckReadsFrameSlots_starts : ∃ (s : State) (c : Fin 256) (label : Fin 16) (n e : Nat) (k k' : Fin 4096),
    (s.cluster c).deckEntry 2 label = some (n, e) ∧ dkCount e < k.val ∧ k'.val ≤ dkCount e :=
  ⟨deckDev 2 7 {}, 255, 3, 63, deckOf 2 7, 8, 7, by decide⟩

/-- What the statement asks of a READ that is to cross: alone, due, and the way free. -/
def Crosses (s : State) (c : Fin 256) (r : DeckRead) (ctrl : Bool) : Prop :=
  (s.cluster c).reads = [r] ∧ r.due + r.next + 4 ≤ s.now ∧ s.writeWaits c r.bank = false ∧
  (s.rq (rKey (mkPcid c (edgePos (dkPort r.entry))) (edgePort (dkPort r.entry)) ctrl)).length < 4 ∧
  (∀ src < 8, s.gateAsks c false (.mesh (dkPort r.entry)) ctrl src = false) ∧
  (ctrl = false → ∀ src < 9, s.gateAsks c false (.mesh (dkPort r.entry)) true src = false)

theorem witness_DeckReadsFrameSlots_data : ∃ (s : State) (c : Fin 256) (r : DeckRead), Crosses s c r false ∧
    (∀ i ≤ dkCount r.entry, ((s.cluster c).wordAt (s.now - 4) (deckAddr r.entry r.slot i)).v = false ∧
      ((s.cluster c).wordAt (s.now - 4) (deckAddr r.entry r.slot i)).k = false) ∧ r.bad = false ∧
    (r.ctrl = true → r.flit.kind ≠ 4 ∧ r.flit.kind ≠ 5) :=
  ⟨{ (deckDev 2 7 { reads := [reading 0 false] }) with clock.cycle := 4 }, 255, reading 0 false, by unfold Crosses; decide, by decide, by decide,
    by decide⟩

theorem witness_DeckReadsFrameSlots_control :
    (∃ (s : State) (c : Fin 256) (r : DeckRead), Crosses s c r true ∧ r.next = 0 ∧ r.ctrl = true ∧ r.flit.kind = 5) ∧
    (∃ (s : State) (c : Fin 256) (r : DeckRead), Crosses s c r true ∧ r.next = 0 ∧ r.ctrl = false ∧
      ∃ i ≤ dkCount r.entry, ((s.cluster c).wordAt (s.now - 4) (deckAddr r.entry r.slot i)).v = true ∧
        ∀ j < i, ((s.cluster c).wordAt (s.now - 4) (deckAddr r.entry r.slot j)).v = false) ∧
    (∃ (s : State) (c : Fin 256) (r : DeckRead), Crosses s c r true ∧ r.next = 0 ∧ r.ctrl = false ∧ r.bad = true ∧
      ∀ i ≤ dkCount r.entry, ((s.cluster c).wordAt (s.now - 4) (deckAddr r.entry r.slot i)).v = false) ∧
    (∃ (s : State) (c : Fin 256) (r : DeckRead), Crosses s c r true ∧ r.next = 0 ∧ r.ctrl = true ∧ r.flit.kind = 4 ∧ r.bad = false ∧
      ∀ i ≤ dkCount r.entry, ((s.cluster c).wordAt (s.now - 4) (deckAddr r.entry r.slot i)).v = false) :=
  ⟨⟨{ (deckDev 2 7 { reads := [reading 5 false] }) with clock.cycle := 4 }, 255, reading 5 false, by unfold Crosses; decide, by decide⟩,
   ⟨{ (deckDev 2 7 { reads := [reading 0 false], mem := [(7, { v := true })] }) with clock.cycle := 4 }, 255, reading 0 false,
    by unfold Crosses; decide, by decide, by decide, ⟨7, by decide⟩⟩,
   ⟨{ (deckDev 2 7 { reads := [reading 0 true] }) with clock.cycle := 4 }, 255, reading 0 true, by unfold Crosses; decide, by decide⟩,
   ⟨{ (deckDev 2 7 { reads := [reading 4 false] }) with clock.cycle := 4 }, 255, reading 4 false, by unfold Crosses; decide, by decide⟩⟩

theorem witness_TickBoundaryAdmitsFrames :
    (∀ damp ∈ [0, 1, 2, 3, 4], ∃ s : State, s.clock.running = true ∧ s.tape.replaying = false ∧ s.dict.txns = [] ∧ s.dict.read = none ∧
      s.act.pending = none ∧ s.rd OD.DAMP_STATE = damp) ∧
    (∃ s : State, s.clock.running = true ∧ s.tape.replaying = false ∧ s.dict.txns = [] ∧ s.dict.read = none ∧ s.act.pending = none ∧
      s.rd OD.DAMP_STATE = 0 ∧ s.faults.safe = false ∧ s.admitted 3 = true ∧ s.admitted 63 = false ∧
      (∃ a ∈ (s.ing 3).align, a.seq = s.seqOf 3 s.nextTick ∧ a.complete = true) ∧ (s.ing 3).voidMark = false ∧
      s.lagOf (s.homeDie 3) s.nextBoundary = 256) :=
  ⟨fun d h => ⟨devWith [(OD.DAMP_STATE, 0, d)], by revert d; decide⟩,
   ⟨{ devWith [(OD.ST_NLANES, 3, 1)] with
      clock.deadlineOf := some 1, act.admitOn := true, act.streamMask := 8, power.dies := [(0, { lag := 256 })],
      ingest := [(3, { align := [{ seq := 1, complete := true }] })] }, by decide, by decide, by decide, by decide, by decide, by decide,
    by decide, by decide, by decide, ⟨{ seq := 1, complete := true }, by decide⟩, by decide, by decide⟩⟩

theorem witness_IngestDeadlineAndTickin :
    (∃ s : State, s.clock.running = true ∧ s.clock.deadlineOf ≠ some s.nextTick ∧ s.admitted 3 = true ∧ s.tape.replaying = false) ∧
    (∃ (s : State) (rising : Bool), s.clock.running = true ∧ (rising = true ↔ s.rd OD.TICKIN_EDGE = 0) ∧ s.rd OD.TICKIN_EDGE ≤ 1 ∧
      s.isWorker = false ∧ s.clock.tickinWait.isSome = true) ∧
    (∃ (s : State) (rising : Bool) (cycle : Nat), s.clock.running = true ∧ (rising = true ↔ s.rd OD.TICKIN_EDGE = 0) ∧ s.rd OD.TICKIN_EDGE ≤ 1 ∧
      (let e := (((cycle + 2 : Nat) : Int) + s.rd OD.TICKIN_OFFSET - s.nextBoundary) % (s.rd OD.TICKDIV : Int)
       let x := if 2 * e < (s.rd OD.TICKDIV : Int) then e else e - (s.rd OD.TICKDIV : Int)
       s.isWorker = false ∧ s.clock.tickinWait = none ∧ s.rd OD.TICKIN_STATUS % 2 = 1 ∧ 0 < s.rd OD.TICKDIV ∧ s.rd OD.TICKDIV < 2 ^ 32 ∧
       2 * e ≠ (s.rd OD.TICKDIV : Int) ∧ x.natAbs ≤ s.rd OD.TICKIN_TOL ∧ x = -(s.rd OD.TICKIN_TOL : Int))) ∧
    (∃ s : State, s.clock.running = true ∧ s.isWorker = true) ∧
    (∃ (s : State) (rising : Bool), s.clock.running = true ∧ (rising = true ↔ s.rd OD.TICKIN_EDGE = 1)) ∧
    (∃ (s : State) (c : Nat), s.clock.running = true ∧ s.clock.tickinWait = some c) :=
  ⟨⟨{ devWith [(OD.ST_NLANES, 3, 1)] with act.admitOn := true, act.streamMask := 8 }, by decide⟩,
   ⟨{ devWith [(OD.TICKIN_EDGE, 0, 1)] with clock.tickinWait := some 5 }, false, by decide⟩,
   ⟨devWith [(OD.TICKIN_STATUS, 0, 1), (OD.TICKIN_TOL, 0, 2)], true, 56, by decide⟩,
   ⟨devWith [(OD.ROLE, 0, 1)], by decide⟩, ⟨devWith [(OD.TICKIN_EDGE, 0, 1)], true, by decide⟩,
   ⟨{ dev with clock.tickinWait := some 5 }, 5, by decide⟩⟩

def inFlight : Flight := { tick := 0x1FFFF, bnd := 100, p := 5, void := false, cause := 0, inputs := 0, cfg := {} }

/-- A device at cycle 100 with one emitted record of stream 63 on its way. -/
def recDev (epoch : Nat) : State :=
  let s := (devWith [(OD.TICKDIV, 0, 2)]).updDec 63 fun d => { d with flights := [inFlight] }
  { s with clock.cycle := 100, fabric.recordsOut := [{ core := 1, bits := BitVec.ofNat 64 (63 * 2 ^ 46 + 0xFFFF * 2 ^ 24), epoch := epoch, cycle := 113 }] }

theorem witness_DeadlineMonitorReleasesRecords_arrival : ∀ epoch ∈ [0, 7],
    ∃ (s : State) (st : Fin 64) (f : Flight) (w : Word64) (cycle : Nat) (e : Fin 8) (o : RecOut), (s.dec st).flights = [f] ∧
      s.faults.repairs = [] ∧ o ∈ (s.advanceTo cycle).fabric.recordsOut ∧ o.bits = w ∧ o.epoch = e.val ∧
      o.cycle + 4 ≤ (s.advanceTo cycle).now ∧ bits w.toNat 46 6 = st.val ∧ bits w.toNat 24 16 = f.tick % 2 ^ 16 ∧ f.stale = false ∧
      (s.dec st).buffer = [] ∧ cycle ≤ f.bnd + 12 + f.p ∧ cycle = f.bnd + 12 + f.p ∧ 2 ≤ s.rd OD.TICKDIV ∧ e.val = epoch ∧
      s.rd OD.EPOCH = 0 := fun epoch h =>
  ⟨recDev epoch, 63, inFlight, BitVec.ofNat 64 (63 * 2 ^ 46 + 0xFFFF * 2 ^ 24), 117, Fin.ofNat 8 epoch,
    { core := 1, bits := BitVec.ofNat 64 (63 * 2 ^ 46 + 0xFFFF * 2 ^ 24), epoch := epoch, cycle := 113 }, by revert epoch; decide +kernel⟩

theorem witness_DeadlineMonitorReleasesRecords :
    (∃ (s : State) (f : Flight) (w : Word64) (cycle : Nat), (s.dec 0).flights = [f] ∧ s.faults.repairs = [] ∧
      ∀ o ∈ (s.advanceTo cycle).fabric.recordsOut, o.bits ≠ w) ∧
    (∃ (s : State) (st : Fin 64) (f : Flight) (fl : List Flight) (r : Rec) (c : Nat), (s.dec st).flights = f :: fl ∧ s.faults.repairs = [] ∧
      (s.dec st).buffer.find? (fun x => decide (x.1.ftag = f.tick % 2 ^ 16)) = some (r, c)) ∧
    (∀ stale : Bool, ∃ (s : State) (st : Fin 64) (f : Flight) (fl : List Flight), (s.dec st).flights = f :: fl ∧ s.faults.repairs = [] ∧
      (s.dec st).buffer.find? (fun x => decide (x.1.ftag = f.tick % 2 ^ 16)) = none ∧ f.stale = stale) :=
  ⟨⟨dev.updDec 0 fun d => { d with flights := [inFlight] }, inFlight, 5, 3, by decide⟩,
   ⟨dev.updDec 0 fun d => { d with flights := [inFlight, inFlight], buffer := [({ ftag := 0xFFFF }, 90)] }, 0, inFlight, [inFlight],
    { ftag := 0xFFFF }, 90, by decide⟩,
   fun stale => ⟨dev.updDec 0 fun d => { d with flights := [{ inFlight with stale := stale }] }, 0, { inFlight with stale := stale }, [], by
     cases stale <;> decide⟩⟩

theorem witness_TrigoutAndDecisionBursts :
    (∃ (s : State) (pin : Fin 8) (st : Fin 64) (x : Nat × Nat) (xs : List (Nat × Nat)),
      (SMap.get {} s.pins (64 * pin.val + st.val)).pulses = xs ++ [x]) ∧
    (∃ (s : State) (l : Fin 64) (b : Burst), s.rd OD.TX_KIND l = 1 ∧ (s.lane l).burst = some b ∧ b.started = false ∧
      s.rd OD.TX_STATE l = 7 ∧ b.slots.length = (s.laneMap l).length ∧ b.slots.all Option.isSome = true ∧ s.clock.running = true) ∧
    (∃ (s : State) (l : Fin 64) (b : Burst), s.rd OD.TX_KIND l = 1 ∧ (s.lane l).burst = some b ∧ b.started = false ∧
      s.rd OD.TX_STATE l ≠ 7) ∧
    (∃ (s : State) (l : Fin 64) (b : Burst) (k : Fin 16), s.rd OD.TX_KIND l = 1 ∧ (s.lane l).burst = some b ∧ b.started = false ∧
      k.val < b.slots.length ∧ b.slots.getD k none = none ∧
      ∀ st, (s.dec st).released.find? (fun x => decide (x.2.2 = b.deadline)) = none) :=
  ⟨⟨{ dev with pins := [(511, { pulses := [(9, 12), (1, 4)] })] }, 7, 63, (1, 4), [(9, 12)], by decide⟩,
   ⟨(devWith [(OD.TX_KIND, 63, 1), (OD.TX_STATE, 63, 7), (OD.TX_DEC_MAP, 63, 0xFF0100)]).updLane 63 fun x =>
      { x with burst := some { slots := [some 0, some 5] } }, 63, { slots := [some 0, some 5] }, by decide⟩,
   ⟨(devWith [(OD.TX_KIND, 63, 1), (OD.TX_STATE, 63, 8)]).updLane 63 fun x => { x with burst := some {} }, 63, {}, by decide⟩,
   ⟨(devWith [(OD.TX_KIND, 63, 1)]).updLane 63 fun x => { x with burst := some { slots := List.replicate 16 none } }, 63,
    { slots := List.replicate 16 none }, 15, by decide, by decide, by decide, by decide, by decide, fun _ => rfl⟩⟩

theorem witness_LaneTrainingGoesOn :
    (∃ (s : State) (q : Fin 16), bit (s.rd OD.LQ_STATUS q) 2 = true) ∧ (∃ (s : State) (l : Fin 64), s.rd OD.RX_STATE l = 2) ∧
    (∃ (s : State) (l : Fin 64), s.rd OD.RX_STATE l = 3) ∧
    (∃ (s : State) (l : Fin 64), s.rd OD.RX_STATE l = 4 ∧ 3 ≤ (s.lane l).fecGood) ∧ (∃ (s : State) (l : Fin 64), s.rd OD.RX_STATE l = 5) ∧
    (∃ (s : State) (l : Fin 64) (b1 : List Byte) (c1 : Nat) (b2 : List Byte) (c2 : Nat) (more : List (List Byte × Nat)),
      s.rd OD.RX_STATE l = 6 ∧ (s.lane l).held = (b2, c2) :: (b1, c1) :: more ∧ leNat (b2.take 2) = (leNat (b1.take 2) + 1) % 2 ^ 16) :=
  ⟨⟨devWith [(OD.LQ_STATUS, 15, 4)], 15, by decide⟩, ⟨devWith [(OD.RX_STATE, 63, 2)], 63, by decide⟩,
   ⟨devWith [(OD.RX_STATE, 63, 3)], 63, by decide⟩,
   ⟨(devWith [(OD.RX_STATE, 63, 4)]).updLane 63 fun x => { x with fecGood := 3 }, 63, by decide⟩, ⟨devWith [(OD.RX_STATE, 63, 5)], 63, by decide⟩,
   ⟨(devWith [(OD.RX_STATE, 63, 6)]).updLane 63 fun x => { x with held := [([0, 0], 9), ([255, 255], 4)] }, 63, [255, 255], 4, [0, 0], 9, [],
    by decide⟩⟩

theorem witness_LaneSettingsAndFallback :
    (∃ (s : State) (l : Fin 64) (v : Byte), s.hostMay = true ∧ s.laneEnOk l (v.toNat % 16) = true ∧ bit (v.toNat % 16) 0 = true ∧
      bit (s.rd OD.LANE_EN l) 0 = false ∧ bit (s.rd OD.LQ_STATUS (l.val / 4)) 0 = true ∧ bit (v.toNat % 16) 1 = true ∧
      bit (s.rd OD.LANE_EN l) 1 = false ∧ bit (s.rd OD.LQ_STATUS (l.val / 4)) 1 = false) ∧
    (∃ (s : State) (l : Fin 64) (v : Byte), s.hostMay = true ∧ s.laneEnOk l (v.toNat % 16) = false) ∧
    (∃ (s : State) (q : Fin 16) (sub : Fin 9) (v : Word32) (e : Entry), quadEntry sub = some e ∧ s.hostMay = true ∧ e.expert = false ∧
      s.quadOk e q (v.toNat &&& e.mask) = true) ∧
    (∃ (s : State) (q : Fin 16) (sub : Fin 9) (v : Word32) (e : Entry), quadEntry sub = some e ∧ s.hostMay = true ∧ e.expert = false ∧
      s.quadOk e q (v.toNat &&& e.mask) = false) ∧
    (∀ why, ∃ (s : State) (l : Fin 64), s.lossMet l why = true ∧ s.rd OD.RX_STATE l = 7) ∧
    (∃ (s : State) (l : Fin 64), s.lossMet l .fec = true ∧ s.rd OD.RX_STATE l ≠ 7) ∧
    (∃ (s : State) (l : Fin 64), s.rd OD.RX_STATE l ≠ 0 ∧ s.rd OD.RX_STATE l ≠ 7 ∧ s.rd OD.RX_STATE l ≠ 8 ∧ s.clock.running = true) ∧
    (∃ (s : State) (l : Fin 64), s.rd OD.RX_FEC (l.val / 4) ≠ 0 ∧ 4 ≤ s.rd OD.RX_STATE l ∧ s.rd OD.RX_STATE l ≠ 8 ∧ 5 ≤ s.rd OD.RX_STATE l) :=
  ⟨⟨devWith [(OD.LQ_STATUS, 15, 1)], 63, 0xF3, by decide +kernel⟩,
   ⟨devWith [(OD.LANES_FIELD_BAD, 0, 2 ^ 63)], 63, 1, by decide +kernel⟩,
   ⟨dev, 15, 1, 1, OD.RX_CODING, by decide +kernel⟩,
   ⟨dev, 15, 5, 1, OD.TX_LOCK, by decide +kernel⟩,
   fun why => ⟨(devWith [(OD.RX_STATE, 63, 7), (OD.RX_FEC, 15, 1)]).updLane 63 fun x => { x with badRun := 4, fecBad := 8 }, 63, by
     cases why <;> decide⟩,
   ⟨(devWith [(OD.RX_STATE, 63, 5), (OD.RX_FEC, 15, 1)]).updLane 63 fun x => { x with fecBad := 8 }, 63, by decide⟩,
   ⟨devWith [(OD.RX_STATE, 63, 6)], 63, by decide⟩, ⟨devWith [(OD.RX_STATE, 63, 5), (OD.RX_FEC, 15, 1)], 63, by decide⟩⟩

theorem witness_LaneBlocksPatternsAndDeepBursts :
    (∀ rx ∈ [6, 7], ∃ (s : State) (l : Fin 64) (st i : Nat) (bytes : List Byte), s.feeds l = some (st, i) ∧
      bytes.length = s.lbBytes st i ∧ (s.rd OD.ST_CRC st = 1 → crcOk bytes = true) ∧ s.rd OD.RX_STATE l = rx) ∧
    (∃ (s : State) (l : Fin 64) (st i : Nat) (bytes : List Byte), s.feeds l = some (st, i) ∧ s.rd OD.RX_STATE l = 7 ∧
      bytes.length ≠ s.lbBytes st i) ∧
    (∃ (s : State) (l : Fin 64) (n : Nat), s.rd OD.RX_STATE l = 8 ∧ s.rd OD.PRBS_LOCK l = 0 ∧
      (prbsPoly (s.rd OD.PRBS_RX l)).1 ≤ (s.lane l).chk.length ∧ (s.lane l).chk.length ≤ 31 ∧ (s.lane l).chkRun + n = 64 ∧ 0 < n) ∧
    (∃ (s : State) (l : Fin 64), s.rd OD.RX_STATE l = 8 ∧ s.rd OD.PRBS_LOCK l = 1) ∧
    (∃ (s : State) (l : Fin 64), s.rd OD.INJ_MODE l = 1 ∧ s.rd OD.TX_STATE l = 8 ∧ s.hostMay = true ∧ s.rd OD.EXPERT_EN = 1) ∧
    (∃ (s : State) (l : Fin 64), s.rd OD.INJ_MODE l = 2 ∧ s.rd OD.TX_STATE l = 7 ∧
      2 ^ s.rd OD.INJ_PERIOD l ≤ s.unitsIn l (s.clock.fine - (s.lane l).injAt)) ∧
    (∀ st ∈ [7, 6], ∃ (s : State) (l : Fin 64), s.rd OD.TX_KIND l = 4 ∧ (s.lane l).deepQ ≠ [] ∧ s.rd OD.TX_STATE l = st) :=
  ⟨fun rx h => ⟨(devWith [(OD.RX_STATE, 63, rx), (OD.ST_FIRST_LANE, 5, 62), (OD.ST_NLANES, 5, 2), (OD.ST_CRC, 5, 0)]), 63, 5, 1,
      List.replicate ((devWith [(OD.RX_STATE, 63, rx), (OD.ST_FIRST_LANE, 5, 62), (OD.ST_NLANES, 5, 2), (OD.ST_CRC, 5, 0)]).lbBytes 5 1) 7, by
      rcases List.mem_cons.1 h with rfl | h
      · exact ⟨by decide, List.length_replicate, by decide, by decide⟩
      · cases List.mem_singleton.1 h; exact ⟨by decide, List.length_replicate, by decide, by decide⟩⟩,
   ⟨devWith [(OD.RX_STATE, 63, 7), (OD.ST_FIRST_LANE, 5, 62), (OD.ST_NLANES, 5, 2)], 63, 5, 1, [0, 0], by decide⟩,
   ⟨(devWith [(OD.RX_STATE, 63, 8), (OD.PRBS_RX, 63, 1)]).updLane 63 fun x => { x with chk := List.replicate 31 true, chkRun := 63 }, 63, 1,
    by decide⟩,
   ⟨devWith [(OD.RX_STATE, 63, 8), (OD.PRBS_LOCK, 63, 1)], 63, by decide⟩,
   ⟨devWith [(OD.INJ_MODE, 63, 1), (OD.TX_STATE, 63, 8), (OD.EXPERT_EN, 0, 1)], 63, by decide⟩,
   ⟨{ devWith [(OD.INJ_MODE, 63, 2), (OD.INJ_PERIOD, 63, 30), (OD.TX_LOCK, 15, 1), (OD.TX_STATE, 63, 7)] with clock.fine := 2 ^ 80 }, 63, by decide +kernel⟩,
   fun st h => ⟨(devWith [(OD.TX_KIND, 63, 4), (OD.TX_STATE, 63, st)]).updLane 63 fun x => { x with deepQ := [1, 2] }, 63, by
     rcases List.mem_cons.1 h with rfl | h
     · decide
     · cases List.mem_singleton.1 h; decide⟩⟩

/-- A slot image of a header alone, with its program digest. -/
def header (prog : Nat) : List Byte :=
  leBytes 8 (0x49584241 + 1 * 2 ^ 32 + 512 * 2 ^ 48) ++ leBytes 8 512 ++ leBytes 8 1 ++ leBytes 4 4 ++ leBytes 112 1 ++ leBytes 32 prog ++
    leBytes 32 0x55b852781b9995a44c939b64e441ae2724b96f99c8f4fb9a141cfc9842c4b0e3

/-- A device of grade A4096 with that image in slot A. -/
def imgDev (prog : Nat) (l : List (Entry × Nat × Nat)) : State :=
  { devWith l with boot.fuses := 2 ^ 104, hbm := Hbm.writes {} giB (header prog) }

def capDev (l : List (Entry × Nat × Nat)) (c : Capt) : State := { devWith l with capt := [(63, c)] }

theorem witness_CaptureSegmentsFillStopAndFree :
    (∀ status ∈ [0, 4], ∃ (s : State) (st : Fin 64), s.hostMay = true ∧ s.rd OD.SEG_COUNT st ≠ 0 ∧ (s.cap st).st = 4 ∧
      (s.seg st (s.cap st).nextSlot).status = status) ∧
    (∃ (s : State) (st : Fin 64), 1 ≤ (s.cap st).st ∧ (s.cap st).st ≤ 3) ∧
    (∃ (s : State) (st : Fin 64), s.rd OD.OVF_REARM st = 1 ∧ (s.cap st).st = 4 ∧ (s.cap st).reason = 3 ∧ (s.cap st).queue = [] ∧
      (s.seg st (s.cap st).nextSlot).status = 0 ∧ s.rd OD.SEG_COUNT st ≠ 0) ∧
    (∀ n ∈ [0, 1, 2, 3, 4], ∃ (s : State) (st : Fin 64), s.hostMay = true ∧ (s.cap st).trigs = [] ∧ (s.cap st).st = n ∧ s.gated st = false) ∧
    (∃ (s : State) (st : Fin 64) (f : CapFrame) (rest : List CapFrame), (s.cap st).queue = f :: rest ∧
      ((s.dec st).flights.any fun x => decide (x.tick + s.rd OD.CAPT_POST_EFF st ≤ f.tick)) = false ∧ (s.cap st).st = 4) ∧
    (∀ n ∈ [1, 2, 3], ∃ (s : State) (st : Fin 64) (f : CapFrame) (rest : List CapFrame), (s.cap st).queue = f :: rest ∧
      ((s.dec st).flights.any fun x => decide (x.tick + s.rd OD.CAPT_POST_EFF st ≤ f.tick)) = false ∧ (s.cap st).st = n ∧
      (s.seg st (s.cap st).cur).armTick ≤ f.tick ∧ (s.seg st (s.cap st).cur).pos f.tick < (s.seg st (s.cap st).cur).w ∧
      f.bytes.length ≤ (s.seg st (s.cap st).cur).fb ∧
      (n = 3 → f.tick + 1 < (s.seg st (s.cap st).cur).trig.elim 0 Prod.fst + s.rd OD.CAPT_POST_EFF st)) ∧
    (∃ (s : State) (st : Fin 64) (segno : Word32), s.hostMay = true ∧
      ∃ k ∈ s.slotsIn st 4, serialGreater segno.toNat (s.seg st k).segno = true ∧ (s.seg st k).segno = 0xFFFFFFFF) :=
  ⟨by
     have h : ∀ status ∈ [0, 4], (devWith [(OD.SEG_COUNT, 63, 1)]).hostMay = true := by decide
     intro status hs
     refine ⟨capDev [(OD.SEG_COUNT, 63, 1)] { st := 4, segs := [(0, { status := status })] }, 63, h status hs, ?_⟩
     revert status; decide,
   ⟨capDev [] { st := 3 }, 63, by decide⟩,
   ⟨capDev [(OD.OVF_REARM, 63, 1), (OD.SEG_COUNT, 63, 1)] { st := 4, reason := 3 }, 63, by decide⟩,
   fun n h => ⟨capDev [] { st := n }, 63, by revert n; decide⟩,
   ⟨capDev [] { st := 4, queue := [{ tick := 5, void := false, bytes := [] }] }, 63, { tick := 5, void := false, bytes := [] }, [], by decide⟩,
   fun n h => ⟨capDev [(OD.CAPT_POST_EFF, 63, 4)]
      { st := n, queue := [{ tick := 5, void := false, bytes := [1, 2] }], segs := [(0, { status := 1, armTick := 5, w := 1, fb := 2, trig := some (3, {}) })] },
      63, { tick := 5, void := false, bytes := [1, 2] }, [], by revert n; decide⟩,
   ⟨capDev [] { segs := [(7, { status := 4, segno := 0xFFFFFFFF })] }, 63, 0, by decide, 7, by decide⟩⟩

theorem witness_MaskTestGateAndReadout :
    (∀ act ∈ [0, 1, 2], ∃ (s : State) (st : Fin 64) (slot : Nat) (more : List Nat) (ue : Option Nat), s.slotsIn st 2 = slot :: more ∧
      s.gated st = false ∧ s.rd OD.MASK_ACT st = act ∧ ue ≠ none) ∧
    (∀ act ∈ [0, 2], ∃ (s : State) (st : Fin 64) (slot : Nat) (more : List Nat), s.slotsIn st 2 = slot :: more ∧ s.gated st = false ∧
      s.rd OD.MASK_ACT st = act ∧ ¬∃ v ∈ s.maskRun st slot (s.seg st slot), s.violates st v.1 v.2 = true) ∧
    (∃ s : State, s.hostMay = true ∧ s.maskNamed (s.rd OD.MASK_TAB_SEL) = false ∧ s.rd OD.MASK_IDX (s.rd OD.MASK_TAB_SEL) < 4096) ∧
    (∃ s : State, s.maskNamed (s.rd OD.MASK_TAB_SEL) = true) ∧ (∃ s : State, 4096 ≤ s.rd OD.MASK_IDX (s.rd OD.MASK_TAB_SEL)) ∧
    (∃ (s : State) (st : Fin 64) (slot : Nat) (more : List Nat), s.slotsIn st 3 = slot :: more ∧
      s.nextTick < s.gateEnd st (s.seg st slot).last) ∧
    (∀ d ∈ [0, 1], ∃ (s : State) (st : Fin 64) (slot : Nat) (more : List Nat), s.slotsIn st 3 = slot :: more ∧
      s.gateEnd st (s.seg st slot).last ≤ s.nextTick ∧ s.rd OD.RO_DEFAULT st = d) ∧
    (∀ x ∈ [(7, 64), (7, 256), (8, 64)], ∃ (s : State) (l : Fin 64) (st slot : Nat), s.rd OD.TX_KIND l = 4 ∧ s.roNext l = some (st, slot) ∧
      s.rd OD.TX_STATE l = x.1 ∧ s.rd OD.RO_CHUNK = x.2 ∧ s.rd OD.RO_LANE st = l.val ∧
      segStride (s.seg st slot).w (s.seg st slot).fb = 256) :=
  ⟨fun act h => ⟨capDev [(OD.MASK_ACT, 63, act)] { segs := [(2, { status := 2 })] }, 63, 2, [], some 0, by revert act; decide⟩,
   fun act h => ⟨capDev [(OD.MASK_ACT, 63, act)] { segs := [(2, { status := 2, w := 1, nticks := 1 })] }, 63, 2, [], by revert act; decide +kernel⟩,
   ⟨devWith [(OD.MASK_TAB_SEL, 0, 7), (OD.MASK_IDX, 7, 4095)], by decide⟩, ⟨devWith [(OD.MASK_TAB, 63, 7), (OD.MASK_TAB_SEL, 0, 7)], by decide⟩,
   ⟨devWith [(OD.MASK_TAB_SEL, 0, 7), (OD.MASK_IDX, 7, 4096)], by decide⟩,
   ⟨capDev [(OD.DSLOT_LOG, 0, 14)] { segs := [(2, { status := 3, nticks := 1 })] }, 63, 2, [], by decide⟩,
   fun d h => ⟨{ capDev [(OD.DSLOT_LOG, 0, 2), (OD.RO_DEFAULT, 63, d)] { segs := [(2, { status := 3, nticks := 1 })] } with clock.drone := 3 + 4 * 64 },
     63, 2, [], by revert d; decide⟩,
   fun x h => ⟨(capDev [(OD.TX_KIND, 5, 4), (OD.TX_STATE, 5, x.1), (OD.RO_CHUNK, 0, x.2), (OD.RO_LANE, 63, 5)]
      { segs := [(2, { status := 4, w := 1, fb := 1 })] }).updLane 5 fun y => { y with readoutQ := [(63, 2)] }, 5, 63, 2, by revert x; decide⟩⟩

/-- A device with deep work configured. -/
def deepDev (d : DeepCfg) (x : Deep) (l : List (Entry × Nat × Nat)) : State := { devWith ((OD.DSLOT_LOG, 0, 3) :: l) with act.content.deep := d, deep := x }

theorem witness_HistoryWriterAndRecall_drain :
    (∀ tick ∈ [1022, 1023], ∃ (s : State) (st : Fin 64) (h : Handoff) (q : List Handoff) (k : Nat), s.ring st = h :: q ∧ s.rlog st = some k ∧
      h.tick = tick ∧ h.bit 395 = true ∧ s.deepOn = true ∧ s.act.admitOn = true ∧ s.slotOf h.tick = s.slotOf s.deep.startTick ∧
      s.deep.candCount < s.deepCfg.candCap) ∧
    (∃ (s : State) (st : Fin 64) (h : Handoff) (q : List Handoff) (k : Nat), s.ring st = h :: q ∧ s.rlog st = some k ∧ h.bit 395 = true ∧
      s.deepOn = true ∧ s.act.admitOn = true ∧ s.slotOf h.tick = s.slotOf s.deep.startTick ∧ s.deepCfg.candCap ≤ s.deep.candCount) ∧
    (∃ (s : State) (st : Fin 64) (h : Handoff) (q : List Handoff) (k : Nat), s.ring st = h :: q ∧ s.rlog st = some k ∧ h.bit 395 = true ∧
      s.deepOn = true ∧ s.act.admitOn = true ∧ s.slotOf h.tick + 1 = s.slotOf s.deep.startTick ∧ s.deep.prevCount < s.deepCfg.candCap ∧
      s.slotSkipped = false ∧ s.strict = false ∧ s.tape.replaying = false) ∧
    (∃ (s : State) (st : Fin 64) (h : Handoff) (q : List Handoff) (k : Nat), s.ring st = h :: q ∧ s.rlog st = some k ∧ h.bit 395 = true ∧
      s.deepOn = true ∧ s.act.admitOn = false) :=
  let h (tick : Nat) : Handoff := { bits := BitVec.ofNat 512 (2 ^ 395), tick := tick }
  let cfg : DeepCfg := { rlog := [(63, 10)], candCap := 4 }
  ⟨fun tick ht => ⟨{ deepDev cfg { rings := [(63, [h tick])], candCount := 3, startTick := 1016 } [] with act.admitOn := true }, 63, h tick, [], 10,
      by revert tick; decide +kernel⟩,
   ⟨{ deepDev cfg { rings := [(63, [h 9])], candCount := 4, startTick := 8 } [] with act.admitOn := true }, 63, h 9, [], 10, by decide +kernel⟩,
   ⟨{ deepDev cfg { rings := [(63, [h 7])], prevCount := 3, startTick := 8 } [] with act.admitOn := true }, 63, h 7, [], 10, by decide +kernel⟩,
   ⟨deepDev cfg { rings := [(63, [h 7])] } [], 63, h 7, [], 10, by decide +kernel⟩⟩

theorem witness_HistoryWriterAndRecall :
    (∃ s : State, s.hostMay = true) ∧ (∃ (s : State) (core : Nat), (s.core core).loaded = true) ∧
    (∃ (s : State) (r : Recall) (rest : List Recall), s.deep.requests = r :: rest ∧ SMap.get 0 s.deep.writtenTo r.stream ≤ s.tickOf48 r.n48) ∧
    (∃ (s : State) (r : Recall) (rest : List Recall), s.deep.requests = r :: rest ∧ s.tickOf48 r.n48 < SMap.get 0 s.deep.writtenTo r.stream) ∧
    (∃ (s : State) (r : Recall) (hits : List RecallHit) (stale : Bool) (rest : List (Recall × List RecallHit × Bool)),
      s.deep.results = (r, hits, stale) :: rest) :=
  let r : Recall := { core := 0, stream := 5, flat := true, k := 2, n48 := 7, q := [] }
  ⟨⟨dev, by decide⟩, ⟨devCore 5 {}, 5, by decide⟩,
   ⟨{ deepDev {} { requests := [r], writtenTo := [(5, 7)] } [] with clock.drone := 8 }, r, [], by decide⟩,
   ⟨{ deepDev {} { requests := [r], writtenTo := [(5, 8)] } [] with clock.drone := 8 }, r, [], by decide⟩,
   ⟨deepDev {} { results := [(r, [], true)] } [], r, [], true, [], rfl⟩⟩

theorem witness_DeepSlotsServeItemsAndDeliver :
    (∃ s : State, s.deepOn = false) ∧
    (∃ s : State, s.deepOn = true ∧ s.act.admitOn = false ∧ s.faults.safe = false ∧ s.deep.active = true ∧
      (s.act.tr ≤ s.nextTick ∧ (s.nextTick - s.act.tr) % s.dslotTicks = 0 ∧ ¬(s.deep.active = true ∧ s.deep.startTick = s.nextTick))) ∧
    (∀ strict : Bool, ∃ s : State, s.deepOn = true ∧ s.act.admitOn = true ∧ s.faults.safe = false ∧
      (s.act.tr ≤ s.nextTick ∧ (s.nextTick - s.act.tr) % s.dslotTicks = 0 ∧ ¬(s.deep.active = true ∧ s.deep.startTick = s.nextTick)) ∧
      s.rd OD.THROTTLE_LVL = 0 ∧ s.tape.replaying = false ∧ s.strict = strict) ∧
    (∃ (s : State) (i : Item) (more : List Item), s.deep.serving = none ∧ s.strict = true ∧ s.deep.work = i :: more) ∧
    (∃ s : State, s.deep.serving = none ∧ s.strict = false ∧ s.deep.work ≠ [] ∧ s.now + s.deepCfg.candCyc ≤ s.deep.start + s.rd OD.DSLOT_CYC) ∧
    (∀ strict : Bool, ∃ (s : State) (i : Item), s.deep.serving = some i ∧ s.strict = strict) ∧
    (∃ (s : State) (due : Nat), (∃ x ∈ s.deep.held, x.1 = due) ∧ ∀ x ∈ s.deep.held, due ≤ x.1) :=
  let i : Item := { tick := 9, stream := 63, kind := 0 }
  ⟨⟨dev, by decide⟩, ⟨{ deepDev {} { active := true, startTick := 8 } [] with clock.drone := 15 }, by decide⟩,
   fun strict => ⟨{ deepDev {} {} [(OD.STRICT, 0, b2n strict)] with act.admitOn := true, clock.drone := 15 }, by revert strict; decide⟩,
   ⟨deepDev {} { work := [i] } [(OD.STRICT, 0, 1)], i, [], by decide⟩, ⟨deepDev { candCyc := 480 } { work := [i] } [(OD.DSLOT_CYC, 0, 480)], by decide⟩,
   fun strict => ⟨deepDev {} { serving := some i } [(OD.STRICT, 0, b2n strict)], i, by cases strict <;> decide⟩,
   ⟨deepDev {} { held := [(9, 1), (5, 2), (5, 3)] } [], 5, ⟨(5, 2), by decide⟩, by decide⟩⟩

/-- A device with one adaptation group of one layer of 32 weights. -/
def adaptDev (x : Grp) (l : List (Entry × Nat × Nat)) : State :=
  { devCore 5 { ctrl := { adaptable := true, group := some 0 } } with
    dict.cells := (devWith ((OD.DSLOT_LOG, 0, 3) :: l)).dict.cells, groups := [(0, x)],
    act.content.adapt := [{ period := 2, layers := [{ first := 0, count := 32, wexp := 0, sh8 := 0, layer := 9 }], envDrift := 100 }] }

/-- That device in deep slot L + 3 of its first period. -/
def adaptAt (x : Grp) (l : List (Entry × Nat × Nat)) : State := { adaptDev x l with deep := { active := true, startTick := 32 } }

theorem witness_AdaptationPeriodsAndSwaps :
    (∃ (s : State) (g : Fin 8), g.val < s.groupCount ∧ s.deepOn = true ∧ s.nextTick < s.periodTick g (s.grp g).cutTo 2) ∧
    (∃ (s : State) (g : Fin 8), g.val < s.groupCount ∧ s.deepOn = true ∧ s.periodTick g (s.grp g).cutTo 2 ≤ s.nextTick ∧ s.tape.replaying = false) ∧
    (∃ (s : State) (g : Fin 8) (lane label : Nat), g.val < s.groupCount ∧ s.deepOn = true ∧
      s.periodTick g (s.grp g).cutTo 2 ≤ s.nextTick ∧ s.tape.replaying = false ∧ (s.adaptCfg g).feed = some (lane, label)) ∧
    (∃ (s : State) (g : Fin 8), g.val < s.groupCount ∧ s.deepOn = true ∧ s.faults.safe = false ∧ s.groupStuck g = false ∧
      (s.grp g).armed = none ∧ (∃ k, s.nextTick = s.act.tr + (k * (s.adaptCfg g).period + (s.adaptCfg g).period + 3) * s.dslotTicks) ∧
      (s.grp g).ready = some 0 ∧ (s.grp g).cause = none ∧ s.rd OD.ADAPT_ENABLE = 1) ∧
    (∃ (s : State) (g : Fin 8), g.val < s.groupCount ∧ s.deepOn = true ∧ s.faults.safe = false ∧ s.groupStuck g = false ∧
      (s.grp g).armed = none ∧ (∃ k, s.nextTick = s.act.tr + (k * (s.adaptCfg g).period + (s.adaptCfg g).period + 3) * s.dslotTicks) ∧
      (s.grp g).cause = some 5) ∧
    (∃ (s : State) (g : Fin 8), g.val < s.groupCount ∧ s.deepOn = true ∧ (s.grp g).armed ≠ none ∧
      ∀ p ∈ s.groupCores g, (s.core p).pastSwap = true) ∧
    (∃ (s : State) (g : Fin 8), g.val < s.groupCount ∧ s.deepOn = true ∧ s.hostMay = true ∧ s.rd OD.ADAPT_SEL = g.val) :=
  ⟨⟨adaptDev {} [], 0, by decide⟩, ⟨{ adaptDev {} [] with clock.drone := 31 }, 0, by decide⟩,
   ⟨{ adaptDev {} [] with clock.drone := 31, act.content.adapt := [{ period := 2, feed := some (3, 7) }] }, 0, 3, 7, by decide⟩,
   ⟨{ adaptDev { ready := some 0 } [(OD.ADAPT_ENABLE, 0, 1)] with clock.drone := 55 }, 0, by decide, by decide, by decide, by decide, by decide,
    ⟨1, by decide⟩, by decide, by decide, by decide⟩,
   ⟨{ adaptDev { cause := some 5 } [] with clock.drone := 55 }, 0, by decide, by decide, by decide, by decide, by decide, ⟨1, by decide⟩, by decide⟩,
   ⟨adaptDev { armed := some 9 } [], 0, by decide⟩, ⟨adaptDev {} [], 0, by decide⟩⟩

theorem witness_AdaptationUpdateStepsTheMasters :
    (∃ (s : State) (g : Fin 8), (s.grp g).cutTo ≠ 0 ∧ (s.grp g).samples ≠ [] ∧ s.updateSlot g ((s.grp g).cutTo - 1) = false) ∧
    (∃ (s : State) (g : Fin 8), (s.grp g).cutTo ≠ 0 ∧ (s.grp g).samples ≠ [] ∧ s.updateSlot g ((s.grp g).cutTo - 1) = true ∧ s.rd OD.ADAPT_ENABLE = 0) ∧
    (∃ (s : State) (g : Fin 8) (grads : List GradBlock), (s.grp g).cutTo ≠ 0 ∧ (s.grp g).samples ≠ [] ∧ s.updateSlot g ((s.grp g).cutTo - 1) = true ∧ s.rd OD.ADAPT_ENABLE ≠ 0 ∧
      s.faults.safe = false ∧ grads.any GradBlock.v = true) ∧
    (∀ armed ∈ [none, some 9], ∃ (s : State) (g : Fin 8) (grads : List GradBlock), (s.grp g).cutTo ≠ 0 ∧ (s.grp g).samples ≠ [] ∧ s.updateSlot g ((s.grp g).cutTo - 1) = true ∧
      s.rd OD.ADAPT_ENABLE ≠ 0 ∧ s.faults.safe = false ∧ grads.any GradBlock.v = false ∧
      (s.computeUpdate g ((s.grp g).cutTo - 1) grads).sat = false ∧ grads.any GradBlock.s = false ∧
      ¬(s.rd OD.ENV_MODE g = 1 ∧ 0 < (s.computeUpdate g ((s.grp g).cutTo - 1) grads).clips) ∧ (s.grp g).armed = armed) ∧
    (∃ (s : State) (g : Fin 8) (grads : List GradBlock), (s.grp g).cutTo ≠ 0 ∧ (s.grp g).samples ≠ [] ∧ s.updateSlot g ((s.grp g).cutTo - 1) = true ∧ s.rd OD.ADAPT_ENABLE ≠ 0 ∧
      s.faults.safe = false ∧ grads.any GradBlock.v = false ∧ grads.any GradBlock.s = true) ∧
    (∃ (s : State) (g : Fin 8) (grads : List GradBlock), (s.grp g).cutTo ≠ 0 ∧ (s.grp g).samples ≠ [] ∧ s.updateSlot g ((s.grp g).cutTo - 1) = true ∧ s.rd OD.ADAPT_ENABLE ≠ 0 ∧
      s.faults.safe = false ∧ grads.any GradBlock.v = false ∧ s.rd OD.ENV_MODE g = 1 ∧
      0 < (s.computeUpdate g ((s.grp g).cutTo - 1) grads).clips) :=
  let x : Grp := { cutTo := 1, samples := [{ label := 0, value := 0, vscale := 127 }] }
  let gb : GradBlock := { block := 0, scale := 127, elems := List.replicate 32 127 }
  ⟨⟨adaptDev x [], 0, by decide⟩, ⟨adaptAt x [(OD.ADAPT_ENABLE, 0, 0)], 0, by decide⟩, ⟨adaptAt x [(OD.ADAPT_ENABLE, 0, 1)], 0, [{ gb with v := true }], by decide⟩,
   fun armed h => ⟨adaptAt { x with armed := armed } [(OD.ADAPT_ENABLE, 0, 1)], 0, [gb], by revert armed; decide +kernel⟩,
   ⟨adaptAt x [(OD.ADAPT_ENABLE, 0, 1)], 0, [{ gb with s := true }], by decide⟩,
   ⟨adaptAt { x with masters := [(31, 5000)] } [(OD.ADAPT_ENABLE, 0, 1), (OD.ENV_MODE, 0, 1), (OD.ENV_DRIFT, 0, 1)], 0, [gb], by decide +kernel⟩⟩

theorem witness_SaturationWindowsAndCounterClears :
    (∀ pend ∈ [0, 5], ∃ (s : State) (p : Nat) (layer : Fin 1088) (count : Word32),
      min count.toNat (SMap.get 0 (s.core p).satPend layer) = pend) ∧
    (∃ s : State, s.nextTick % s.rd OD.SAT_WIN ≠ 0) ∧ (∃ s : State, s.act.driftAt = some s.nextTick) ∧
    (∃ s : State, s.nextTick % s.rd OD.SAT_WIN = 0 ∧ s.act.driftAt ≠ some s.nextTick ∧ (∀ p ∈ s.fabric.cores, p.2.satPend = []) ∧ 0 < s.groupCount ∧
      s.rd OD.SAT_ROLL_THRESH 0 ≠ 2 ^ 32 - 1 ∧ ∃ l ∈ (s.adaptCfg 0).layers, s.rd OD.SAT_ROLL_THRESH 0 < s.rd OD.LAYER_SAT_WIN l.layer) ∧
    (∃ s : State, s.hostMay = true ∧ s.host.ready = true) :=
  ⟨fun pend h => ⟨devCore 5 { satPend := [(1087, 5)] }, 5, 1087, BitVec.ofNat 32 (pend + pend / 5), by revert pend; decide⟩,
   ⟨devWith [(OD.SAT_WIN, 0, 4096)], by decide⟩, ⟨{ dev with act.driftAt := some 1 }, by decide⟩,
   ⟨{ adaptDev {} [(OD.SAT_WIN, 0, 4096), (OD.SAT_ROLL_THRESH, 0, 6), (OD.LAYER_SAT_WIN, 9, 7)] with clock.drone := 4095 },
    by decide, by decide, by decide, by decide, by decide, { first := 0, count := 32, wexp := 0, sh8 := 0, layer := 9 }, by decide⟩,
   ⟨dev, by decide⟩⟩

theorem witness_SlotCommandsAndCheck :
    (∀ st ∈ [0, 3, 5], ∀ failed : Bool, ∃ (s : State) (slot : Fin 2), s.hostMay = true ∧ s.rd (odState slot) = st ∧
      s.slotBusy slot = false ∧ s.boot.hbmFailed = failed) ∧
    (∃ (s : State) (slot : Fin 2) (seq : Word32), s.hostMay = true ∧ s.rd (odState slot) = 0 ∧ s.slotBusy slot = false ∧
      s.boot.hbmFailed = false ∧ (∀ m ∈ s.openFloor slot, serialGreater seq.toNat m = true) ∧ s.openFloor slot ≠ []) ∧
    (∃ (s : State) (slot : Fin 2) (seq : Word32), s.hostMay = true ∧ s.rd (odState slot) = 0 ∧ s.slotBusy slot = false ∧
      s.boot.hbmFailed = false ∧ ∃ m ∈ s.openFloor slot, serialGreater seq.toNat m = false) ∧
    (∀ st ∈ [1, 2, 4], ∃ (s : State) (slot : Fin 2), s.hostMay = true ∧ s.rd (odState slot) = st ∧ s.slotBusy slot = false) ∧
    (∃ (s : State) (slot : Fin 2), s.hostMay = true ∧ s.slotBusy slot = true) ∧
    (∃ (s : State) (slot : Fin 2), s.rd (odState slot) ≠ 2) ∧
    (∃ (s : State) (slot : Fin 2), s.rd (odState slot) = 2 ∧ s.img slot 0 4 ≠ 0x49584241) ∧
    (∃ (s : State) (slot : Fin 2), s.rd (odState slot) = 2 ∧ { s with act.images := SMap.set {} s.act.images slot {} }.formatOk slot (s.rd (odSize slot)) {} = true ∧
      s.progDigest slot ≠ s.img slot 140 32) :=
  ⟨fun st h failed => ⟨{ devWith [(OD.B_STATE, 0, st)] with boot.hbmFailed := failed }, 1, by revert st failed; decide⟩,
   ⟨{ devWith [(OD.LAST_SEQ, 0, 0xFFFFFFFF)] with act.opened := true }, 1, 0, by decide⟩,
   ⟨{ devWith [(OD.LAST_SEQ, 0, 7)] with act.opened := true }, 1, 7, by decide⟩,
   fun st h => ⟨devWith [(OD.B_STATE, 0, st)], 1, by revert st; decide⟩,
   ⟨{ devWith [(OD.DAMP_STATE, 0, 5)] with act.slot := 1 }, 1, by decide⟩, ⟨dev, 1, by decide⟩,
   ⟨devWith [(OD.B_STATE, 0, 2)], 1, by decide⟩,
   ⟨imgDev 0 [(OD.A_STATE, 0, 2), (OD.A_SIZE, 0, 512)], 0, by decide +kernel⟩⟩

/-- The program digest of the image of `imgDev`. -/
def imgDigest : Nat := 2049949521114998974062752819651278106934701350000724686368688298019055466869

theorem witness_SlotCommandsAndCheck_ready : ∃ (s : State) (slot : Fin 2), s.rd (odState slot) = 2 ∧
    ({ s with act.images := SMap.set {} s.act.images slot {} }.commitCode slot (s.rd (odSize slot))).1 = 0 :=
  ⟨imgDev imgDigest [(OD.A_STATE, 0, 2), (OD.A_SIZE, 0, 512)], 0, by decide +kernel⟩

theorem witness_Bar2ReachesWhatTheRulesAllow :
    (∃ (s : State) (ofs : Fin 268435456) (i : Nat), s.host.ready = true ∧ giB ≤ s.host.winBase + ofs.val + i ∧
      s.host.winBase + ofs.val + i < 3 * giB ∧ s.host.winBase + ofs.val + i < s.hbmSize ∧
      s.rd (odState ((s.host.winBase + ofs.val + i) / giB - 1)) ≠ 1) ∧
    (∃ (s : State) (ofs : Fin 268435456), s.host.ready = true ∧ s.host.winBase + ofs.val < giB) ∧
    (∃ (s : State) (ofs : Fin 268435456), s.host.ready = true ∧ 3 * giB ≤ s.host.winBase + ofs.val ∧
      s.freeBase ≤ s.host.winBase + ofs.val ∧ s.host.winBase + ofs.val < s.hbmSize) :=
  ⟨⟨{ dev with host.winBase := 3 * giB - 2 ^ 28 }, 268435455, 0, by decide⟩, ⟨{ dev with host.winBase := giB - 2 ^ 28 }, 268435455, by decide⟩,
   ⟨{ dev with host.winBase := 96 * giB - 2 ^ 28 }, 268435455, by decide⟩⟩

theorem witness_ActivationIsRequestedAndStarts_request :
    (∀ state ∈ [0, 3], ∃ (s : State) (slot mode : Fin 2) (at_ res : Word64), s.hostMay = true ∧ mode = 1 ∧
      (s.activationCode slot (decide (mode.val = 1)) none).1 = 0 ∧
      ((s.requestCode { slot := slot, mode := mode, at_ := at_.toNat, resumeAt := res.toNat } s.nextDrone).1 = 0 ↔ state = 3)) ∧
    (∃ (s : State) (slot mode : Fin 2), s.hostMay = true ∧ (s.activationCode slot (decide (mode.val = 1)) none).1 ≠ 0) ∧
    (∃ (s : State) (slot mode : Fin 2) (at_ : Word64), s.hostMay = true ∧ (s.activationCode slot (decide (mode.val = 1)) none).1 = 0 ∧
      s.rd (odState slot) = 3 ∧ at_ ≠ 0 ∧ at_.toNat + 1 = s.nextDrone) ∧
    (∃ s : State, s.hostMay = true ∧ s.act.pending ≠ none) ∧
    (∃ (s : State) (slot : Fin 2), s.hostMay = true ∧ s.act.pending = none ∧ s.rd OD.ACT_SLOT = slot.val) :=
  ⟨fun state h => ⟨{ imgDev imgDigest [(OD.A_STATE, 0, state), (OD.EXPERT_EN, 0, 1)] with clock.drone := 9 }, 0, 1, 10, 0, by revert state; decide +kernel⟩,
   ⟨{ dev with hbm := Hbm.writes {} giB (leBytes 28 (100 * 2 ^ 192)) }, 0, 0, by decide +kernel⟩, ⟨{ imgDev imgDigest [(OD.A_STATE, 0, 3)] with clock.drone := 9 }, 0, 0, 9, by decide +kernel⟩,
   ⟨{ dev with act.pending := some { slot := 1, mode := 0, at_ := 6, resumeAt := 0 } }, by decide⟩, ⟨devWith [(OD.ACT_SLOT, 0, 1)], 1, by decide⟩⟩

theorem witness_ActivationIsRequestedAndStarts_starts :
    (∃ (s : State) (a : Activation), a.slot < 2 ∧ s.act.pending = some a ∧ s.nextDrone < a.at_) ∧
    (∃ (s : State) (a : Activation), a.slot < 2 ∧ s.act.pending = some a ∧ s.clock.running = true ∧ a.at_ ≤ s.nextDrone ∧
      ¬((s.activationCode a.slot (decide (a.mode = 1)) a.tickdiv).1 = 0 ∧ s.actBarred a.slot = false)) ∧
    (∀ mode ∈ [0, 1], ∃ (s : State) (a : Activation), a.slot < 2 ∧ s.act.pending = some a ∧ s.clock.running = true ∧ a.at_ ≤ s.nextDrone ∧
      ((s.activationCode a.slot (decide (a.mode = 1)) a.tickdiv).1 = 0 ∧ s.actBarred a.slot = false) ∧ a.mode = mode) :=
  let a (mode : Nat) : Activation := { slot := 0, mode := mode, at_ := 6, resumeAt := 0 }
  ⟨⟨{ dev with act.pending := some (a 0), clock.drone := 4 }, a 0, by decide⟩,
   ⟨{ devWith [(OD.A_STATE, 0, 5)] with act.pending := some (a 0), clock.drone := 5 }, a 0, by decide +kernel⟩,
   fun mode h => ⟨{ imgDev imgDigest [(OD.A_STATE, 0, 4)] with act.pending := some (a mode), clock.drone := 5 }, a mode, by revert mode; decide +kernel⟩⟩

theorem witness_DampDrainsVerifiesAndSwitches :
    (∃ s : State, s.rd OD.DAMP_STATE ≠ 2) ∧
    (∃ s : State, s.rd OD.DAMP_STATE = 2 ∧ (∀ p ∈ s.decisions, p.2.flights = []) ∧ s.deep.serving = none ∧ s.deep.active = false ∧ s.decisions ≠ []) ∧
    (∃ s : State, s.rd OD.DAMP_STATE = 3 ∧ s.queuesEmpty = true ∧ (s.advanceTo (s.now + 256)).queuesEmpty = true ∧
      s.now + 256 ≤ s.act.since + s.rd OD.DAMP_LIMIT ∧ (∀ d, d < 4 → (s.die d).frozen = false) ∧ s.clock.running = true ∧
      s.girder.lastSync = none) ∧
    (∃ s : State, s.rd OD.DAMP_STATE = 3 ∧ s.queuesEmpty = true ∧ s.act.since + s.rd OD.DAMP_LIMIT < s.now + 256) ∧
    (∃ s : State, s.rd OD.DAMP_STATE = 3 ∧ s.queuesEmpty = false) ∧
    (∃ s : State, s.rd OD.DAMP_STATE = 3 ∧ ∀ r, (s.errUnit pkgUnit).primary = some r → r.sev ≠ 3) ∧
    (∃ (s : State) (r : ErrRec), s.rd OD.DAMP_STATE = 3 ∧ (s.errUnit pkgUnit).primary = some r ∧ r.sev = 3) :=
  let r : ErrRec := { code := 0x0B05, sev := 3, raised := 3, level := 0 }
  ⟨⟨dev, by decide⟩, ⟨{ devWith [(OD.DAMP_STATE, 0, 2)] with decisions := [(3, { substituted := [5] })] }, by decide⟩,
   ⟨devWith [(OD.DAMP_STATE, 0, 3), (OD.DAMP_LIMIT, 0, 1024)], by decide⟩,
   ⟨{ devWith [(OD.DAMP_STATE, 0, 3), (OD.DAMP_LIMIT, 0, 1024)] with clock.cycle := 769 }, by decide⟩,
   ⟨{ devWith [(OD.DAMP_STATE, 0, 3)] with deep.rings := [(3, [{ bits := 0, tick := 5 }])] }, by decide⟩,
   ⟨devWith [(OD.DAMP_STATE, 0, 3)], by decide, fun _ h => nomatch h⟩,
   ⟨{ devWith [(OD.DAMP_STATE, 0, 3)] with faults.units := [(pkgUnit, { primary := some r })] }, r, by decide⟩⟩

/-- An image of one section: the CORE_CTRL of logical core (63, 63). -/
def oneCore : List Byte :=
  leBytes 8 (0x49584241 + 1 * 2 ^ 32 + 512 * 2 ^ 48) ++ leBytes 8 640 ++ leBytes 8 1 ++ leBytes 4 4 ++
    leBytes 112 (1 + 2 ^ (8 * 78) + 512 * 2 ^ (8 * 80)) ++ leBytes 372 0 ++
    leBytes 4 2 ++ leBytes 4 (63 + 63 * 256) ++ leBytes 8 576 ++ leBytes 8 64 ++ leBytes 104 0

theorem witness_LoadRampAndResume :
    (∃ s : State, s.rd OD.DAMP_STATE ≠ 4) ∧
    (∃ s : State, s.rd OD.DAMP_STATE = 4 ∧ s.act.slot < 2 ∧ s.progDigest s.act.slot ≠ s.rd (odProg s.act.slot)) ∧
    (∃ s : State, s.rd OD.DAMP_STATE = 4 ∧ s.act.slot < 2 ∧ s.progDigest s.act.slot = s.rd (odProg s.act.slot) ∧
      s.weightDigest s.act.slot = s.rd (odWeight s.act.slot) ∧
      (s.loadContent s.act.slot).cores.Pairwise (fun a b => s.pcidOf a.x a.y ≠ s.pcidOf b.x b.y) ∧
      ∃ i ∈ (s.loadContent s.act.slot).cores, s.pcidOf i.x i.y = some 8175) ∧
    (∀ w : Fin 8, ∃ s : State, s.rd OD.DAMP_STATE = 5 ∧ s.act.waves.length = w ∧ s.clock.tickinWait = none) ∧
    (∃ s : State, (s.rd OD.DAMP_STATE = 5 ∧ s.act.waves.length = 8 ∧ s.act.missed = false ∧ s.clock.tickinWait = none ∧
      s.act.ramp0 + 8 * s.rd OD.RAMP_STEP ≤ s.nextBoundary ∧ (s.act.resumeAt = 0 ∨ s.act.resumeAt = s.nextDrone) ∧
      s.oldReleasedBefore (s.nextBoundary + 12 + s.rd OD.LAT_P) = true ∧ s.windowFull s.nextDrone = false) ∧ s.tape.starting = false) ∧
    (∃ s : State, s.act.waves.length ≠ 8 ∧ (1 ≤ s.rd OD.DAMP_STATE ∧ s.rd OD.DAMP_STATE ≤ 5 ∧ s.act.resumeAt ≠ 0 ∧
      s.act.missed = false ∧ s.act.resumeAt ≤ s.nextDrone)) ∧
    (∃ (s : State) (c : Nat), s.act.sweepAt = some c) :=
  ⟨⟨dev, by decide⟩, ⟨imgDev 0 [(OD.DAMP_STATE, 0, 4)], by decide +kernel⟩,
   ⟨{ devWith [(OD.DAMP_STATE, 0, 4),
        (OD.A_PROG_DIGEST, 0, 90691928318871452497470124843496812258274690848008975360976226513711473527337),
        (OD.A_WEIGHT_DIGEST, 0, 0x55b852781b9995a44c939b64e441ae2724b96f99c8f4fb9a141cfc9842c4b0e3)] with
      boot.fuses := 2 ^ 104, hbm := Hbm.writes {} giB oneCore },
    by decide, by decide, by decide +kernel, by decide +kernel, by decide +kernel, by decide +kernel⟩,
   fun w => ⟨{ devWith [(OD.DAMP_STATE, 0, 5)] with act.waves := List.range w }, by revert w; decide⟩,
   ⟨{ devWith [(OD.DAMP_STATE, 0, 5), (OD.RAMP_STEP, 0, 1024)] with act.waves := List.range 8, act.resumeAt := 7, clock.drone := 6, clock.bnd := 8192 - 60 },
    by decide⟩,
   ⟨{ devWith [(OD.DAMP_STATE, 0, 5)] with act.resumeAt := 7, clock.drone := 6 }, by decide⟩,
   ⟨{ dev with act.sweepAt := some 4376 }, 4376, by decide⟩⟩

/-- A replaying device whose recording holds a SEAL entry of window 0, part 0. -/
def sealTape (value : Nat) : State :=
  { dev with tape.replaying := true, tape.held := [(4096, 24, 9, 0), (8192, 56, 8, 0)], audit.closed := [{ win := 0, part := 0 }],
             hbm := Hbm.writes {} (28 * giB + 8192 + 24) (leBytes 32 value) }

/-- The seal of an empty part after PREV 0, by SHA-256. -/
def emptySeal : Nat := 5451842930763075685236224940290605645365733457130388228230417292004648326823

theorem witness_AuditWindowsAndSeals :
    (∃ s : State, s.nextTick % 65536 ≠ 0) ∧
    (∃ s : State, s.clock.running = true ∧ s.nextTick % 65536 = 0 ∧ s.act.pending = none ∧ s.audit.cur = none) ∧
    (∀ win ∈ [0, 1], ∃ (s : State) (p : Part), s.clock.running = true ∧ s.nextTick % 65536 = 0 ∧ s.act.pending = none ∧ s.audit.cur = some p ∧
      (p.win = windowOf s.nextTick ↔ win = 1)) ∧
    (∀ en ∈ [0, 1], ∃ (s : State) (p : Part), s.clock.running = true ∧ s.nextTick % 65536 = 0 ∧ s.act.pending = none ∧ s.audit.cur = some p ∧
      p.win ≠ windowOf s.nextTick ∧ p.first ≠ none ∧ s.rd OD.SEAL_EN = en ∧ s.audit.gap = none) ∧
    (∃ (s : State) (p : Part) (ps : List Part), s.audit.closed = p :: ps ∧ s.tape.replaying = false) ∧
    (∃ s : State, s.audit.closed = []) ∧
    (∃ (s : State) (p : Part) (ps : List Part) (r : Nat), s.audit.closed = p :: ps ∧ s.tape.replaying = true ∧
      s.recordedSeal p.win p.part = some r ∧ leNat (sha256 (p.body s.tape.prev false)) = r) ∧
    (∃ (s : State) (p : Part) (ps : List Part) (r : Nat), s.audit.closed = p :: ps ∧ s.tape.replaying = true ∧
      s.recordedSeal p.win p.part = some r ∧ leNat (sha256 (p.body s.tape.prev false)) ≠ r ∧
      leNat (sha256 (p.body s.tape.prev true)) ≠ r ∧ bit (s.rd OD.REPLAY_MISMATCH) 56 = false) ∧
    (∃ s : State, s.hostMay = true ∧ s.rd OD.EXPERT_EN ≠ 0 ∧ s.presenceHolds = true) ∧
    (∃ s : State, s.hostMay = true ∧ s.rd OD.EXPERT_EN ≠ 0 ∧ s.presenceHolds = false) :=
  ⟨⟨dev, by decide⟩, ⟨{ dev with clock.drone := 65535 }, by decide⟩,
   fun win h => ⟨{ dev with clock.drone := 65535, audit.cur := some { win := win, part := 0 } }, { win := win, part := 0 }, by revert win; decide⟩,
   fun en h => ⟨{ devWith [(OD.SEAL_EN, 0, en)] with clock.drone := 65535, audit.cur := some { win := 0, part := 0, first := some 9 } },
     { win := 0, part := 0, first := some 9 }, by revert en; decide⟩,
   ⟨{ dev with audit.closed := [{ win := 0, part := 255 }] }, { win := 0, part := 255 }, [], by decide⟩, ⟨dev, rfl⟩,
   ⟨sealTape emptySeal, { win := 0, part := 0 }, [], emptySeal, by decide +kernel⟩,
   ⟨sealTape 0, { win := 0, part := 0 }, [], 0, by decide +kernel⟩,
   ⟨{ devWith [(OD.EXPERT_EN, 0, 1)] with lic.presentN := false }, by decide⟩, ⟨devWith [(OD.EXPERT_EN, 0, 1)], by decide⟩⟩

theorem witness_RecorderAndReplayCommands :
    (∀ st ∈ [0, 3], ∃ s : State, s.host.ready = true ∧ bit s.lic.features 2 = true ∧ s.rd OD.REC_STATE % 8 = st ∧
      s.tape.replaying = false ∧ s.faults.safe = false) ∧
    (∃ s : State, s.host.ready = true ∧ bit s.lic.features 2 = false) ∧
    (∀ st ∈ [1, 2], ∃ s : State, s.host.ready = true ∧ s.rd OD.REC_STATE % 8 = st) ∧
    (∃ s : State, s.rd OD.REC_STATE % 8 ≠ 2) ∧
    (∃ e : Entry, e.sel ≠ .array) ∧
    (∃ (s : State) (a : Word64), s.host.ready = true ∧ s.tape.replaying = false ∧ s.tape.starting = false ∧
      ∀ h ∈ s.tape.held, h.1 = a.toNat → h.2.2.1 ≠ 1) ∧
    (∃ s : State, s.host.ready = true ∧ s.tape.replaying = true) ∧
    (∃ s : State, s.host.ready = true ∧ s.tape.replaying = false ∧ s.tape.starting = true) :=
  ⟨fun st h => ⟨{ devWith [(OD.REC_STATE, 0, st)] with lic.features := 4 }, by revert st; decide⟩, ⟨dev, by decide⟩,
   fun st h => ⟨devWith [(OD.REC_STATE, 0, st)], by revert st; decide⟩, ⟨dev, by decide⟩, ⟨OD.TICKDIV, by decide⟩,
   ⟨{ dev with tape.held := [(4096, 24, 9, 0)] }, 4096, by decide⟩, ⟨{ dev with tape.replaying := true }, by decide⟩,
   ⟨{ dev with tape.starting := true }, by decide⟩⟩

theorem witness_RecorderAndReplayCommands_accepted :
    ∃ (s : State) (a : Word64) (k : Fin 2) (e : Word64), s.host.ready = true ∧ s.tape.replaying = false ∧ s.tape.starting = false ∧
      ((((s.noteWrites [(OD.REPLAY_ANCHOR, 0, a.toNat), (OD.REPLAY_SLOT, 0, k.val), (OD.REPLAY_END, 0, e.toNat), (OD.REPLAY_CMD, 0, 1)]).wr
        OD.REPLAY_ANCHOR 0 a.toNat).wr OD.REPLAY_SLOT 0 k).wr OD.REPLAY_END 0 e.toNat).replayCode a.toNat k = 0 :=
  ⟨{ imgDev imgDigest [(OD.A_STATE, 0, 3)] with lic.features := 4, tape.held := [(4096, 135, 1, 0)] }, 4096, 0, 9, by decide +kernel⟩

/-- A device with a Girder port, a role and the agent's state: port 3 is its upstream port, port 2 is DOWN. -/
def girderDev (role agent : Nat) (p : GPort) (l : List (Entry × Nat × Nat)) : State :=
  { devWith ([(OD.ROLE, 0, role), (OD.GIRDER_STATE, 0, agent), (OD.PORT_STATE, 3, 2), (OD.PORT_STATE, 2, 3)] ++ l) with
    girder.ports := [(3, p)], girder.upstream := some 3, lic.features := 32 }

/-- A frame that arrives whole on port `p`, the first of its port. -/
def fr (p : Fin 4) (typ : Nat) : GFrame := { port := p, typ := BitVec.ofNat 8 typ }

theorem witness_GirderLinksAcknowledgeResendAndFail_frames :
    (∀ seq : Fin 2, ∃ (s : State) (rx : GFrame), s.portTakes rx.port 6 = true ∧ rx.crcOk = true ∧ rx.typ.toNat = 6 ∧ reliable 6 = true ∧
      (rx.lseq.toNat = (s.port rx.port).rxSeq ↔ seq = 0)) ∧
    (∃ (s : State) (rx : GFrame), (s.frameIn rx 6).2 = true ∧ reliable 6 = true) ∧
    (∃ (s : State) (rx : GFrame), (s.frameIn rx 1).2 = true ∧ reliable 1 = false) ∧
    (∃ (s : State) (rx : GFrame), (s.frameIn rx 1).2 = false ∧ s.portTakes rx.port 1 = true ∧ rx.crcOk = false) ∧
    (∃ (s : State) (rx : GFrame), s.portTakes rx.port 6 = false) :=
  ⟨fun seq => ⟨girderDev 1 5 {} [], { fr 2 6 with lseq := BitVec.ofNat 16 seq }, by revert seq; decide⟩,
   ⟨girderDev 1 5 {} [], fr 2 6, by decide⟩, ⟨girderDev 1 5 {} [], fr 3 1, by decide⟩,
   ⟨girderDev 1 5 {} [], { fr 3 1 with crcOk := false }, by decide⟩, ⟨girderDev 1 5 {} [], fr 3 6, by decide⟩⟩

theorem witness_GirderLinksAcknowledgeResendAndFail :
    (∃ (s : State) (rx : GFrame) (q : Word16) (pre : List (Nat × List Byte)) (w : List Byte) (post : List (Nat × List Byte)),
      (s.frameIn rx 0x7F).2 = true ∧ (s.port rx.port).unacked = pre ++ (q.toNat, w) :: post ∧ pre.length < 16 ∧ (∀ x ∈ pre, x.1 ≠ q.toNat) ∧
      pre.length = 15) ∧
    (∃ (s : State) (rx : GFrame) (q : Word16), (s.frameIn rx 0x7F).2 = true ∧ (∀ x ∈ (s.port rx.port).unacked.take 16, x.1 ≠ q.toNat) ∧
      (s.port rx.port).unacked ≠ []) ∧
    (∃ (s : State) (p : Fin 4), (s.port p).unacked = []) ∧
    (∀ n ∈ [7, 8], ∃ (s : State) (p : Fin 4), (s.port p).unacked ≠ [] ∧ (s.port p).resends = n ∧ s.girder.upstream = some p.val ∧
      2 ≤ s.rd OD.GIRDER_STATE ∧ s.rd OD.GIRDER_STATE ≤ 5) ∧
    (∀ st ∈ [1, 3, 4, 5], ∃ (s : State) (p : Fin 4), s.rd OD.PORT_STATE p = st) :=
  ⟨⟨girderDev 1 5 { unacked := List.replicate 15 (65535, [2]) ++ [(0, [3])] } [], fr 3 0x7F, 0, List.replicate 15 (65535, [2]), [3], [], by decide⟩,
   ⟨girderDev 1 5 { unacked := [(5, [2])] } [], fr 3 0x7F, 6, by decide⟩, ⟨dev, 3, by decide⟩,
   fun n h => ⟨girderDev 1 5 { unacked := [(5, [2])], resends := n } [], 3, by revert n; decide⟩,
   fun st h => ⟨girderDev 1 5 {} [(OD.PORT_STATE, 3, st)], 3, by revert st; decide⟩⟩

theorem witness_WorkersJoinAndLeave :
    (∀ auto ∈ [0, 1], ∃ (s : State) (rx : GFrame), s.rd OD.ROLE = 1 ∧ s.rd OD.GIRDER_STATE = 1 ∧ s.girder.upstream = none ∧
      (s.frameIn rx 1).2 = true ∧ s.rd OD.AUTO_JOIN = auto ∧ s.girder.joinWanted = false ∧ s.act.running = false) ∧
    (∃ (s : State) (rx : GFrame) (u : Nat), s.rd OD.ROLE = 1 ∧ s.girder.upstream = some u ∧ u ≠ rx.port.val ∧ s.rd OD.GIRDER_STATE ≠ 6 ∧
      (s.frameIn rx 1).2 = true) ∧
    (∀ d : Fin 2, ∃ (s : State) (rx : GFrame) (sn : Word64) (depth : Fin 256), s.rd OD.ROLE = 1 ∧ (s.frameIn rx 3).2 = true ∧
      sn.toNat = s.fuse 32 64 ∧ s.rd OD.GIRDER_STATE = 2 ∧ depth.val = d + 1) ∧
    (∀ typ ∈ [3, 4], ∃ (s : State) (rx : GFrame) (sn : Word64) (p : Nat), s.rd OD.ROLE = 1 ∧ (s.frameIn rx typ).2 = true ∧
      sn.toNat ≠ s.fuse 32 64 ∧ SMap.get 0 s.girder.pendJoin sn.toNat = p + 1) ∧
    (∃ (s : State) (rx : GFrame) (sn : Word64), s.rd OD.ROLE = 1 ∧ (s.frameIn rx 4).2 = true ∧ sn.toNat = s.fuse 32 64 ∧ s.rd OD.GIRDER_STATE = 2) ∧
    (∀ agent ∈ [1, 2, 5, 7], ∃ (s : State) (p : Nat), s.rd OD.ROLE = 1 ∧ s.girder.upstream = some p ∧ s.rd OD.GIRDER_STATE = agent ∧
      s.host.ready = true ∧ s.act.running = false) ∧
    (∃ s : State, s.rd OD.ROLE = 1 ∧ s.host.ready = true ∧ s.rd OD.GIRDER_STATE = 1 ∧ s.girder.upstream = none) ∧
    (∃ s : State, s.rd OD.ROLE = 1 ∧ s.rd OD.GIRDER_STATE = 8) ∧
    (∃ (s : State) (rx : GFrame) (q : Nat), s.rd OD.ROLE = 1 ∧ (s.frameIn rx 0x40).2 = true ∧ rx.dst.toNat ≠ s.rd OD.NODE_ADDR ∧
      SMap.get 0 s.girder.routes rx.dst.toNat = q + 1) ∧
    (∃ (s : State) (rx : GFrame) (ofs : Word32) (bytes : List Byte), s.rd OD.ROLE = 1 ∧ (s.frameIn rx 0x40).2 = true ∧
      rx.dst.toNat = s.rd OD.NODE_ADDR ∧ s.rd OD.GIRDER_STATE = 3 ∧ s.boot.stage = 4 ∧ s.boot.source ≠ some false ∧
      ofs.toNat + bytes.length ≤ 2 ^ 22 ∧ ofs.toNat + bytes.length = 2 ^ 22) ∧
    (∃ (s : State) (rx : GFrame), s.rd OD.ROLE = 1 ∧ (s.frameIn rx 0x40).2 = true ∧ rx.dst.toNat = s.rd OD.NODE_ADDR ∧
      s.rd OD.GIRDER_STATE = 3 ∧ s.boot.stage = 4 ∧ s.boot.source = some false) :=
  ⟨fun auto h => ⟨{ girderDev 1 1 {} [(OD.AUTO_JOIN, 0, auto)] with girder.upstream := none }, fr 3 1, by revert auto; decide⟩,
   ⟨girderDev 1 5 {} [(OD.PORT_STATE, 2, 4)], fr 2 1, 3, by decide⟩,
   fun d => ⟨girderDev 1 2 {} [], fr 3 3, 0, ⟨d + 1, by omega⟩, by revert d; decide +kernel⟩,
   fun typ h => ⟨{ girderDev 1 5 {} [] with girder.pendJoin := [(9, 3)] }, fr 3 typ, 9, 2, by revert typ; decide +kernel⟩,
   ⟨girderDev 1 2 {} [], fr 3 4, 0, by decide +kernel⟩,
   fun agent h => ⟨girderDev 1 agent {} [], 3, by revert agent; decide⟩,
   ⟨{ girderDev 1 1 {} [] with girder.upstream := none }, by decide⟩, ⟨girderDev 1 8 {} [], by decide⟩,
   ⟨{ girderDev 1 3 {} [] with girder.routes := [(7, 2)] }, { fr 3 0x40 with dst := 7 }, 1, by decide⟩,
   ⟨{ girderDev 1 3 {} [] with boot.stage := 4 }, fr 3 0x40, 4194303, [1], by decide⟩,
   ⟨{ girderDev 1 3 {} [] with boot.stage := 4, boot.source := some false }, fr 3 0x40, by decide⟩⟩

theorem witness_ManagersKeepTheRoster :
    let manager (s : State) : Prop := s.rd OD.ROLE = 2 ∧ bit s.lic.features 5 = true
    (∃ s : State, manager s ∧ s.rd OD.PORT_STATE 2 = 3 ∧ s.rd OD.PORT_STATE 3 ≠ 3 ∧ s.rd OD.PORT_STATE 3 ≠ 4) ∧
    (∃ (s : State) (rx : GFrame) (i : JoinInfo), manager s ∧ (s.frameIn rx 2).2 = true ∧ s.joinReason rx.port rx.hops.toNat i = 0 ∧
      i.fwVerified = true) ∧
    (∃ (s : State) (rx : GFrame) (i : JoinInfo), manager s ∧ (s.frameIn rx 2).2 = true ∧ s.joinReason rx.port rx.hops.toNat i ≠ 0 ∧
      s.rd OD.JOIN_EN = 0) ∧
    (∃ (s : State) (rx : GFrame) (i : JoinInfo), manager s ∧ (s.frameIn rx 2).2 = true ∧ s.joinReason rx.port rx.hops.toNat i ≠ 0 ∧
      8 < rx.hops.toNat) ∧
    (∀ typ ∈ [5, 6], ∃ (s : State) (rx : GFrame) (a : Fin 256), manager s ∧ (s.frameIn rx typ).2 = true ∧ (s.roster a).state = 1) ∧
    (∀ missed ∈ [1, 2], ∃ (s : State) (a : Fin 256), manager s ∧ (s.roster a).state = 1 ∧ (s.roster a).missed = missed) ∧
    (∃ (s : State) (rx : GFrame) (a : Fin 256) (p : Nat), manager s ∧ (s.frameIn rx 0x41).2 = true ∧ SMap.get 0 s.girder.fwPush a ≠ 0 ∧
      SMap.get 0 s.girder.routes a = p + 1 ∧ 1016 < s.rd OD.FW_IMG_SIZE) ∧
    (∃ (s : State) (a : Fin 256), (s.roster a).reserved = true) ∧
    (∃ s : State, s.host.ready = true ∧ s.rd OD.EXPERT_EN = 1) ∧
    (∀ typ ∈ [2, 5, 6, 0x41], ∃ (s : State) (p : Nat) (rx : GFrame), s.rd OD.ROLE = 1 ∧ s.rd OD.GIRDER_STATE ≠ 7 ∧ s.girder.upstream = some p ∧
      (s.frameIn rx typ).2 = true) :=
  let i : JoinInfo := { serial := 9, grade := 1, stepping := 0, latClass := 0 }
  ⟨⟨girderDev 2 0 {} [], by decide⟩, ⟨girderDev 2 0 {} [(OD.JOIN_EN, 0, 1)], { fr 2 2 with hops := 8 }, i, by decide +kernel⟩,
   ⟨girderDev 2 0 {} [(OD.JOIN_EN, 0, 0)], fr 2 2, i, by decide +kernel⟩,
   ⟨girderDev 2 0 {} [(OD.JOIN_EN, 0, 1)], { fr 2 2 with hops := 9 }, i, by decide +kernel⟩,
   fun typ h => ⟨{ girderDev 2 0 {} [] with girder.roster := [(255, { state := 1 })] }, fr 2 typ, 255, by revert typ; decide⟩,
   fun missed h => ⟨{ girderDev 2 0 {} [] with girder.roster := [(255, { state := 1, missed := missed })] }, 255, by revert missed; decide⟩,
   ⟨{ girderDev 2 0 {} [(OD.FW_IMG_SIZE, 0, 1017)] with girder.fwPush := [(255, 1)], girder.routes := [(255, 4)] }, fr 2 0x41, 255, 3, by decide⟩,
   ⟨{ girderDev 2 0 {} [] with girder.roster := [(255, { reserved := true })] }, 255, by decide⟩, ⟨devWith [(OD.EXPERT_EN, 0, 1)], by decide⟩,
   fun typ h => ⟨girderDev 1 5 {} [], 3, fr 2 typ, by revert typ; decide⟩⟩

theorem witness_LinkDelayAndSync :
    (∀ agent ∈ [4, 5], ∃ (s : State) (p : Nat), s.rd OD.ROLE = 1 ∧ s.girder.upstream = some p ∧ s.rd OD.GIRDER_STATE = agent ∧
      16 ≤ s.girder.syncs) ∧
    (∃ (s : State) (rx : GFrame), (s.frameIn rx 0x11).2 = true) ∧
    (∀ past : Fin 2, ∃ (s : State) (rx : GFrame) (t1 t4 : Nat) (turn : Word64), (s.frameIn rx 0x12).2 = true ∧ (s.port rx.port).delays ≠ [] ∧
      ((t4 : Int) + s.rdI OD.TS_ASYM rx.port - t1 - turn.toInt - 2 * s.rdI OD.LINK_DELAY rx.port).natAbs = 1310720 + past) ∧
    (∃ (s : State) (rx : GFrame) (m : SyncMsg), (s.frameIn rx 0x10).2 = true ∧ s.rd OD.TB_MODE 0 ≠ 1 ∧
      s.rd OD.GIRDER_STATE = 4 ∧ 8 ≤ s.girder.measured ∧ m.tickdiv ≠ 0) ∧
    (∃ (s : State) (rx : GFrame), (s.frameIn rx 0x10).2 = true ∧ s.rd OD.TB_MODE 0 ≠ 1 ∧ s.rd OD.GIRDER_STATE = 5 ∧ s.rd OD.PORT_STATE 0 = 3) ∧
    (∃ s : State, s.rd OD.ROLE = 2 ∧ bit s.lic.features 5 = true ∧ s.rd OD.PORT_STATE 0 = 3) :=
  ⟨fun agent h => ⟨{ girderDev 1 agent {} [] with girder.syncs := 16 }, 3, by revert agent; decide⟩, ⟨girderDev 2 0 {} [], fr 2 0x11, by decide⟩,
   fun past => ⟨girderDev 1 5 { delays := [0] } [], fr 3 0x12, 0, 1310720 + past, 0, by revert past; decide⟩,
   ⟨{ girderDev 1 4 {} [(OD.TB_MODE, 0, 0)] with girder.measured := 8 }, fr 3 0x10,
    { corr := 0, origin := 0, cyc := 100, cycFrac := 0, drone := 9, tphase := 40, tickdiv := 60, mgrRate := 0, syncLog2 := 4 }, by decide⟩,
   ⟨girderDev 1 5 {} [(OD.PORT_STATE, 0, 3), (OD.TB_MODE, 0, 0)], fr 3 0x10, by decide⟩, ⟨girderDev 2 0 {} [(OD.PORT_STATE, 0, 3)], by decide⟩⟩

theorem witness_TimeBasesStepAndRate :
    (∃ (s : State) (x : BitVec 96), s.host.ready = true ∧ bits x.toNat 16 32 < 1000000000 ∧ bits x.toNat 16 32 = 999999999) ∧
    (∃ (s : State) (x : BitVec 96), s.host.ready = true ∧ 1000000000 ≤ bits x.toNat 16 32) ∧
    (∃ (s : State) (k : Fin 4) (x : BitVec 96), s.host.ready = true ∧ s.linearNow k + x.toInt = 0) ∧
    (∃ (s : State) (k : Fin 4) (x : BitVec 96), s.host.ready = true ∧ s.linearNow k + x.toInt < 0) ∧
    (∃ (s : State) (k : Fin 4) (r : Word32), s.host.ready = true ∧ s.rd OD.TB_MODE k = 0 ∧ r.toInt.natAbs = s.rd OD.RATE_LIMIT) ∧
    (∃ (s : State) (r : Word32), s.host.ready = true ∧ s.rd OD.RATE_LIMIT < r.toInt.natAbs) ∧
    (∃ (s : State) (k : Fin 4) (r : Word32), s.host.ready = true ∧ 0x00FF8001 ≤ r.toNat ∧ r.toNat ≤ 0x01007FFF ∧ s.rd OD.TB_MODE k = 2 ∧
      0 ≤ s.linearNow k + r.toInt) ∧
    (∃ (s : State) (k : Fin 4), s.host.ready = true ∧ s.rd OD.TB_MODE k ≠ 2) ∧
    (∃ s : State, s.host.ready = true ∧ s.rd OD.ROLE = 1 ∧ s.rd OD.TB_MODE 0 = 1) :=
  ⟨⟨dev, BitVec.ofNat 96 (999999999 * 65536), by decide⟩, ⟨dev, BitVec.ofNat 96 (1000000000 * 65536), by decide⟩, ⟨dev, 3, 0, by decide⟩,
   ⟨dev, 3, BitVec.ofInt 96 (-1), by decide⟩,
   ⟨devWith [(OD.TB_MODE, 3, 0), (OD.RATE_LIMIT, 0, 10)], 3, BitVec.ofInt 32 (-10), by decide⟩, ⟨devWith [(OD.RATE_LIMIT, 0, 10)], 11, by decide⟩,
   ⟨devWith [(OD.TB_MODE, 3, 2)], 3, 0x01007FFF, by decide⟩, ⟨devWith [(OD.TB_MODE, 3, 0)], 3, by decide⟩,
   ⟨devWith [(OD.ROLE, 0, 1), (OD.TB_MODE, 0, 1)], by decide⟩⟩

theorem witness_LaunchesRoleAndReferenceLoss :
    let member (s : State) (rx : GFrame) : Prop := s.rd OD.ROLE = 1 ∧ s.rd OD.GIRDER_STATE = 5 ∧ (s.frameIn rx 0x20).2 = true
    (∃ (s : State) (rx : GFrame) (m : LaunchMsg), member s rx ∧ bit m.targets (s.rd OD.NODE_ADDR) = false) ∧
    (∃ (s : State) (rx : GFrame) (m : LaunchMsg), member s rx ∧ bit m.targets (s.rd OD.NODE_ADDR) = true ∧ 1 ≤ m.kind ∧ m.kind ≤ 3 ∧
      m.count < s.clock.drone + 2) ∧
    (∃ (s : State) (rx : GFrame) (m : LaunchMsg), member s rx ∧ bit m.targets (s.rd OD.NODE_ADDR) = true ∧ m.kind = 2 ∧
      s.clock.drone + 2 ≤ m.count) ∧
    (∃ (s : State) (rx : GFrame) (m : LaunchMsg), member s rx ∧ bit m.targets (s.rd OD.NODE_ADDR) = true ∧ m.kind = 1 ∧
      s.clock.drone + 2 ≤ m.count ∧ s.actBusy = true) ∧
    (∃ (s : State) (rx : GFrame), s.rd OD.ROLE = 2 ∧ bit s.lic.features 5 = true ∧ (s.frameIn rx 0x21).2 = true ∧ s.girder.launchOpen = true ∧
      s.girder.launchCount = 9) ∧
    (∃ (s : State) (m : LaunchMsg), s.rd OD.ROLE = 2 ∧ bit s.lic.features 5 = true ∧ s.host.ready = true ∧ 1 ≤ m.kind ∧ m.kind ≤ 3 ∧
      m.args.length ≤ 983 ∧ bit m.targets 0 = false) ∧
    (∀ v ∈ [(0 : Byte), 1, 2, 0xFF], ∃ s : State, s.host.ready = true ∧ s.rd OD.EXPERT_EN = 1 ∧ s.presenceHolds = true ∧ s.act.running = false ∧
      (v.toNat < 3 ∨ v = 0xFF)) ∧
    (∃ s : State, s.host.ready = true ∧ s.rd OD.EXPERT_EN = 1 ∧ s.presenceHolds = true ∧ s.act.running = true ∧ s.rd OD.DAMP_STATE = 6) ∧
    (∃ s : State, s.presenceHolds = false) ∧ (∃ s : State, s.act.running = true ∧ s.rd OD.DAMP_STATE ≠ 6) ∧
    (∃ (s : State) (p : Fin 4), s.rd OD.ROLE = 1 ∧ s.girder.upstream = some p.val) ∧
    (∀ fallback ∈ [0, 1], ∃ s : State, s.girder.holdover = some 9 ∧ s.rd OD.ROLE = 1 ∧ s.rd OD.REF_FALLBACK = fallback) :=
  let m (kind : Nat) : LaunchMsg := { count := 2, kind := kind, targets := 2 ^ 255 }
  ⟨⟨girderDev 1 5 {} [(OD.NODE_ADDR, 0, 254)], fr 3 0x20, m 1, by decide⟩,
   ⟨{ girderDev 1 5 {} [(OD.NODE_ADDR, 0, 255)] with clock.drone := 1 }, fr 3 0x20, m 3, by decide⟩,
   ⟨girderDev 1 5 {} [(OD.NODE_ADDR, 0, 255)], fr 3 0x20, m 2, by decide⟩,
   ⟨girderDev 1 5 {} [(OD.NODE_ADDR, 0, 255), (OD.DAMP_STATE, 0, 5)], fr 3 0x20, m 1, by decide⟩,
   ⟨{ girderDev 2 0 {} [] with girder.launchOpen := true, girder.launchCount := 9 }, fr 2 0x21, by decide⟩, ⟨girderDev 2 0 {} [], m 2, by decide⟩,
   fun v h => ⟨{ devWith [(OD.EXPERT_EN, 0, 1)] with lic.presentN := false }, by revert v; decide⟩,
   ⟨{ devWith [(OD.EXPERT_EN, 0, 1), (OD.DAMP_STATE, 0, 6)] with lic.presentN := false, act.running := true }, by decide⟩,
   ⟨dev, by decide⟩, ⟨{ dev with act.running := true }, by decide⟩, ⟨girderDev 1 5 {} [], 3, by decide⟩,
   fun fallback h => ⟨{ girderDev 1 6 {} [(OD.REF_FALLBACK, 0, fallback)] with girder.holdover := some 9 }, by revert fallback; decide⟩⟩

theorem witness_LaunchesRoleAndReferenceLoss_accepted : ∃ (s : State) (rx : GFrame) (m : LaunchMsg), s.rd OD.ROLE = 1 ∧
    s.rd OD.GIRDER_STATE = 5 ∧ (s.frameIn rx 0x20).2 = true ∧ bit m.targets (s.rd OD.NODE_ADDR) = true ∧ m.kind = 1 ∧
    s.clock.drone + 2 ≤ m.count ∧ m.slot < 2 ∧ m.mode < 2 ∧ s.tape.replaying = false ∧
    (s.requestCode { slot := m.slot, mode := m.mode, at_ := m.count, resumeAt := m.resumeAt, tickdiv := some m.tickdiv } s.nextDrone).1 = 0 ∧
    s.launchTickdivBad m.tickdiv = false :=
  ⟨{ imgDev imgDigest [(OD.A_STATE, 0, 3), (OD.ROLE, 0, 1), (OD.GIRDER_STATE, 0, 5), (OD.NODE_ADDR, 0, 255), (OD.PORT_STATE, 3, 2)] with
     girder.upstream := some 3 },
   fr 3 0x20, { count := 2, kind := 1, targets := 2 ^ 255 }, by decide +kernel⟩

def mailOf (i : List OdItem) : OdMsg := { bell := 7, tag := 7, items := i }

theorem mailOf_fits (i : OdItem) (h : i.data.length ≤ 8) : ∀ op, ((mailOf [i]).bytes op).length ≤ 1024 := by
  intro op
  simp [mailOf, OdMsg.bytes, itemBytes, headBytes, padMult, leBytes]
  omega

theorem witness_MailboxRequestsAreServed :
    (∃ s : State, s.host.ready = true ∧ s.host.done = true) ∧
    (∃ (s : State) (m : OdMsg), s.host.ready = true ∧ s.host.busy = false ∧ s.host.done = false ∧ s.dict.read = none ∧
      s.girder.forward = none ∧ s.dict.waiting = [] ∧ m.bell ≠ m.tag) ∧
    (∀ at_ ∈ [0, 2], ∃ (s : State) (m : OdMsg), s.host.ready = true ∧ s.host.busy = false ∧ s.host.done = false ∧ s.dict.read = none ∧
      s.girder.forward = none ∧ s.dict.waiting = [] ∧ m.bell = m.tag ∧ m.target = 0xFFFD ∧ (∀ op, (m.bytes op).length ≤ 1024) ∧ m.at_ = at_ ∧
      m.at_ < s.clock.drone + 2) ∧
    (∃ (s : State) (e : Entry) (data : List Byte), s.host.ready = true ∧ s.host.busy = false ∧ s.host.done = false ∧ s.dict.read = none ∧
      s.girder.forward = none ∧ s.dict.waiting = [] ∧ (∀ op, ((mailOf [{ index := e.idx, sub := e.sub, data := data }]).bytes op).length ≤ 1024) ∧
      findEntry e.idx e.sub = some e ∧ lenOk e data.length = true ∧ e.sel = .none ∧ e.app = .imm ∧ e.acc ≠ .ro ∧
      (∀ p ∈ effects s.nextDrone, p.1.key 0 ≠ e.key 0) ∧ e ≠ OD.REPLAY_CMD ∧ e ≠ OD.LAUNCH_CMD ∧
      s.writeStatus { entry := e, sub := e.sub, unit := 0, val := valueOf e data } = 0 ∧
      s.itemStatus { entry := e, sub := e.sub, unit := 0, val := valueOf e data } = 0 ∧
      s.ruleStatus ((s.recOd e e.sub 0 0 s.nextTick (bytesOf e (valueOf e data))).wr e 0 (valueOf e data))
        { entry := e, sub := e.sub, unit := 0, val := valueOf e data } = 0) ∧
    (∃ e : Entry, findEntry e.idx e.sub = some e ∧ lenOk e 2 = true ∧ e.acc = .ro) ∧
    (∃ (s : State) (e : Entry), findEntry e.idx e.sub = some e ∧ lenOk e 4 = true ∧ e.acc ≠ .ro ∧ e.expert = true ∧ s.rd OD.EXPERT_EN ≠ 1) ∧
    (∃ (s : State) (e : Entry), findEntry e.idx e.sub = some e ∧ lenOk e 1 = true ∧ s.rd OD.EXPERT_EN = 1 ∧ e.acc = .rwp ∧
      s.presenceHolds = false ∧ e ≠ OD.SEAL_EN ∧ e ≠ OD.DEBUG_UNLOCK) ∧
    (∃ (s : State) (e : Entry), findEntry e.idx e.sub = some e ∧ s.levelOk e = true) ∧
    (∃ i : OdItem, findEntry i.index i.sub = none ∧ i.sub ≠ 0) ∧
    (∃ i : OdItem, i.sub = 0 ∧ i.data = [] ∧ ∃ e ∈ OD.table, e.idx = i.index) :=
  ⟨⟨{ dev with host.done := true }, by decide⟩, ⟨dev, { bell := 1, tag := 2 }, by decide⟩,
   fun at_ h => ⟨{ dev with clock.drone := 1 }, { mailOf [] with at_ := at_ }, rfl, rfl, rfl, rfl, rfl, rfl, rfl, rfl,
     fun op => by simp [mailOf, OdMsg.bytes, headBytes, leBytes], rfl, by revert at_; decide⟩,
   ⟨dev, OD.JOIN_EN, [0], rfl, rfl, rfl, rfl, rfl, rfl, mailOf_fits _ (by decide), by decide +kernel, by decide, by decide, by decide, by decide,
    by decide +kernel, by decide, by decide, by decide +kernel, by decide +kernel, by decide +kernel⟩,
   ⟨OD.CORE_MHZ_RUN, by decide +kernel⟩, ⟨dev, OD.RATE_LIMIT, by decide +kernel⟩, ⟨devWith [(OD.EXPERT_EN, 0, 1)], OD.ROLE_OVERRIDE, by decide +kernel⟩,
   ⟨dev, OD.JOIN_EN, by decide +kernel⟩, ⟨{ index := 0x1000, sub := 0xFF }, by decide +kernel⟩,
   ⟨{ index := 0x6000, sub := 0 }, rfl, rfl, OD.JOIN_EN, by decide +kernel⟩⟩

theorem witness_TimedTransactionsCommitOrFail :
    (∃ s : State, s.clock.running = true ∧ ∀ x ∈ s.dict.txns, s.nextDrone < x.commitAt) ∧
    (∃ (s : State) (x : Txn) (e : Entry) (v : Nat), s.clock.running = true ∧ s.dict.txns = [x] ∧ x.commitAt ≤ s.nextDrone ∧
      findEntry e.idx e.sub = some e ∧ valueOf e (bytesOf e v) = v ∧ x.items = [({ entry := e, sub := e.sub, unit := 0, val := v } : Write).pack] ∧
      e.app = .imm ∧ (∀ p ∈ effects ((s.clock.drone + 2) % 2 ^ 64), p.1.key 0 ≠ e.key 0) ∧ e ≠ OD.REPLAY_CMD ∧ e ≠ OD.LAUNCH_CMD ∧
      { s.advanceTo s.nextBoundary with dict.txns := [] }.writeStatus { entry := e, sub := e.sub, unit := 0, val := v } = 0 ∧
      { s.advanceTo s.nextBoundary with dict.txns := [] }.itemStatus { entry := e, sub := e.sub, unit := 0, val := v } = 0) ∧
    (∃ (s : State) (x : Txn) (e : Entry) (v : Nat), s.clock.running = true ∧ s.dict.txns = [x] ∧ x.commitAt ≤ s.nextDrone ∧
      findEntry e.idx e.sub = some e ∧ valueOf e (bytesOf e v) = v ∧ x.items = [({ entry := e, sub := e.sub, unit := 0, val := v } : Write).pack] ∧
      e.expert = true ∧ s.rd OD.EXPERT_EN ≠ 1) :=
  let x (e : Entry) (v : Nat) : Txn := { items := [({ entry := e, sub := e.sub, unit := 0, val := v } : Write).pack], commitAt := 1 }
  ⟨⟨{ dev with dict.txns := [{ commitAt := 2 }] }, by decide⟩,
   ⟨{ dev with dict.txns := [x OD.JOIN_EN 1] }, x OD.JOIN_EN 1, OD.JOIN_EN, 1, by decide +kernel⟩,
   ⟨{ dev with dict.txns := [x OD.RATE_LIMIT 9] }, x OD.RATE_LIMIT 9, OD.RATE_LIMIT, 9, by decide +kernel⟩⟩

theorem witness_HostRegistersLinkAndForwarding :
    (∃ (ofs : Fin 16384) (bytes : List Byte), bytes.length ≤ 128 ∧ ofs.val + bytes.length ≤ 16384 ∧ ofs.val + bytes.length = 16384) ∧
    (∃ w : Fin 128, w.val % 4 ≠ 3) ∧ (∃ (s : State) (k : Fin 32) (w : Fin 128), w.val = 4 * k + 3 ∧ bit s.host.pba k = true) ∧
    (∀ held : Bool, ∃ (s : State) (v : Fin 32), s.host.spacing.contains v.val = true ∧ s.host.heldBack.contains v.val = held) ∧
    (∃ (rate : Fin 8) (width : Fin 32), 1 ≤ rate.val ∧ rate.val ≤ 6 ∧ width.val = 4) ∧
    (∃ (s : State) (rx : GFrame) (p : Nat), (s.frameIn rx 0x30).2 = true ∧ rx.dst.toNat ≠ s.rd OD.NODE_ADDR ∧
      SMap.get 0 s.girder.routes rx.dst.toNat = p + 1) ∧
    (∃ (s : State) (rx : GFrame) (m : OdMsg), (s.frameIn rx 0x30).2 = true ∧ rx.dst.toNat = s.rd OD.NODE_ADDR ∧ rx.src = 0 ∧
      s.rd OD.GIRDER_STATE = 5 ∧ s.host.ready = true ∧ s.dict.read = none ∧ s.girder.forward = none ∧ s.dict.waiting = [] ∧ m.at_ = 0) ∧
    (∃ (s : State) (rx : GFrame) (a : Fin 256) (tag : Word16) (op : OdOp), (s.frameIn rx 0x31).2 = true ∧ s.rd OD.ROLE ≠ 1 ∧
      s.girder.forward = some (a.val, tag.toNat, op) ∧ s.dict.waiting = []) ∧
    (∃ (s : State) (rx : GFrame) (p : Nat), (s.frameIn rx 0x31).2 = true ∧ s.rd OD.ROLE = 1 ∧ s.girder.upstream = some p) :=
  ⟨⟨16256, List.replicate 128 0, by decide +kernel⟩, ⟨126, by decide⟩, ⟨{ dev with host.pba := 2 ^ 31 }, 31, 127, by decide⟩,
   fun held => ⟨{ dev with host.spacing := [31], host.heldBack := if held then [31] else [] }, 31, by cases held <;> decide⟩,
   ⟨6, 4, by decide⟩,
   ⟨{ girderDev 1 5 {} [] with girder.routes := [(254, 3)] }, { fr 3 0x30 with dst := 254 }, 2, by decide⟩,
   ⟨girderDev 1 5 {} [(OD.NODE_ADDR, 0, 3)], { fr 3 0x30 with dst := 3 }, mailOf [], by decide⟩,
   ⟨{ girderDev 2 0 {} [] with girder.forward := some (255, 9, .read) }, fr 2 0x31, 255, 9, .read, by decide⟩,
   ⟨girderDev 1 5 {} [], fr 2 0x31, 3, by decide⟩⟩

theorem witness_LicencesInstallAndRemove :
    (∃ (s : State) (bytes : List Byte), s.host.ready = true ∧ s.lic.checking = false ∧ 1 ≤ bytes.length ∧ bytes.length ≤ 1000 ∧
      s.rd OD.LIC_OFS + bytes.length ≤ 1732 ∧ s.rd OD.LIC_OFS + bytes.length = 1732) ∧
    (∃ (s : State) (bytes : List Byte), s.host.ready = true ∧ s.lic.checking = false ∧ 1 ≤ bytes.length ∧ bytes.length ≤ 1000 ∧
      1732 < s.rd OD.LIC_OFS + bytes.length) ∧
    (∃ s : State, s.lic.checking = true ∧ ¬∀ i, i < 1732 → SMap.get none s.lic.staged i ≠ none) :=
  ⟨⟨devWith [(OD.LIC_OFS, 0, 1731)], [1], by decide⟩, ⟨devWith [(OD.LIC_OFS, 0, 1731)], [1, 2], by decide⟩,
   ⟨{ dev with lic.checking := true }, rfl, fun h => h 0 (by decide) rfl⟩⟩

/-- A device whose host has expert access and presence. -/
def expertDev (l : List (Entry × Nat × Nat)) : State := { devWith ((OD.EXPERT_EN, 0, 1) :: l) with lic.presentN := false }

theorem witness_PresenceFusesAndDebugPort :
    (∃ s : State, s.clock.running = true) ∧ (∃ s : State, s.clock.running = false) ∧ (∃ s : State, s.lic.windowEnd = none) ∧
    (∃ s : State, s.lic.windowEnd ≠ none) ∧ (∃ s : State, s.host.ready = true) ∧ (∃ s : State, s.lic.sealIntact = true) ∧
    (∃ s : State, s.lic.sealIntact = false) ∧
    (∃ (s : State) (v : Nat), s.host.ready = true ∧ s.rd OD.EXPERT_EN = 1 ∧ s.presenceHolds = true ∧ s.boot.fuseBusy = none ∧
      (s.fuse 4864 4 ||| v % 16) % 4 ≠ 3) ∧
    (∃ (s : State) (v : Nat), s.host.ready = true ∧ s.rd OD.EXPERT_EN = 1 ∧ s.presenceHolds = true ∧ s.boot.fuseBusy = none ∧
      (s.fuse 4864 4 ||| v % 16) % 4 = 3) ∧
    (∃ (s : State) (n : Nat), s.host.ready = true ∧ s.rd OD.EXPERT_EN = 1 ∧ s.presenceHolds = true ∧ s.boot.fuseBusy = none ∧
      s.svnFloor ≤ n ∧ n ≤ 64 ∧ n ≤ s.rd OD.FW_SVN_RUN ∧ n = 64) ∧
    (∃ (s : State) (n : Nat), s.host.ready = true ∧ s.rd OD.EXPERT_EN = 1 ∧ s.presenceHolds = true ∧ s.boot.fuseBusy = none ∧
      s.rd OD.FW_SVN_RUN < n) ∧
    (∃ s : State, s.presenceHolds = false) ∧ (∃ s : State, s.boot.fuseBusy = some (5, 4)) ∧
    (∃ s : State, s.host.ready = true ∧ s.rd OD.EXPERT_EN = 1 ∧ s.presenceHolds = true ∧ s.fuse 4992 1 = 0 ∧ s.boot.unlocked = false) ∧
    (∃ s : State, s.fuse 4992 1 ≠ 0) ∧
    (∃ s : State, s.boot.unlocked = true ∧ (s.faults.safe = true ∨ s.rd OD.DAMP_STATE = 6 ∨ (s.act.running = false ∧ s.rd OD.DAMP_STATE = 0))) ∧
    (∃ s : State, ¬(s.faults.safe = true ∨ s.rd OD.DAMP_STATE = 6 ∨ (s.act.running = false ∧ s.rd OD.DAMP_STATE = 0))) :=
  ⟨⟨dev, rfl⟩, ⟨State.reset, rfl⟩, ⟨dev, rfl⟩, ⟨{ dev with lic.windowEnd := some 9 }, by decide⟩, ⟨dev, rfl⟩, ⟨dev, rfl⟩,
   ⟨{ dev with lic.sealIntact := false }, rfl⟩, ⟨expertDev [], 14, by decide +kernel⟩, ⟨expertDev [], 3, by decide +kernel⟩,
   ⟨expertDev [(OD.FW_SVN_RUN, 0, 64)], 64, by decide +kernel⟩, ⟨expertDev [(OD.FW_SVN_RUN, 0, 63)], 64, by decide +kernel⟩, ⟨dev, by decide⟩,
   ⟨{ dev with boot.fuseBusy := some (5, 4) }, rfl⟩, ⟨expertDev [], by decide +kernel⟩, ⟨{ dev with boot.otp := BitVec.ofNat 8192 (2 ^ 4992) }, by decide +kernel⟩,
   ⟨{ dev with boot.unlocked := true }, by decide⟩, ⟨{ dev with act.running := true }, by decide⟩⟩

theorem witness_ClocksMuxesAndGates :
    (∃ (s : State) (k : Fin 42), 10 ≤ k.val ∧ s.clock.running = true) ∧
    (∃ (s : State) (k : Fin 42), k.val < 10 ∧ s.clock.running = true ∧ bit (s.rd OD.PLL_LOCK) k = true ∧
      ¬(k.val ≤ 4 ∨ (s.act.running = true ∧ (k.val ≤ 7 ∨ (k.val = 8 ∧ s.rd OD.ROLE ≠ 0))))) ∧
    (∃ (s : State) (k : Fin 42), k.val < 10 ∧ s.clock.running = true ∧ bit (s.rd OD.PLL_LOCK) k = true ∧
      (k.val ≤ 4 ∨ (s.act.running = true ∧ (k.val ≤ 7 ∨ (k.val = 8 ∧ s.rd OD.ROLE ≠ 0))))) ∧
    (∃ s : State, s.clock.running = true ∧ s.girder.upstream = none) ∧
    (∃ (s : State) (sel : Byte) (div : Word16), s.host.ready = true ∧ s.rd OD.EXPERT_EN = 1 ∧ 1 ≤ div.toNat ∧ div.toNat ≤ 4096 ∧
      ∃ f, s.clkmonKhz sel.toNat = some f ∧ f ≤ 250000 * div.toNat) ∧
    (∃ (s : State) (sel : Byte) (div : Word16), s.host.ready = true ∧ s.rd OD.EXPERT_EN = 1 ∧
      ¬(1 ≤ div.toNat ∧ div.toNat ≤ 4096 ∧ ∃ f, s.clkmonKhz sel.toNat = some f ∧ f ≤ 250000 * div.toNat)) ∧
    (∃ (s : State) (b : Nat), b < 8256 ∧ s.faults.safe = true ∧ s.faults.safeDrained = true ∧ SMap.get false s.power.gates b = false) ∧
    (∃ (s : State) (b : Nat), b < 8192 ∧ s.act.loadDone = true ∧ (s.core b).loaded = false) ∧
    (∃ (s : State) (b : Nat), 8192 ≤ b ∧ b < 8256 ∧ s.quadIdle (b - 8192) = true) ∧
    (∃ (s : State) (b : Nat), 8256 ≤ b ∧ b < 8272 ∧ ∀ l, l / 4 = b - 8256 → s.rd OD.LANE_EN l % 4 = 0) ∧
    (∃ (s : State) (b : Nat), b < 8192 ∧ s.faults.safe = false ∧ s.act.loadDone = false) :=
  ⟨⟨dev, 41, by decide⟩, ⟨devWith [(OD.PLL_LOCK, 0, 0x3FF)], 5, by decide⟩, ⟨devWith [(OD.PLL_LOCK, 0, 0x3FF)], 4, by decide⟩, ⟨dev, by decide⟩,
   ⟨expertDev [], 13, 4, by decide, by decide, by decide, by decide, 1000000, by decide⟩,
   ⟨expertDev [], 13, 3, by decide, by decide, fun ⟨_, _, f, hf, h⟩ => by
     have : f = 1000000 := by
       have h1 : (expertDev []).clkmonKhz (13 : Byte).toNat = some 1000000 := by decide
       exact (Option.some.inj (h1.symm.trans hf)).symm
     subst this; revert h; decide⟩,
   ⟨{ dev with faults.safe := true, faults.safeDrained := true }, 8255, by decide⟩, ⟨{ dev with act.loadDone := true }, 8191, by decide⟩,
   ⟨deepDev { quads := [(63, false, 0)] } {} [], 8255, by decide⟩, ⟨dev, 8271, by decide, by decide, fun _ _ => rfl⟩, ⟨dev, 0, by decide⟩⟩

def powerDev (l : List (Entry × Nat × Nat)) (d : DieSt) : State := { devWith l with power.dies := [(3, d)] }

theorem witness_RailsDroopPowerAndHeat :
    (∃ s : State, 3 ≤ s.boot.stage) ∧
    (∀ n ∈ [2, 3], ∃ (s : State) (d : Fin 4), 3 ≤ s.boot.stage ∧ (s.die d).frozen = false ∧ (s.die d).retries = n) ∧
    (∃ (s : State) (d : Fin 4), 3 ≤ s.boot.stage ∧ 850 ≤ s.rd OD.VDD_SET d) ∧
    (∀ busy : Bool, ∃ (s : State) (d : Fin 4), 3 ≤ s.boot.stage ∧ s.rd OD.VDD_SET d < 850 ∧ (s.die d).frozen = false ∧ (s.die d).avsBusy = busy) ∧
    (∃ s : State, s.host.ready = true ∧ s.rd OD.EXPERT_EN = 1) ∧
    (∃ (s : State) (m n : Nat) (rest : List (Nat × Nat)), sortBy Prod.snd s.power.hints = (m, n) :: rest ∧ s.clock.running = true) ∧
    (∃ (s : State) (m c : Nat) (rest : List (Nat × Nat)), sortBy Prod.snd s.power.boost = (m, c) :: rest ∧ bit m 3 = true ∧
      ¬∃ b ∈ rest, bit b.1 3 = true) ∧
    (∃ (s : State) (mw : Word32), s.boot.stage = 9 ∧ s.clock.running = true ∧
      s.rd OD.PCAP * 1000 * ((mw.toNat :: s.power.hist).take (s.rd OD.CAP_WIN)).length < ((mw.toNat :: s.power.hist).take (s.rd OD.CAP_WIN)).foldl (· + ·) 0 ∧
      s.rd OD.CAP_WIN ≤ s.power.sinceMove + 1 ∧ s.power.capDemand = 16) ∧
    (∃ (s : State) (mw : Word32), s.boot.stage = 9 ∧ s.clock.running = true ∧
      20 * ((mw.toNat :: s.power.hist).take (s.rd OD.CAP_WIN)).foldl (· + ·) 0 < 19 * (s.rd OD.PCAP * 1000 * ((mw.toNat :: s.power.hist).take (s.rd OD.CAP_WIN)).length) ∧
      s.rd OD.CAP_WIN ≤ s.power.sinceMove + 1 ∧ s.rd OD.CAP_WIN ≤ s.power.below + 1 ∧ 0 < s.power.capDemand) ∧
    (∃ (s : State) (mw : Word32), s.boot.stage = 9 ∧ s.clock.running = true ∧
      s.rd OD.PCAP * 1000 * ((mw.toNat :: s.power.hist).take (s.rd OD.CAP_WIN)).length < ((mw.toNat :: s.power.hist).take (s.rd OD.CAP_WIN)).foldl (· + ·) 0 ∧
      s.rd OD.THROTTLE_LVL = 17 ∧ s.rd OD.CAP_WIN ≤ s.power.sinceUnmet + 1) ∧
    (∃ (s : State) (readings : List Int), (Instr.thermSample readings).wf = true ∧ s.clock.running = true ∧ s.power.tripped = false ∧ s.power.hot = [] ∧
      (∀ r ∈ readings, r < 460) ∧ s.rd OD.THERM_STATE = 0 ∧ (s.rd OD.THERM_THR : Int) * 4 ≤ hottest readings) ∧
    (∃ (s : State) (readings : List Int) (i : Nat), (Instr.thermSample readings).wf = true ∧ s.clock.running = true ∧ s.power.tripped = false ∧
      i < 68 ∧ 460 ≤ readings.getD i 0 ∧ 3 ≤ SMap.get 0 s.power.hot i ∧ ∀ r, (s.errUnit pkgUnit).primary = some r → r.sev ≠ 3) ∧
    (∃ s : State, s.rd OD.THERM_STATE = 1 ∧ ((s.rd OD.THERM_THR : Int) - 5) * 4 < s.hottestNow ∧ s.hottestNow < (s.rd OD.THERM_THR : Int) * 4) ∧
    (∃ s : State, s.rd OD.THERM_STATE = 1 ∧ (s.rd OD.THERM_THR : Int) * 4 ≤ s.hottestNow) ∧
    (∃ s : State, s.rd OD.THERM_STATE = 1 ∧ s.hottestNow ≤ ((s.rd OD.THERM_THR : Int) - 5) * 4) ∧
    (∃ (s : State) (d : Fin 4), s.clock.running = true ∧ s.power.tripped = false ∧ (∀ k ∈ s.stretchGroup d, k < 4) ∧ 2 ≤ (s.stretchGroup d).length) ∧
    (∃ (s : State) (d : Fin 4), (s.die d).stretch = none) ∧
    (∃ (s : State) (d : Fin 4), (s.die d).stretch = some 5 ∧ ∃ k ∈ s.stretchGroup d, k ≠ d ∧ (s.die k).tripped = true) ∧
    (∃ (s : State) (d : Fin 4), (s.die d).stretch = some 5 ∧ s.stretchGroup d = [d.val]) :=
  ⟨⟨dev, by decide⟩, fun n h => ⟨powerDev [] { retries := n }, 3, by revert n; decide⟩, ⟨powerDev [(OD.VDD_SET, 3, 850)] {}, 3, by decide⟩,
   fun busy => ⟨powerDev [(OD.VDD_SET, 3, 849)] { avsBusy := busy }, 3, by revert busy; decide⟩, ⟨expertDev [], by decide⟩,
   ⟨{ dev with power.hints := [(8, 9), (1, 7)] }, 1, 7, [(8, 9)], by decide⟩, ⟨{ dev with power.boost := [(8, 9)] }, 8, 9, [], by decide⟩,
   ⟨{ devWith [(OD.CAP_WIN, 0, 16)] with power.sinceMove := 15, power.capDemand := 16 }, 90001, by decide⟩,
   ⟨{ devWith [(OD.CAP_WIN, 0, 16)] with power.sinceMove := 15, power.below := 15, power.capDemand := 1 }, 85499, by decide⟩,
   ⟨{ devWith [(OD.CAP_WIN, 0, 16), (OD.THROTTLE_LVL, 0, 17)] with power.sinceUnmet := 15 }, 90001, by decide⟩,
   ⟨dev, List.replicate 67 0 ++ [420], by decide +kernel⟩,
   ⟨{ dev with power.hot := [(67, 3)] }, List.replicate 67 0 ++ [460], 67, by decide +kernel, by decide, by decide, by decide, by decide, by decide,
    fun _ h => nomatch h⟩,
   ⟨devWith [(OD.THERM_STATE, 0, 1), (OD.TJ_HUB, 0, 401)], by decide⟩, ⟨devWith [(OD.THERM_STATE, 0, 1), (OD.TJ_HUB, 0, 420)], by decide⟩,
   ⟨devWith [(OD.THERM_STATE, 0, 1), (OD.TJ_DIE, 0, 0xFFFFFFFF), (OD.TJ_HUB, 0, 400)], by decide⟩,
   ⟨{ dev with act.content.stretchGroups := [[3, 1]] }, 1, by decide⟩, ⟨dev, 3, by decide⟩,
   ⟨{ dev with act.content.stretchGroups := [[3, 1]], power.dies := [(1, { tripped := true }), (3, { stretch := some 5 })] }, 3, by decide, 1, by decide⟩,
   ⟨powerDev [] { stretch := some 5 }, 3, by decide⟩⟩

theorem witness_ErrorsClearAndPluckSnapshots :
    (∃ s : State, s.host.ready = true) ∧
    (∃ (s : State) (u : Word16) (r : ErrRec), u ≠ 0xFFFF ∧ (s.errUnit u.toNat).primary = some r ∧ r.sev = 1 ∧ r.auto ≠ 0) ∧
    (∃ (s : State) (u : Word16), u ≠ 0xFFFF ∧ ∀ r, (s.errUnit u.toNat).primary = some r → r.sev ≠ 1 ∨ r.auto = 0) ∧
    (∃ s : State, s.boot.stage ≠ 9) ∧ (∀ safe : Bool, ∃ s : State, s.boot.stage = 9 ∧ s.faults.safe = safe) ∧
    (∀ n ∈ [0, 1, 5, 6], ∃ s : State, s.boot.stage = 9 ∧ s.faults.safe = false ∧ s.rd OD.DAMP_STATE = n) ∧
    (∃ s : State, s.faults.safe = true ∧ s.faults.safeDrained = false ∧ s.drained = false ∧ s.clock.running = true) ∧
    (∃ s : State, s.faults.safe = true ∧ s.faults.safeDrained = false ∧ s.drained = true) ∧
    (∃ s : State, s.faults.safeDrained = true) ∧
    (∃ s : State, s.host.ready = true ∧ bit (s.rd OD.PLUCK_SRC_EN) 2 = true) ∧
    (∀ r : Bool, ∃ s : State, s.clock.running = true ∧ (r = true ↔ s.rd OD.PLUCK_IN_EDGE = 0) ∧ bit (s.rd OD.PLUCK_SRC_EN) 4 = true) ∧
    (∃ s : State, s.faults.pluck = []) ∧ (∃ s : State, s.faults.pluck = [(s.clock.cycle + 27, 8, 0)]) ∧
    (∃ (s : State) (lc src ec : Nat) (rest : List (Nat × Nat × Nat)), s.faults.pluck = (lc, src, ec) :: rest ∧ rest ≠ [] ∧
      (∃ c, s.faults.lastLatch = some c ∧ lc ≤ c + 64) ∧
      s.faults.lastBank < 2 ∧ (s.bank s.faults.lastBank).taken = true) ∧
    (∃ (s : State) (lc src ec : Nat), s.faults.pluck = [(lc, src, ec)] ∧ (¬∃ c, s.faults.lastLatch = some c ∧ lc ≤ c + 64) ∧
      (s.bank 0).taken = true ∧ (s.bank 1).taken = true) ∧
    (∃ (s : State) (lc src ec : Nat), s.faults.pluck = [(lc, src, ec)] ∧ (¬∃ c, s.faults.lastLatch = some c ∧ lc ≤ c + 64) ∧
      (s.bank 0).taken = true ∧ (s.bank 1).taken = false) ∧
    (∃ (s : State) (b : Fin 2), (s.bank b).taken = true) ∧ (∃ (s : State) (b : Fin 2), (s.bank b).taken = false) :=
  let r : ErrRec := { code := 1, sev := 1, raised := 1, level := 0, auto := 31 }
  ⟨⟨dev, rfl⟩, ⟨{ dev with faults.units := [(0xFFFE, { primary := some r })] }, 0xFFFE, r, by decide⟩, ⟨dev, 0, by decide, (fun _ h => nomatch h)⟩,
   ⟨State.reset, by decide⟩, fun safe => ⟨{ dev with faults.safe := safe }, rfl, rfl⟩,
   fun n h => ⟨devWith [(OD.DAMP_STATE, 0, n)], by revert n; decide⟩,
   ⟨{ dev with faults.safe := true, decisions := [(3, { flights := [inFlight] })] }, by decide⟩, ⟨{ dev with faults.safe := true }, by decide⟩,
   ⟨{ dev with faults.safeDrained := true }, rfl⟩, ⟨dev, by decide⟩,
   fun r => ⟨devWith [(OD.PLUCK_SRC_EN, 0, 16), (OD.PLUCK_IN_EDGE, 0, b2n (!r))], by revert r; decide⟩, ⟨dev, rfl⟩,
   ⟨{ dev with faults.pluck := [(27, 8, 0)] }, by decide⟩,
   ⟨{ dev with faults.pluck := [(74, 4, 0), (80, 8, 0)], faults.lastLatch := some 10, faults.bank0 := { taken := true } }, 74, 4, 0, [(80, 8, 0)],
    by decide, by decide, ⟨10, by decide⟩, by decide⟩,
   ⟨{ dev with faults.pluck := [(75, 4, 0)], faults.lastLatch := some 10, faults.bank0 := { taken := true }, faults.bank1 := { taken := true } }, 75, 4, 0,
    by decide, fun ⟨c, h, g⟩ => by cases h; revert g; decide, by decide⟩,
   ⟨{ dev with faults.pluck := [(75, 4, 0)], faults.bank0 := { taken := true } }, 75, 4, 0, by decide, (fun ⟨_, h, _⟩ => nomatch h), by decide⟩,
   ⟨{ dev with faults.bank1 := { taken := true } }, 1, by decide⟩, ⟨dev, 1, by decide⟩⟩

/-- A device with a fence of position 15 of cluster 255 in repair. -/
def repairDev (r : Repair) : State := { dev with boot.fuses := BitVec.ofNat 8192 (2 ^ 104), faults.repairs := [{ r with core := 8175 }], act.content.cores := [{ x := 63, y := 63 }] }

/-- R481: a window that ends at SAFE entry flags the records of its frames that leave after it, and its event is entered once. -/
theorem test_repair_flag_after_window_ends :
    let s := (repairDev { core := 8175, detected := 9, mask := 1 }).endRepairs 40
    s.repairing 0 40 100 = true ∧ s.repairing 1 40 100 = false ∧ (s.faults.repairs.all fun r => r.sealed) = true ∧
      ((s.idleRepairs 40).repairing 0 40 100 = true ∧ (s.idleRepairs 40).repairing 0 41 100 = false) ∧
      ((s.idleRepairs 40).repairOf 8175).any (fun r => r.idle) = true := by decide

theorem witness_RepairWindowsAndStandIns :
    (∀ started : Bool, ∃ (s : State) (p : Nat) (r : Repair), p < 8192 ∧ p % 32 < 16 ∧ s.repairOf p = some r ∧ s.faults.safe = false ∧
      r.started = started ∧ r.loaded = none ∧ s.loadsRunning < 16) ∧
    (∃ (s : State) (p : Nat) (r : Repair), p < 8192 ∧ p % 32 < 16 ∧ s.repairOf p = some r ∧ s.faults.safe = false ∧ r.started = false ∧
      16 ≤ s.loadsRunning) ∧
    (∃ (s : State) (p : Nat) (r : Repair) (i : CoreImage), p < 8192 ∧ p % 32 < 16 ∧ s.repairOf p = some r ∧ s.faults.safe = false ∧
      r.started = true ∧ r.loaded = none ∧ s.imageOf p = some i) ∧
    (∀ mask ∈ [0, 4], ∃ (s : State) (p : Nat) (r : Repair) (b : Nat), p < 8192 ∧ p % 32 < 16 ∧ s.repairOf p = some r ∧ s.faults.safe = false ∧
      r.loaded = some b ∧ b < s.nextBoundary ∧ s.clock.running = true ∧ r.mask = mask ∧ s.deepCluster (pcidCluster p) = false) :=
  ⟨fun started => ⟨repairDev { core := 0, detected := 9, mask := 1, started := started }, 8175, { core := 8175, detected := 9, mask := 1, started := started },
     by revert started; decide⟩,
   ⟨{ dev with faults.repairs := { core := 8175, detected := 9, mask := 1 } :: List.replicate 16 { core := 5, detected := 9, mask := 1, started := true } },
    8175, { core := 8175, detected := 9, mask := 1 }, by decide⟩,
   ⟨repairDev { core := 0, detected := 9, mask := 1, started := true }, 8175, { core := 8175, detected := 9, mask := 1, started := true },
    { x := 63, y := 63 }, by decide +kernel⟩,
   fun mask h => ⟨repairDev { core := 0, detected := 9, mask := mask, started := true, loaded := some 59 }, 8175,
     { core := 8175, detected := 9, mask := mask, started := true, loaded := some 59 }, 59, by revert mask; decide⟩⟩

/-! A signature that verifies, by construction: the key's root is the one the signature leads to. No hash is evaluated. -/

theorem get_putRange {α : Type} [DecidableEq α] (d : α) : ∀ (xs : List α) (m : SMap α) (lo q : Nat),
    SMap.get d (SMap.putRange d m lo xs) q = if lo ≤ q ∧ q < lo + xs.length then xs.getD (q - lo) d else SMap.get d m q
  | [], m, lo, q => by
    rw [if_neg (by rw [List.length_nil]; omega)]; rfl
  | x :: xs, m, lo, q => by
    rw [SMap.putRange, get_putRange d xs, SMap.get_set, List.length_cons]
    by_cases h : lo = q
    · subst h; rw [if_neg (by omega), if_pos (by omega)]; simp
    · by_cases h2 : lo + 1 ≤ q ∧ q < lo + 1 + xs.length
      · rw [if_pos h2, if_pos (by omega), show q - lo = q - (lo + 1) + 1 by omega, List.getD_cons_succ]
      · rw [if_neg h2, if_neg (by omega), if_neg (by omega)]

theorem range_putRange {α : Type} [DecidableEq α] (d : α) (xs : List α) : ∀ n lo, lo + n ≤ xs.length →
    SMap.range d (SMap.putRange d [] 0 xs) lo n = (xs.drop lo).take n
  | 0, lo, _ => by simp [SMap.range]
  | n + 1, lo, h => by
    have hx : lo < xs.length := by omega
    rw [SMap.range, range_putRange d xs n (lo + 1) (by omega), get_putRange, if_pos (by omega), List.drop_eq_getElem_cons hx,
      List.take_succ_cons, Nat.sub_zero]
    simp [hx]

theorem beBytes_length (n v : Nat) : (beBytes n v).length = n := by
  have h : ∀ n v, (leBytes n v).length = n := by
    intro n
    induction n with
    | zero => intro v; rfl
    | succ n ih => intro v; simp [leBytes, ih]
  simp [beBytes, h]

theorem sha256_length (bs : List Byte) : (sha256 bs).length = 32 := by simp [sha256, beBytes_length]

theorem lmsRoot_length (I : List Byte) : ∀ n node path t, t.length = 32 → (lmsRoot I n node path t).length = 32
  | 0, _, _, _, h => h
  | n + 1, _, _, _, _ => by
    refine lmsRoot_length I n _ _ _ ?_
    split <;> exact sha256_length _

theorem leNat_lt : ∀ bs : List Byte, leNat bs < 2 ^ (8 * bs.length)
  | [] => by decide
  | b :: bs => by
    have h := leNat_lt bs
    have hb := b.isLt
    rw [leNat, List.length_cons, Nat.mul_add, Nat.pow_add]
    omega

/-- A signature of zeros with the type codes of R407. -/
def zeroSig : List Byte := List.replicate 4 0 ++ beBytes 4 4 ++ List.replicate 1120 0 ++ beBytes 4 7 ++ List.replicate 480 0

/-- The root it leads to over a message, for a key whose identifier is zero. -/
@[irreducible] def rootOf (msg : List Byte) : List Byte :=
  let I := List.replicate 16 0
  lmsRoot I 15 (2 ^ 15 + beNat (zeroSig.take 4)) ((zeroSig.drop 1132).take 480)
    (sha256 (I ++ beBytes 4 (2 ^ 15 + beNat (zeroSig.take 4)) ++ beBytes 2 0x8282 ++
      otsCandidate I (beNat (zeroSig.take 4)) ((zeroSig.drop 8).take 32) ((zeroSig.drop 40).take 1088) msg))

theorem rootOf_length (msg : List Byte) : (rootOf msg).length = 32 := by
  rw [rootOf]
  exact lmsRoot_length _ _ _ _ _ (sha256_length _)

/-- The key with that root, and the message signed under it. -/
def keyHead : List Byte := beBytes 4 7 ++ beBytes 4 4 ++ List.replicate 16 0
def keyOf (msg : List Byte) : List Byte := keyHead ++ rootOf msg
@[irreducible] def signed (msg : List Byte) : List Byte := msg ++ (keyOf msg ++ zeroSig)

theorem keyOf_length (msg : List Byte) : (keyOf msg).length = 56 := by
  rw [keyOf, List.length_append, rootOf_length]; rfl

theorem zeroSig_length : zeroSig.length = 1612 := by decide +kernel

theorem keyOf_take (msg : List Byte) (lo n : Nat) (h : lo + n ≤ 24) : ((keyOf msg).drop lo).take n = (keyHead.drop lo).take n := by
  rw [keyOf, List.drop_append_of_le_length (by change lo ≤ 24; omega), List.take_append_of_le_length (by rw [List.length_drop]; change n ≤ 24 - lo; omega)]

theorem keyOf_root (msg : List Byte) : ((keyOf msg).drop 24).take 32 = rootOf msg := by
  rw [keyOf, List.drop_left' (by rfl), List.take_of_length_le (Nat.le_of_eq (rootOf_length msg))]

theorem keyOf_types (msg : List Byte) : lmsTypes (keyOf msg) zeroSig = true := by
  have h1 := keyOf_take msg 0 4 (by decide)
  rw [List.drop_zero] at h1
  rw [lmsTypes, h1, keyOf_take msg 4 4 (by decide)]
  decide +kernel

theorem signed_verifies (msg : List Byte) : lmsVerify (keyOf msg) zeroSig msg = true := by
  have hq : beNat (zeroSig.take 4) < 2 ^ 15 := by decide +kernel
  have hI : ((keyOf msg).drop 8).take 16 = List.replicate 16 0 := (keyOf_take msg 8 16 (by decide)).trans (by decide +kernel)
  rw [lmsVerify, keyOf_types, keyOf_root, hI, decide_eq_true hq, Bool.true_and, Bool.true_and]
  rw [rootOf]
  exact decide_eq_true rfl

/-- Fuses that hold the hash of that key at a place, and nothing else. -/
@[irreducible] def fusedKey (lo : Nat) (msg : List Byte) : BitVec 8192 := BitVec.ofNat 8192 (2 ^ lo * leNat (sha256 (keyOf msg)) + 0)

theorem keyHash_lt (msg : List Byte) : leNat (sha256 (keyOf msg)) < 2 ^ 256 := by
  have h := leNat_lt (sha256 (keyOf msg))
  rw [sha256_length] at h
  exact h

theorem fusedKey_toNat {lo : Nat} (h : lo + 256 ≤ 8192) (msg : List Byte) :
    (fusedKey lo msg).toNat = 2 ^ lo * leNat (sha256 (keyOf msg)) := by
  rw [fusedKey, BitVec.toNat_ofNat, Nat.add_zero, Nat.mod_eq_of_lt]
  refine Nat.lt_of_lt_of_le (Nat.mul_lt_mul_of_pos_left (keyHash_lt msg) (Nat.two_pow_pos lo)) ?_
  rw [← Nat.pow_add]
  exact Nat.pow_le_pow_right (by decide) h

theorem fusedKey_bits {lo : Nat} (h : lo + 256 ≤ 8192) (msg : List Byte) :
    bits (fusedKey lo msg).toNat lo 256 = leNat (sha256 (keyOf msg)) := by
  rw [fusedKey_toNat h, bits, Nat.shiftRight_eq_div_pow, Nat.mul_div_cancel_left _ (Nat.two_pow_pos lo), Nat.mod_eq_of_lt (keyHash_lt msg)]

theorem fusedKey_other {lo p n : Nat} (h : lo + 256 ≤ 8192) (msg : List Byte) (ho : p + n ≤ lo ∨ lo + 256 ≤ p) :
    bits (fusedKey lo msg).toNat p n = 0 := by
  apply Nat.eq_of_testBit_eq
  intro i
  rw [fusedKey_toNat h]
  simp only [bits, Nat.testBit_mod_two_pow, Nat.testBit_shiftRight, Nat.zero_testBit, Nat.testBit_two_pow_mul]
  by_cases hi : i < n
  · rcases ho with ho | ho
    · have : ¬lo ≤ p + i := by omega
      simp [this]
    · have hb : Nat.testBit (leNat (sha256 (keyOf msg))) (p + i - lo) = false :=
        Nat.testBit_lt_two_pow (Nat.lt_of_lt_of_le (keyHash_lt msg) (Nat.pow_le_pow_right (by decide) (by omega)))
      simp [hb]
  · simp [hi]

theorem signed_length (msg : List Byte) (h : msg.length = 64) : (signed msg).length = 1732 := by
  rw [signed, List.length_append, List.length_append, h, keyOf_length, zeroSig_length]

theorem signed_part (msg : List Byte) (h : msg.length = 64) :
    ((signed msg).drop 64).take 56 = keyOf msg ∧ ((signed msg).drop 120).take 1612 = zeroSig ∧
      ∀ lo n, lo + n ≤ 64 → ((signed msg).drop lo).take n = (msg.drop lo).take n := by
  refine ⟨?_, ?_, fun lo n hl => ?_⟩
  · rw [signed, List.drop_left' h, List.take_left' (keyOf_length msg)]
  · rw [signed, ← List.append_assoc, List.drop_left' (by rw [List.length_append, h, keyOf_length]), List.take_of_length_le (Nat.le_of_eq zeroSig_length)]
  · rw [signed, List.drop_append_of_le_length (by omega), List.take_append_of_le_length (by rw [List.length_drop]; omega)]

/-- A licence for a bench part of serial 0, and an image of no body, both of 64 bytes before the key. -/
def licHead (clk : Nat) : List Byte :=
  leBytes 4 0x4C494358 ++ leBytes 2 1 ++ List.replicate 18 0 ++ leBytes 2 clk ++ leBytes 2 90 ++ leBytes 1 32 ++ List.replicate 35 0
@[irreducible] def fwHead : List Byte := leBytes 4 0x57464B44 ++ leBytes 4 1732 ++ List.replicate 4 0 ++ leBytes 1 7 ++ List.replicate 51 0

/-- A device with that licence staged, and one with that image received. -/
def licDev (clk : Nat) : State :=
  { dev with lic.checking := true, lic.staged := SMap.putRange none [] 0 ((signed (licHead clk)).map some),
             boot.fuses := fusedKey 4608 (licHead clk) }
def fwDev : State :=
  { dev with boot.stage := 5, boot.image := SMap.putRange 0 [] 0 (signed fwHead), boot.received := 1732,
             boot.fuses := fusedKey 3840 fwHead }

theorem licHead_length (clk : Nat) : (licHead clk).length = 64 := by
  have h : ∀ n v, (leBytes n v).length = n := fun n v => by have := beBytes_length n v; rwa [beBytes, List.length_reverse] at this
  simp [licHead, h]

theorem fwHead_length : fwHead.length = 64 := by decide +kernel

theorem licDev_bytes (clk lo n : Nat) (h : lo + n ≤ 1732) : (licDev clk).licBytes lo n = ((signed (licHead clk)).drop lo).take n := by
  have e : (licDev clk).lic.staged = SMap.putRange none [] 0 ((signed (licHead clk)).map some) := rfl
  rw [State.licBytes, e, range_putRange _ _ _ _ (by rw [List.length_map, signed_length _ (licHead_length clk)]; exact h)]
  simp [← List.map_drop, ← List.map_take, List.map_map, Function.comp_def]

theorem licDev_field (clk lo n : Nat) (h : lo + n ≤ 64) : (licDev clk).licField lo n = leNat (((licHead clk).drop lo).take n) := by
  rw [State.licField, licDev_bytes _ _ _ (by omega), (signed_part _ (licHead_length clk)).2.2 lo n h]

theorem fwDev_bytes (lo n : Nat) (h : lo + n ≤ 1732) : fwDev.fwBytes lo n = ((signed fwHead).drop lo).take n := by
  have e : fwDev.boot.image = SMap.putRange 0 [] 0 (signed fwHead) := rfl
  rw [State.fwBytes, e, range_putRange _ _ _ _ (by rw [signed_length _ fwHead_length]; exact h)]

theorem fwDev_field (lo n : Nat) (h : lo + n ≤ 64) : fwDev.fwField lo n = leNat ((fwHead.drop lo).take n) := by
  rw [State.fwField, fwDev_bytes _ _ (by omega), (signed_part _ fwHead_length).2.2 lo n h]

theorem keyed_fuse {s : State} {x : BitVec 8192} (p n : Nat) (h : s.boot.otp = 0) (hx : s.boot.fuses = x) : s.fuse p n = bits x.toNat p n := by
  have h0 : (0 : BitVec 8192).toNat = 0 := by simp
  rw [State.fuse, h, hx, h0, Nat.or_zero]

/-- The seven checks of R413, R414, R418 and R419 on the licence of `licDev`: all hold at 400 MHz, all but the last at 399 MHz. -/
theorem witness_LicencesVerify (clk : Nat) (hc : clk = 400 ∨ clk = 399) :
    let s := licDev clk
    let f := s.licField 20 4
    let key := s.licBytes 64 56
    s.lic.checking = true ∧ (∀ i, i < 1732 → SMap.get none s.lic.staged i ≠ none) ∧
    (s.licField 0 4 = 0x4C494358 ∧ s.licField 4 2 = 1 ∧ s.licField 6 2 = 0 ∧ s.licField 29 35 = 0 ∧ f < 64) ∧
    bit (s.fuse 4864 4) 3 = false ∧
    (leNat (sha256 key) = s.fuse 4608 256 ∧ beNat (key.take 4) = 7 ∧ beNat ((key.drop 4).take 4) = 4) ∧
    lmsVerify key (s.licBytes 120 1612) (s.licBytes 0 64) = true ∧ s.licField 8 8 = s.fuse 32 64 ∧
    (s.licField 24 2 = clk ∧ s.licField 26 2 = 90 ∧ s.licField 28 1 = 32) := by
  have hp := signed_part _ (licHead_length clk)
  have hf : ∀ p n, (licDev clk).fuse p n = bits (fusedKey 4608 (licHead clk)).toNat p n := fun p n => keyed_fuse p n rfl rfl
  have h4 := keyOf_take (licHead clk) 0 4 (by decide)
  rw [List.drop_zero] at h4
  have h0 : (licDev clk).licBytes 0 64 = licHead clk := by
    rw [licDev_bytes _ _ _ (by decide), hp.2.2 0 64 (by decide), List.drop_zero, List.take_of_length_le (Nat.le_of_eq (licHead_length clk))]
  dsimp only
  rw [licDev_bytes _ 64 56 (by decide), licDev_bytes _ 120 1612 (by decide), hp.1, hp.2.1, h0, signed_verifies, hf, hf, hf,
    fusedKey_bits (by decide), fusedKey_other (by decide) _ (by decide), fusedKey_other (by decide) _ (by decide), h4, keyOf_take _ 4 4 (by decide)]
  simp only [licDev_field clk _ _ (by decide : 0 + 4 ≤ 64), licDev_field clk _ _ (by decide : 4 + 2 ≤ 64), licDev_field clk _ _ (by decide : 6 + 2 ≤ 64),
    licDev_field clk _ _ (by decide : 29 + 35 ≤ 64), licDev_field clk _ _ (by decide : 20 + 4 ≤ 64), licDev_field clk _ _ (by decide : 8 + 8 ≤ 64),
    licDev_field clk _ _ (by decide : 24 + 2 ≤ 64), licDev_field clk _ _ (by decide : 26 + 2 ≤ 64), licDev_field clk _ _ (by decide : 28 + 1 ≤ 64)]
  refine ⟨rfl, fun i hi => ?_, ?_, by decide, ⟨trivial, by decide +kernel, by decide +kernel⟩, trivial, ?_, ?_⟩
  · change SMap.get none (SMap.putRange none [] 0 ((signed (licHead clk)).map some)) i ≠ none
    have hl := signed_length _ (licHead_length clk)
    rw [get_putRange, if_pos (by rw [List.length_map]; omega)]
    have : i < (signed (licHead clk)).length := by omega
    simp [this]
  all_goals rcases hc with rfl | rfl <;> decide +kernel

theorem witness_FirmwareVerifies : ∃ s : State, s.boot.stage = 5 ∧ s.fwCode = 0 := by
  have hp := signed_part _ fwHead_length
  have hf : ∀ p n, fwDev.fuse p n = bits (fusedKey 3840 fwHead).toNat p n := fun p n => keyed_fuse p n rfl rfl
  have h0 : fwDev.fwBytes 0 64 = fwHead := by
    rw [fwDev_bytes _ _ (by decide), hp.2.2 0 64 (by decide), List.drop_zero, List.take_of_length_le (Nat.le_of_eq fwHead_length)]
  have hb : fwDev.fwField 8 4 = 0 := (fwDev_field _ _ (by decide)).trans (by decide +kernel)
  have hs : fwDev.fwField 13 1 = 0 := (fwDev_field _ _ (by decide)).trans (by decide +kernel)
  have hform : fwDev.fwFormOk = true := by
    have h1 : fwDev.fwField 0 4 = 0x57464B44 := (fwDev_field _ _ (by decide)).trans (by decide +kernel)
    have h2 : fwDev.fwField 4 4 = 1732 := (fwDev_field _ _ (by decide)).trans (by decide +kernel)
    have h3 : fwDev.fwField 14 2 = 0 := (fwDev_field _ _ (by decide)).trans (by decide +kernel)
    have h4 : fwDev.fwField 20 44 = 0 := (fwDev_field _ _ (by decide)).trans (by decide +kernel)
    have h5 : fwDev.boot.received = 1732 := rfl
    simp only [State.fwFormOk, hb, h1, h2, h3, h4, h5]
    decide
  have hk : fwDev.fwBytes 64 56 = keyOf fwHead := (fwDev_bytes _ _ (by decide)).trans hp.1
  have hg : fwDev.fwBytes 120 1612 = zeroSig := (fwDev_bytes _ _ (by decide)).trans hp.2.1
  have hr : fwDev.revoked 0 = false := by rw [State.revoked, hf, fusedKey_other (by decide) _ (by decide)]; decide
  have hh : fwDev.keyHash 0 = leNat (sha256 (keyOf fwHead)) := by rw [State.keyHash, hf]; exact fusedKey_bits (by decide) _
  have hv : fwDev.svnFloor = 0 := by rw [State.svnFloor, hf, fusedKey_other (by decide) _ (by decide)]; decide
  refine ⟨fwDev, rfl, ?_⟩
  simp only [State.fwCode, State.fwSigned, hb, hs, hform, hr, hh, hv, Nat.add_zero, hk, hg, h0, keyOf_types, signed_verifies]
  simp [firstCode]

end Sys2Proof.Tests
end

section
/-! SUPPORT. What a step, reset and the serial order hold: the statements of the spec's scope, and the laws of time that they need. -/

namespace Sys2Proof

variable {α : Type} [DecidableEq α] {d : α}

/-! ### A function over every listed value of a canonical table -/

/-- A key below every listed one reads as the default. -/
theorem SMap.get_of_lt_wfFrom {m : SMap α} {lo q : Nat} (w : SMap.wfFrom d lo m = true) (h : q < lo) : SMap.get d m q = d := by
  induction m generalizing lo with
  | nil => rfl
  | cons x m ih =>
    obtain ⟨k, v⟩ := x
    simp only [SMap.wfFrom, Bool.and_eq_true, decide_eq_true_eq] at w
    obtain ⟨⟨hk, -⟩, hm⟩ := w
    rw [SMap.get, if_neg (by omega), ih hm (by omega)]

theorem SMap.get_mapVals_of_wfFrom (f : Nat → α → α) {m : SMap α} {lo : Nat} (w : SMap.wfFrom d lo m = true) (q : Nat) :
    SMap.get d (SMap.mapVals d f m) q = if SMap.get d m q = d then d else f q (SMap.get d m q) := by
  induction m generalizing lo with
  | nil => simp [SMap.mapVals]
  | cons x m ih =>
    obtain ⟨k, v⟩ := x
    simp only [SMap.wfFrom, Bool.and_eq_true, decide_eq_true_eq] at w
    obtain ⟨⟨-, hv⟩, hm⟩ := w
    have rest := ih hm
    simp only [SMap.mapVals] at rest
    by_cases hk : k = q
    · subst hk
      rw [SMap.get_of_lt_wfFrom hm (Nat.lt_succ_self k), if_pos rfl] at rest
      by_cases hf : f k v = d <;> simp [SMap.mapVals, SMap.get, hv, hf, rest]
    · by_cases hf : f k v = d <;> simp [SMap.mapVals, SMap.get, hf, hk, rest]

/-- In a canonical table the function acts on the value of each listed key, and an unlisted one stays unlisted. -/
theorem SMap.get_mapVals (f : Nat → α → α) {m : SMap α} (w : SMap.wf d m = true) (q : Nat) :
    SMap.get d (SMap.mapVals d f m) q = if SMap.get d m q = d then d else f q (SMap.get d m q) :=
  SMap.get_mapVals_of_wfFrom f w q

end Sys2Proof

namespace Sys2Proof.Machine

/-! ### Serial order (R507) -/

/-- The difference `serialGreater` takes of two numbers is theirs modulo 2^32. -/
theorem serialDifference_eq (a b : Nat) :
    (((a + 2 ^ 32 - b % 2 ^ 32) % 2 ^ 32 : Nat) : Int) = ((a : Int) - b) % 2 ^ 32 := by omega

theorem serialGreater_iff (a b : Nat) :
    serialGreater a b = true ↔ 1 ≤ ((a : Int) - b) % 2 ^ 32 ∧ ((a : Int) - b) % 2 ^ 32 ≤ 2 ^ 31 - 1 := by
  rw [← serialDifference_eq]
  simp only [serialGreater, decide_eq_true_eq]
  omega

theorem serialGreater_eq_false_of_half {a b : Nat} (half : ((a : Int) - b) % 2 ^ 32 = 2 ^ 31) : serialGreater a b = false := by
  rw [Bool.eq_false_iff, ne_eq, serialGreater_iff, half]
  decide

/-- Settles O5: at a difference of 2^31 the difference taken the other way is 2^31 too. -/
theorem serialOrderOfSequenceNumbers : Obligations.SerialOrderOfSequenceNumbers := by
  refine fun a b => ⟨serialGreater_iff a b, fun half => ?_⟩
  have half' : ((b : Int) - a) % 2 ^ 32 = 2 ^ 31 := by omega
  exact ⟨serialGreater_eq_false_of_half half, serialGreater_eq_false_of_half half'⟩

/-! ### Reset -/

/-- At reset every unit of an entry reads as the default of its row. -/
@[simp] theorem State.rd_reset (e : Entry) (u : Nat) : State.reset.rd e u = e.dflt := rfl

/-- No byte of HBM is listed at reset. -/
theorem State.inv_reset : State.reset.Inv := rfl

/-- Settles O3: every entry reads as the default of its row, which the manual's tables give. -/
theorem resetState : Obligations.ResetState := by
  simp only [Obligations.ResetState, State.rd_reset, forall_const]
  exact ⟨State.inv_reset, by decide⟩

/-! ### A cycle that passes, on a canonical table of cores -/

/-- The frame table and the input FIFO of a core are the same. -/
def Core.sameInput (c c' : Core) : Prop := c'.ftab = c.ftab ∧ c'.fifoD = c.fifoD ∧ c'.fifoC = c.fifoC

theorem Core.sameInput_refl (c : Core) : c.sameInput c := ⟨rfl, rfl, rfl⟩

theorem Core.sameInput_trans {a b c : Core} (x : a.sameInput b) (y : b.sameInput c) : a.sameInput c :=
  ⟨y.1.trans x.1, y.2.1.trans x.2.1, y.2.2.trans x.2.2⟩

/-- Over any number of fabric cycles a stopped core takes nothing in. -/
theorem Core.sameInput_run {c : Core} (h : c.running = false) (p epoch n t : Nat) : c.sameInput (Core.run p epoch n t c) := by
  cases n with
  | zero => exact Core.sameInput_refl c
  | succ n => simp [Core.run, h, Core.pass, Core.sameInput]

theorem Fabric.sameInput_release (f : Fabric) (p q : Nat) :
    (SMap.get {} f.cores q).sameInput (SMap.get {} (f.release p).cores q) := by
  simp only [Fabric.release, SMap.get_set]
  split
  · next h => subst h; exact ⟨rfl, rfl, rfl⟩
  · exact Core.sameInput_refl _

theorem Fabric.sameInput_releases (q : Nat) (ps : List Nat) (f : Fabric) :
    (SMap.get {} f.cores q).sameInput (SMap.get {} (ps.foldl Fabric.release f).cores q) := by
  induction ps generalizing f with
  | nil => exact Core.sameInput_refl _
  | cons p ps ih => exact Core.sameInput_trans (f.sameInput_release p q) (ih _)

/-! Tokens that enter the fabric leave the cores alone. -/

theorem Fabric.enter_cores (ts : List (Nat × Bool × Tok)) (f : Fabric) : (f.enter ts).1.cores = f.cores := by
  induction ts generalizing f with
  | nil => rfl
  | cons t ts ih =>
    simp only [Fabric.enter]
    split <;> simp [ih]

theorem Fabric.injectAt_cores (lag now : Nat) (xs : List Inject) (f : Fabric) :
    (Fabric.injectAt lag now f xs).1.cores = f.cores := by
  induction xs generalizing f with
  | nil => rfl
  | cons x xs ih =>
    simp only [Fabric.injectAt]
    split
    · rfl
    · simp [ih, Fabric.enter_cores]

theorem Fabric.injectDue_cores (f : Fabric) (dies : SMap DieSt) (now : Nat) : (f.injectDue dies now).cores = f.cores := by
  unfold Fabric.injectDue
  generalize f.inject = xs
  induction xs generalizing f with
  | nil => rfl
  | cons x xs ih => rw [List.foldl_cons, ih, Fabric.injectAt_cores]

/-- In a canonical table each core runs on its own. -/
theorem Fabric.sameInput_advance (f : Fabric) (w : SMap.wf {} f.cores = true) (dies : SMap DieSt) (quads : SMap QuadSt)
    (epoch a b p : Nat) (h : (SMap.get {} f.cores p).running = false) :
    (SMap.get {} f.cores p).sameInput (SMap.get {} (f.advance dies quads epoch a b).cores p) := by
  simp only [Fabric.advance, Fabric.injectDue_cores]
  refine Core.sameInput_trans ?_ (Fabric.sameInput_releases _ _ _)
  rw [SMap.get_mapVals _ w]
  split
  · next unlisted => rw [unlisted]; exact Core.sameInput_refl _
  · split
    · exact Core.sameInput_run h _ _ _ _
    · exact Core.sameInput_refl _

theorem State.sameInput_advanceTo {s : State} (w : SMap.wf {} s.fabric.cores = true) (c p : Nat)
    (h : (s.core p).running = false) : (s.core p).sameInput ((s.advanceTo c).core p) := by
  unfold State.advanceTo
  split
  · exact Fabric.sameInput_advance _ w _ _ _ _ _ _ h
  · exact Core.sameInput_refl _

/-- What a core reports changes the counters and the events alone, so that settling leaves the core what `release` leaves it,
with nothing to report. -/
theorem State.settleCore_fabric (s : State) (p : Nat) :
    (s.settleCore p).fabric = ({ s with fabric := s.fabric.release p }.updCore p fun c => { c with rep := {} }).fabric := by
  have accSat (t : State) (n : Nat) : (t.accSat p n).fabric = t.fabric := by
    unfold State.accSat; split <;> simp
  have mismatch (t : State) : keeps [.dict, .host, .faults] t (t.mismatch p) := keeps_counted t _ _ _ _ _ _ _ _ _ (by decide)
  have skew (t : State) : keeps [.dict, .host, .faults] t (t.scaleSkew p) :=
    keeps_trans (keeps_mono (by simp) (keeps_inc t _ _ _)) (keeps_raise _ _ _ _ (by decide))
  unfold State.settleCore
  rw [keeps_times _ skew _ _ .fabric (by decide), keeps_times _ mismatch _ _ .fabric (by decide)]
  split <;> simp [accSat]

theorem State.sameInput_settleCore (s : State) (p q : Nat) : (s.core q).sameInput ((s.settleCore p).core q) := by
  have settled : (s.settleCore p).core q =
      ({ s with fabric := s.fabric.release p }.updCore p fun c => { c with rep := {} }).core q := by
    simp only [State.core, State.settleCore_fabric]
  refine Core.sameInput_trans (s.fabric.sameInput_release p q) ?_
  rw [settled]
  by_cases hq : q = p
  · subst hq; rw [State.core_updCore]; exact ⟨rfl, rfl, rfl⟩
  · rw [State.core_updCore_of_ne _ _ hq]; exact Core.sameInput_refl _

theorem State.sameInput_settleCores (s : State) (q : Nat) : (s.core q).sameInput (s.settleCores.core q) := by
  unfold State.settleCores
  generalize (s.fabric.cores.filter fun x => decide (x.2.rep ≠ {})).map Prod.fst = ps
  induction ps generalizing s with
  | nil => exact Core.sameInput_refl _
  | cons p ps ih => exact Core.sameInput_trans (s.sameInput_settleCore p q) (ih _)

theorem keeps_settleCores (s : State) : keeps [.fabric, .dict, .host, .faults] s s.settleCores :=
  keeps_foldl _ keeps_settleCore _ s

theorem keeps_cyclePasses (s : State) : keeps [.clock, .fabric, .dict, .host, .faults] s s.cyclePasses := by
  unfold State.cyclePasses
  split
  · exact keeps_trans (keeps_mono (by simp) (keeps_advanceTo s _)) (keeps_mono (by simp) (keeps_settleCores _))
  · exact keeps_refl _ s

theorem State.cyclePasses_of_stopped {s : State} (h : s.clock.running = false) : s.cyclePasses = s := by
  simp [State.cyclePasses, h]

theorem State.cyclePasses_of_running {s : State} (h : s.clock.running = true) :
    s.cyclePasses = (s.advanceTo (s.now + 1)).settleCores := by simp [State.cyclePasses, h]

theorem State.cyclePasses_cycle {s : State} (h : s.clock.running = true) : s.cyclePasses.clock.cycle = s.clock.cycle + 1 := by
  rw [State.cyclePasses_of_running h, keeps_settleCores _ .clock (by decide)]
  simp [State.advanceTo, State.now, h]

theorem State.cyclePasses_drone (s : State) : s.cyclePasses.clock.drone = s.clock.drone := by
  unfold State.cyclePasses
  split
  · rw [keeps_settleCores _ .clock (by decide), State.advanceTo_drone]
  · rfl

theorem State.sameInput_cyclePasses {s : State} (w : SMap.wf {} s.fabric.cores = true) (p : Nat) (h : (s.core p).running = false) :
    (s.core p).sameInput (s.cyclePasses.core p) := by
  unfold State.cyclePasses
  split
  · exact Core.sameInput_trans (State.sameInput_advanceTo w _ p h) (State.sameInput_settleCores _ p)
  · exact Core.sameInput_refl _

/-! ### The step -/

theorem step_of_command (s : State) (c : Instr) (rest : List Instr) :
    step { s with pending := c :: rest } = exec c { s with pending := rest } := rfl

theorem step_of_idle {s : State} (h : s.pending = []) : step s = .next s.cyclePasses := by simp [step, h]

/-- What O1 says, with the hypothesis it leaves out: the table of cores is canonical, as a write keeps it (`SMap.wf_set`). -/
theorem stepRunsFrontCommand_of_canonicalCores :
    (∀ (s : State) (c : Instr) (rest : List Instr), step { s with pending := c :: rest } = exec c { s with pending := rest }) ∧
    (∀ s : State, s.pending = [] → s.clock.running = false → step s = .next s) ∧
    (∀ s : State, SMap.wf {} s.fabric.cores = true → s.pending = [] → s.clock.running = true →
      ∃ t, step s = .next t ∧ t.clock.cycle = s.clock.cycle + 1 ∧ t.clock.drone = s.clock.drone ∧
        (∀ p : Nat, (s.core p).running = false → (s.core p).sameInput (t.core p)) ∧
        keeps [.clock, .fabric, .dict, .host, .faults] s t) := by
  refine ⟨step_of_command, fun s idle stopped => ?_, fun s w idle running => ⟨s.cyclePasses, step_of_idle idle, ?_⟩⟩
  · rw [step_of_idle idle, State.cyclePasses_of_stopped stopped]
  · exact ⟨State.cyclePasses_cycle running, State.cyclePasses_drone s, fun p => State.sameInput_cyclePasses w p, keeps_cyclePasses s⟩

/-- Clocks that run and a table that lists core 0 twice, which no canonical table does: as an unlisted core is, and with a frame. -/
def State.coreListedTwice : State :=
  { clock := { running := true }, fabric := { cores := [(0, {}), (0, { ftab := [{}] })] } }

/-- As the cycle passes the first entry, which holds the default, leaves the table, and the second is what core 0 reads as. -/
theorem coreListedTwice_cyclePasses : (State.coreListedTwice.cyclePasses.core 0).ftab = [{}] := by decide

/-- Refutes O1: its last clause is over every state, so also over one whose table of cores is not canonical. Core 0 of
`State.coreListedTwice` is stopped with an empty frame table, and after one cycle its frame table holds a frame. With the table
canonical all three clauses hold (`stepRunsFrontCommand_of_canonicalCores`). -/
theorem not_stepRunsFrontCommand : ¬ Obligations.StepRunsFrontCommand := by
  rintro ⟨-, -, idleStep⟩
  obtain ⟨t, next, -, -, stopped, -⟩ := idleStep State.coreListedTwice rfl rfl
  have same : (t.core 0).ftab = [] := (stopped 0 rfl).1
  have ht : State.coreListedTwice.cyclePasses = t := Host.Outcome.next.inj ((step_of_idle rfl).symm.trans next)
  rw [← ht, coreListedTwice_cyclePasses] at same
  exact absurd same (List.cons_ne_nil _ _)

end Sys2Proof.Machine
end

section
/-! SUPPORT. The tick boundary: a void mark set before it that does not last to the admission. -/

namespace Sys2Proof.Machine

/-- Stream 3 is fed, used and marked void; the ingest deadline of tick 1 is to come, and the complete frame for it is held. -/
def State.markedWithFrame : State :=
  { State.reset.wr OD.ST_NLANES 3 1 with
    clock := { running := true }, act := { admitOn := true, streamMask := 2 ^ 3 },
    ingest := [(3, { align := [{ seq := 1, complete := true }], voidMark := true })] }

/-- At the deadline, which comes with the boundary, the frame is there: the mark goes, and the frame is not void. -/
theorem markedWithFrame_tick : ((State.markedWithFrame.tick 0).dec 3).flights.map Flight.void = [false] := by decide +kernel

/-- Refutes O24: it lets the mark of the state before the boundary make the frame void, but a boundary whose deadline has not passed
(`deadlineOf` names another tick, or none) runs it first, and that marks a stream anew by the frames it holds (R267). In
`State.markedWithFrame` the mark is set before and the frame is admitted complete. -/
theorem not_tickBoundaryAdmitsFrames : ¬ Obligations.TickBoundaryAdmitsFrames := by
  intro admits
  obtain ⟨-, noDamp⟩ := admits State.markedWithFrame 0 rfl rfl rfl rfl rfl
  obtain ⟨t, next, -, -, -, -, -, streams⟩ := noDamp (by decide)
  obtain ⟨-, whenAdmitted⟩ := streams rfl 3 (by decide)
  obtain ⟨f, flights, -, -, -, complete, -⟩ := whenAdmitted (by decide)
  have ht : State.markedWithFrame.tick 0 = t := Host.Outcome.next.inj next
  have void := markedWithFrame_tick
  rw [ht, flights] at void
  obtain ⟨-, unmarked, -⟩ := complete.1 (List.cons.inj void).1
  exact absurd unmarked (by decide)

end Sys2Proof.Machine
end

section
/-! SUPPORT. The deadline monitor: what arrives, what a release changes, and how the oldest frame of a stream is answered. -/

namespace Sys2Proof

/-- A number that fits in `w` bits of two's complement reads back from its code. -/
theorem toSigned_ofSigned {w : Nat} {x : Int} (lo : -(2 ^ w : Nat) ≤ 2 * x) (hi : 2 * x < (2 ^ w : Nat)) : toSigned w (ofSigned w x) = x := by
  have pos : (0 : Int) < (2 ^ w : Nat) := by exact_mod_cast Nat.two_pow_pos w
  unfold toSigned ofSigned
  generalize 2 ^ w = m at *
  have l := Int.emod_nonneg x (by omega : (m : Int) ≠ 0)
  have u := Int.emod_lt_of_pos x pos
  have code : (x % (m : Int)).toNat % m = (x % (m : Int)).toNat := Nat.mod_eq_of_lt (by omega)
  simp only [code]
  rcases Int.lt_or_le x 0 with h | h
  · have : x % m = x + m := by
      rw [← Int.add_emod_right]; exact Int.emod_eq_of_lt (by omega) (by omega)
    rw [this]; split <;> omega
  · rw [Int.emod_eq_of_lt h (by omega)]; split <;> omega

theorem toSigned_lt (w n : Nat) : 2 * toSigned w n < (2 ^ w : Nat) := by
  have := Nat.mod_lt n (Nat.two_pow_pos w)
  unfold toSigned
  generalize 2 ^ w = m at *
  simp only
  split <;> omega

end Sys2Proof

namespace Sys2Proof.Machine

/-! ### What the parts of a release change -/

theorem keeps_updDec (s : State) (n : Nat) (f : Decide → Decide) : keeps [.decisions] s (s.updDec n f) := by
  intro p hp; cases p <;> first | exact absurd (by decide) hp | rfl

theorem keeps_updLane (s : State) (n : Nat) (f : Lane → Lane) : keeps [.lanes] s (s.updLane n f) := by
  intro p hp; cases p <;> first | exact absurd (by decide) hp | rfl

theorem keeps_updCap (s : State) (n : Nat) (f : Capt → Capt) : keeps [.capt] s (s.updCap n f) := by
  intro p hp; cases p <;> first | exact absurd (by decide) hp | rfl

/-- A release changes one contribution to a pin (R295). -/
theorem keeps_pinRelease (s : State) (pin st cycle accept : Nat) : keeps [.pins] s (s.pinRelease pin st cycle accept) := by
  unfold State.pinRelease
  dsimp only
  split
  · intro p hp; cases p <;> first | exact absurd (by decide) hp | rfl
  · exact keeps_refl _ s

theorem keeps_finishBurst (s : State) (l : Nat) : keeps [.lanes] s (s.finishBurst l) := by
  unfold State.finishBurst
  split
  · exact keeps_refl _ s
  · split
    · exact keeps_updLane _ _ _
    · exact keeps_refl _ s

/-- A record that takes its slot changes the lanes alone (R272). -/
theorem keeps_fillSlot (s : State) (l : Nat) (r : Rec) (deadline cycle : Nat) : keeps [.lanes] s (s.fillSlot l r deadline cycle) := by
  unfold State.fillSlot
  split
  · exact keeps_refl _ s
  · split
    · exact keeps_refl _ s
    · split
      · exact keeps_trans (keeps_updLane _ _ _) (keeps_finishBurst _ _)
      · exact keeps_refl _ s

theorem keeps_engineTrigger (s : State) (st tick : Nat) (r : Rec) (hdr : List Nat) :
    keeps [.dict, .capt] s (s.engineTrigger st tick r hdr) := by
  have capt (f : Capt → Capt) : keeps [.dict, .capt] s (s.updCap st f) := keeps_mono (by simp) (keeps_updCap s st f)
  unfold State.engineTrigger
  dsimp only
  split
  · exact capt _
  · split
    · exact capt _
    · split
      · exact capt _
      · exact keeps_mono (by simp) (keeps_inc _ _ _ _)

/-- A capture trigger is counted and meets the engine of its stream (R297, R299). -/
theorem keeps_captureTrigger (s : State) (st : Nat) (f : Flight) (r : Rec) : keeps [.dict, .capt] s (s.captureTrigger st f r) := by
  unfold State.captureTrigger
  split
  · exact keeps_refl _ s
  · exact keeps_trans (keeps_mono (by simp) (keeps_wr _ _ _ _)) (keeps_engineTrigger _ _ _ _ _)

/-! ### A release (R47, R292 to R294) -/

@[simp] theorem Decide.setFailsafe_substituted (d : Decide) (v : Bool) (cycle : Nat) :
    (d.setFailsafe v cycle).substituted = d.substituted := by unfold Decide.setFailsafe; split <;> rfl

@[simp] theorem Decide.setFailsafe_released (d : Decide) (v : Bool) (cycle : Nat) :
    (d.setFailsafe v cycle).released = d.released := by unfold Decide.setFailsafe; split <;> rfl

@[simp] theorem Decide.setFailsafe_buffer (d : Decide) (v : Bool) (cycle : Nat) :
    (d.setFailsafe v cycle).buffer = d.buffer := by unfold Decide.setFailsafe; split <;> rfl

/-- A stream's decision unit once the record of its oldest frame has left at a cycle; `off` says that admission is off. -/
def Decide.afterRelease (off : Bool) (f : Flight) (r : Rec) (cycle : Nat) (d : Decide) : Decide :=
  let fl := d.flights.drop 1
  let d := (d.setFailsafe false (cycle + 10)).setFailsafe (off && decide (fl = [])) (cycle + 10)
  { d with flights := fl, buffer := d.buffer.filter fun x => decide (x.1.ftag ≠ f.tick % 2 ^ 16),
           released := ((r, cycle, f.deadline) :: d.released).take 64 }

section

variable (off : Bool) (f : Flight) (r : Rec) (cycle : Nat) (d : Decide)

@[simp] theorem Decide.afterRelease_flights : (d.afterRelease off f r cycle).flights = d.flights.drop 1 := rfl

@[simp] theorem Decide.afterRelease_buffer :
    (d.afterRelease off f r cycle).buffer = d.buffer.filter fun x => decide (x.1.ftag ≠ f.tick % 2 ^ 16) := by
  simp [Decide.afterRelease]

@[simp] theorem Decide.afterRelease_released :
    (d.afterRelease off f r cycle).released = ((r, cycle, f.deadline) :: d.released).take 64 := by simp [Decide.afterRelease]

@[simp] theorem Decide.afterRelease_substituted : (d.afterRelease off f r cycle).substituted = d.substituted := by
  simp [Decide.afterRelease]

end

/-- With no repair under way a record goes through the trigger logic as it is, but that a substitute has no cause (R294). -/
def State.releasedAs (s : State) (st : Nat) (f : Flight) (r : Rec) : Rec :=
  s.decideRecord st f (if r.late && r.void then { r with cause := 0 } else r)

theorem State.repairing_of_no_repairs {s : State} (h : s.faults.repairs = []) (st tick cycle : Nat) :
    s.repairing st tick cycle = false := by simp [State.repairing, h]

/-- Of the decision units a release changes the stream's own, as `Decide.afterRelease` says. -/
theorem keeps_release {s : State} (h : s.faults.repairs = []) (st : Nat) (f : Flight) (r : Rec) (cycle : Nat) :
    keeps [.dict, .pins, .lanes, .capt, .faults]
      (s.updDec st (Decide.afterRelease (!s.act.admitOn) f (s.releasedAs st f r) cycle)) (s.release st f r cycle) := by
  unfold State.release
  rw [State.repairing_of_no_repairs h]
  extract_lets _ _ _ r' noted decided pins lanes late plucked
  have kDecided : keeps [.faults] (s.updDec st (Decide.afterRelease (!s.act.admitOn) f (s.releasedAs st f r) cycle)) decided := by
    intro p hp; cases p <;> first | exact absurd (by decide) hp | rfl
  have kPins : keeps [.pins] decided pins := keeps_foldl _ (fun _ _ => keeps_pinRelease _ _ _ _ _) _ _
  have kLanes : keeps [.lanes] pins lanes := keeps_foldl _ (fun _ _ => keeps_fillSlot _ _ _ _ _) _ _
  have kLate : keeps [.dict] lanes late := by
    unfold late
    split
    · exact keeps_trans (keeps_inc _ _ _ _) (keeps_inc _ _ _ _)
    · exact keeps_refl _ _
  have kPlucked : keeps [.faults] late plucked := by
    unfold plucked
    split
    · exact keeps_pluckFrom _ _ _ _
    · exact keeps_refl _ _
  have kCapture := keeps_captureTrigger plucked st f r'
  exact keeps_trans (keeps_mono (by simp) kDecided) <| keeps_trans (keeps_mono (by simp) kPins) <|
    keeps_trans (keeps_mono (by simp) kLanes) <| keeps_trans (keeps_mono (by simp) kLate) <|
    keeps_trans (keeps_mono (by simp) kPlucked) (keeps_mono (by simp) kCapture)

section Released

variable {s : State} (h : s.faults.repairs = []) (st : Nat) (f : Flight) (r : Rec) (cycle : Nat)
include h

theorem State.dec_release :
    (s.release st f r cycle).dec st = Decide.afterRelease (!s.act.admitOn) f (s.releasedAs st f r) cycle (s.dec st) := by
  unfold State.dec
  rw [keeps_release h st f r cycle .decisions (by decide)]
  exact State.dec_updDec _ _ _

theorem State.dec_release_of_ne {q : Nat} (hq : q ≠ st) : (s.release st f r cycle).dec q = s.dec q := by
  unfold State.dec
  rw [keeps_release h st f r cycle .decisions (by decide)]
  exact State.dec_updDec_of_ne _ _ hq

theorem State.release_clock : (s.release st f r cycle).clock = s.clock := keeps_release h st f r cycle .clock (by decide)

end Released

/-! ### Records and settings at another time -/

theorem State.advanceTo_dec (s : State) (c q : Nat) : (s.advanceTo c).dec q = s.dec q := by
  unfold State.dec; rw [State.advanceTo_decisions]

theorem State.rd_advanceTo (s : State) (c : Nat) (e : Entry) (u : Nat) : (s.advanceTo c).rd e u = s.rd e u := by
  unfold State.rd; rw [State.advanceTo_dict]

theorem State.advanceTo_cycle (s : State) (c : Nat) :
    (s.advanceTo c).clock.cycle = if s.clock.running then max s.clock.cycle c else s.clock.cycle := by
  unfold State.advanceTo
  split
  · next g => simp [g.1, Nat.max_eq_right (Nat.le_of_lt g.2)]
  · next g =>
    split
    · next run => exact (Nat.max_eq_left (Nat.le_of_not_lt fun l => g ⟨run, l⟩)).symm
    · rfl

theorem State.releasedAs_of_dict {s t : State} (h : t.dict = s.dict) (st : Nat) (f : Flight) (r : Rec) :
    t.releasedAs st f r = s.releasedAs st f r := by
  simp only [State.releasedAs, State.decideRecord, State.rdI, State.rd, h]

/-- A void record is released with the fail-safe bits and score (R293), and a late one with no cause (R294). -/
theorem State.releasedAs_of_void (s : State) (st : Nat) (f : Flight) {r : Rec} (h : r.void = true) :
    s.releasedAs st f r = { r with accept := s.rd OD.FS_ACCEPT st, score := s.rdI OD.FS_SCORE st, logic := false,
                                   cause := if r.late then 0 else r.cause } := by
  cases late : r.late <;> simp [State.releasedAs, State.decideRecord, h, late]

theorem State.advanceTo_updDec (s : State) (c n : Nat) (g : Decide → Decide) :
    (s.updDec n g).advanceTo c = (s.advanceTo c).updDec n g := by
  unfold State.advanceTo
  rw [State.updDec_clock]
  split <;> rfl

/-! ### The deadline monitor (R47, R188) -/

/-- From `s` to `t` the record of a stream's oldest frame, `fl` being those behind it, has left at a cycle as `r`: no other stream's
decision unit has changed, and time has come to that cycle. -/
def State.Answers (s t : State) (st : Nat) (f : Flight) (fl : List Flight) (r : Rec) (cycle : Nat) : Prop :=
  (t.dec st).flights = fl ∧ (t.dec st).released = ((r, cycle, f.deadline) :: (s.dec st).released).take 64 ∧
  (t.dec st).buffer = (s.dec st).buffer.filter (fun x => decide (x.1.ftag ≠ f.tick % 2 ^ 16)) ∧ (∀ q, q ≠ st → t.dec q = s.dec q) ∧
  t.clock.cycle = (if s.clock.running then max s.clock.cycle cycle else s.clock.cycle)

/-- The tick of a substitute is noted, and those too old for a record of theirs to come are forgotten (R48). -/
def Decide.noteSubstitute (tick : Nat) (d : Decide) : Decide :=
  { d with substituted := tick :: d.substituted.filter fun t => decide (tick < t + 2 ^ 16) }

/-- The state in which a stream's substitute has just left (R47). -/
def State.substituted (s : State) (st : Nat) (f : Flight) : State :=
  let t := (s.updDec st (Decide.noteSubstitute f.tick)).advanceTo (f.deadline + s.tickdiv - 1)
  t.release st f (t.substitute st (f.tick % 2 ^ 16)) (f.deadline + s.tickdiv - 1)

/-- It is counted and raised then. -/
theorem keeps_missOldest (s : State) (st : Nat) (f : Flight) : keeps [.dict, .host, .faults] (s.substituted st f) (s.missOldest st f) := by
  unfold State.substituted
  rw [State.advanceTo_updDec]
  exact keeps_trans (keeps_mono (by simp) (keeps_inc _ _ _ _)) (keeps_raise _ _ _ _ (by decide))

/-- What leaves the decision units and the clock alone leaves the answer. -/
theorem State.Answers.of_keeps {s t u : State} {st : Nat} {f : Flight} {fl : List Flight} {r : Rec} {cycle : Nat}
    (a : s.Answers t st f fl r cycle) {l : List Piece} (k : keeps l t u) (hd : Piece.decisions ∉ l) (hc : Piece.clock ∉ l) :
    s.Answers u st f fl r cycle := by
  have dec (q : Nat) : u.dec q = t.dec q := by unfold State.dec; rw [k .decisions hd]
  have clock : u.clock = t.clock := k .clock hc
  simpa only [State.Answers, dec, clock] using a

theorem State.Answers.of_noteSubstitute {s t : State} {st tick : Nat} {f : Flight} {fl : List Flight} {r : Rec} {cycle : Nat}
    (a : (s.updDec st (Decide.noteSubstitute tick)).Answers t st f fl r cycle) : s.Answers t st f fl r cycle := by
  obtain ⟨flights, released, buffer, others, clock⟩ := a
  rw [State.dec_updDec] at released buffer
  exact ⟨flights, released, buffer, fun q hq => (others q hq).trans (State.dec_updDec_of_ne _ _ hq), clock⟩

section Answers

variable {s : State} {st : Nat} {f : Flight} {fl : List Flight} (flights : (s.dec st).flights = f :: fl) (repairs : s.faults.repairs = [])
include flights repairs

/-- A release at a cycle to which time has come answers the frame, and leaves the ticks that have been substituted. -/
theorem State.answers_release (r : Rec) (cycle : Nat) :
    s.Answers ((s.advanceTo cycle).release st f r cycle) st f fl (s.releasedAs st f r) cycle ∧
    (((s.advanceTo cycle).release st f r cycle).dec st).substituted = (s.dec st).substituted := by
  have none' : (s.advanceTo cycle).faults.repairs = [] := by rw [State.advanceTo_faults, repairs]
  have others (q : Nat) (hq : q ≠ st) : ((s.advanceTo cycle).release st f r cycle).dec q = s.dec q := by
    rw [State.dec_release_of_ne none' _ _ _ _ hq, State.advanceTo_dec]
  unfold State.Answers
  rw [State.dec_release none', State.advanceTo_dec, State.releasedAs_of_dict (State.advanceTo_dict s _),
    State.release_clock none', State.advanceTo_cycle]
  exact ⟨⟨by simp [flights], by simp, by simp, others, rfl⟩, by simp⟩

/-- RECORD_RELEASE. -/
theorem State.answers_releaseOldest (r : Rec) :
    s.Answers (s.releaseOldest st f r) st f fl (s.releasedAs st f r) f.deadline := (State.answers_release flights repairs r _).1

/-- STALE_RECORD. -/
theorem State.answers_staleOldest :
    s.Answers (s.staleOldest st f) st f fl
      { accept := s.rd OD.FS_ACCEPT st, score := s.rdI OD.FS_SCORE st, ftag := f.tick % 2 ^ 16, void := true, stale := true, stream := st,
        cause := if f.void then f.cause else 4 } f.deadline := by
  have a := (State.answers_release flights repairs
    { ftag := f.tick % 2 ^ 16, void := true, stale := true, stream := st, cause := if f.void then f.cause else 4 } f.deadline).1
  rwa [State.releasedAs_of_void _ _ _ rfl] at a

/-- DEADLINE_MISS: the substitute's tick is noted. -/
theorem State.answers_missOldest :
    s.Answers (s.missOldest st f) st f fl
      { accept := s.rd OD.FS_ACCEPT st, score := s.rdI OD.FS_SCORE st, ftag := f.tick % 2 ^ 16, late := true, void := true, stream := st }
      (f.deadline + s.tickdiv - 1) ∧
    f.tick ∈ ((s.missOldest st f).dec st).substituted := by
  have flights' : ((s.updDec st (Decide.noteSubstitute f.tick)).dec st).flights = f :: fl := by rw [State.dec_updDec]; exact flights
  obtain ⟨answers, noted⟩ := State.answers_release flights' repairs
    (((s.updDec st (Decide.noteSubstitute f.tick)).advanceTo (f.deadline + s.tickdiv - 1)).substitute st (f.tick % 2 ^ 16))
    (f.deadline + s.tickdiv - 1)
  rw [State.releasedAs_of_void _ _ _ rfl] at answers
  refine ⟨(answers.of_keeps (keeps_missOldest s st f) (by decide) (by decide)).of_noteSubstitute, ?_⟩
  have dec : (s.missOldest st f).decisions = (s.substituted st f).decisions := keeps_missOldest s st f .decisions (by decide)
  rw [State.dec, dec]
  rw [State.dec_updDec] at noted
  exact noted ▸ List.mem_cons_self

end Answers

section Commands

variable {s : State} {st : Fin 64} {f : Flight} {fl : List Flight} (flights : (s.dec st).flights = f :: fl)
include flights

theorem execRecordRelease_of_held {r : Rec} {c : Nat} (held : (s.dec st).held f = some (r, c)) :
    execRecordRelease st s = .next (s.releaseOldest st f r) := by simp only [execRecordRelease, flights, held]

theorem execDeadlineMiss_of_live (live : f.stale = false) (notHeld : (s.dec st).held f = none) :
    execDeadlineMiss st s = .next (s.missOldest st f) := by simp [execDeadlineMiss, flights, live, notHeld]

theorem execStaleRecord_of_stale (stale : f.stale = true) (notHeld : (s.dec st).held f = none) :
    execStaleRecord st s = .next (s.staleOldest st f) := by simp [execStaleRecord, flights, stale, notHeld]

end Commands

/-! ### Arrival (R45 to R48, R52, R186) -/

theorem State.rd_inc_same (s : State) (e : Entry) (u n : Nat) :
    (s.inc e u n).rd e u = if e.typ = .u64 then (s.rd e u + n) % 2 ^ 64 else min (s.rd e u + n) (2 ^ e.width - 1) := by
  unfold State.inc
  split <;> rw [State.rd_wr_same]

theorem State.rdI_wrI_same (s : State) (e : Entry) (u : Nat) {x : Int} (lo : -(2 ^ e.width : Nat) ≤ 2 * x)
    (hi : 2 * x < (2 ^ e.width : Nat)) : (s.wrI e u x).rdI e u = x := by
  unfold State.rdI State.wrI
  rw [State.rd_wr_same, toSigned_ofSigned lo hi]

/-- MIN_MARGIN takes a margin not below zero where it is the smallest yet (R52). -/
theorem State.rdI_margin (s : State) (st : Nat) {m : Int} (h : 0 ≤ m) :
    (s.margin st m).rdI OD.MIN_MARGIN st = min (s.rdI OD.MIN_MARGIN st) m := by
  have top : 2 * s.rdI OD.MIN_MARGIN st < (2 ^ 32 : Nat) := toSigned_lt _ _
  unfold State.margin
  split
  · next less =>
    have lo : -(2 ^ OD.MIN_MARGIN.width : Nat) ≤ 2 * m := by show -((2 ^ 32 : Nat) : Int) ≤ 2 * m; omega
    have hi : 2 * m < (2 ^ OD.MIN_MARGIN.width : Nat) := by show 2 * m < (2 ^ 32 : Nat); omega
    rw [State.rdI_wrI_same _ _ _ lo hi]
    omega
  · omega

theorem keepsCells_margin (s : State) (st : Nat) (m : Int) : keepsCells [OD.MIN_MARGIN.key st] s (s.margin st m) := by
  unfold State.margin
  split
  · exact keepsCells_wr _ _ _ _
  · exact keepsCells_refl _ s

theorem keeps_margin (s : State) (st : Nat) (m : Int) : keeps [.dict] s (s.margin st m) := by
  unfold State.margin
  split
  · exact keeps_wr _ _ _ _
  · exact keeps_refl _ s

/-- A record that a core has emitted arrives, once the 4 cycles of the port are over. -/
theorem Fabric.recordFor_of_mem {f : Fabric} {o : RecOut} (mem : o ∈ f.recordsOut) {cycle : Nat} (port : o.cycle + 4 ≤ cycle) {st : Nat}
    (stream : Sys2Proof.bits o.bits.toNat 46 6 = st) :
    ∃ o' ∈ f.recordsOut, o'.bits = o.bits ∧ o'.epoch = o.epoch ∧ f.recordFor st o.bits o.epoch cycle = some o' := by
  have found : (f.recordFor st o.bits o.epoch cycle).isSome := List.find?_isSome.2 ⟨o, mem, by simp [port, stream]⟩
  obtain ⟨o', h⟩ := Option.isSome_iff_exists.1 found
  have met := List.find?_some h
  simp only [decide_eq_true_eq] at met
  exact ⟨o', List.mem_of_find?_eq_some h, met.1, met.2.1, h⟩

theorem Fabric.recordFor_of_none {f : Fabric} {w : Word64} (none' : ∀ o ∈ f.recordsOut, o.bits ≠ w) (st epoch cycle : Nat) :
    f.recordFor st w epoch cycle = none := List.find?_eq_none.2 fun o mem => by simp [none' o mem]

/-- Nothing of a stream is due while its oldest frame waits for its record. -/
theorem State.settle_of_waiting {s : State} {st c : Nat} {f : Flight} {fl : List Flight} (flights : (s.dec st).flights = f :: fl)
    (notHeld : (s.dec st).held f = none) (live : f.stale = false) (early : c < f.deadline + s.tickdiv - 1) (n : Nat) :
    State.settle st c n s = s := by
  cases n with
  | zero => rfl
  | succ n => simp only [State.settle, flights, notHeld, live, Bool.false_eq_true, if_false, if_neg (Nat.not_le_of_lt early)]

/-- A record of the one frame in flight that comes by its deadline waits for it. -/
theorem State.recordIn_of_onTime {s : State} {st cycle : Nat} {f : Flight} {r : Rec} (flights : (s.dec st).flights = [f])
    (tag : f.tick % 2 ^ 16 = r.ftag) (empty : (s.dec st).buffer = []) (onTime : cycle ≤ f.deadline) :
    s.recordIn st r cycle = (s.margin st ((f.deadline : Int) - cycle)).updDec st fun d => { d with buffer := d.buffer ++ [(r, cycle)] } := by
  have dec : (s.margin st ((f.deadline : Int) - cycle)).decisions = s.decisions := keeps_margin s st _ .decisions (by decide)
  have notHeld : ((s.margin st ((f.deadline : Int) - cycle)).dec st).held f = none := by
    unfold State.dec at *
    simp [dec, Decide.held, empty]
  have oldest : (s.dec st).flights.find? (fun f => decide (f.tick % 2 ^ 16 = r.ftag)) = some f := by
    rw [flights, List.find?_cons_of_pos (by simpa using tag)]
  unfold State.recordIn
  rw [oldest]
  dsimp only
  rw [if_pos onTime, notHeld]
  rfl

/-- A record that arrives leaves the fabric. -/
def State.takeRecord (s : State) (o : RecOut) : State := { s with fabric.recordsOut := s.fabric.recordsOut.erase o }

theorem keeps_takeRecord (s : State) (o : RecOut) : keeps [.fabric] s (s.takeRecord o) := by
  intro p hp; cases p <;> first | exact absurd (by decide) hp | rfl

section Arrival

variable {s : State} {st : Fin 64} {w : Word64} {cycle : Nat} {e : Fin 8} {o : RecOut}
  (found : (s.advanceTo cycle).fabric.recordFor st w e (s.advanceTo cycle).now = some o)
include found

/-- A record of another epoch leaves the fabric and is discarded (R186). -/
theorem execRecordArrival_of_stale (stale : e.val ≠ s.rd OD.EPOCH) : execRecordArrival st w e cycle s =
    .next (((s.advanceTo cycle).takeRecord o).staleAtPort st) := by
  unfold execRecordArrival
  simp only [found, State.rd_advanceTo, if_pos stale]
  rfl

/-- A record of the present epoch, for a frame alone in flight with nothing waiting, leaves the fabric for the deadline buffer. -/
theorem execRecordArrival_of_onTime {f : Flight} (current : e.val = s.rd OD.EPOCH) (tag : bits w.toNat 24 16 = f.tick % 2 ^ 16)
    (flights : (s.dec st).flights = [f]) (live : f.stale = false) (empty : (s.dec st).buffer = []) (onTime : cycle ≤ f.deadline)
    (tickdiv : 2 ≤ s.rd OD.TICKDIV) : execRecordArrival st w e cycle s =
    .next ((((s.advanceTo cycle).takeRecord o).margin st ((f.deadline : Int) - cycle)).updDec st fun d =>
      { d with buffer := d.buffer ++ [(Rec.ofBits st w, cycle)] }) := by
  have dec : (s.advanceTo cycle).dec st = s.dec st := State.advanceTo_dec s cycle st
  have waits : State.settle st cycle 65 (s.advanceTo cycle) = s.advanceTo cycle := by
    refine State.settle_of_waiting (f := f) (fl := []) (by rw [dec, flights]) ?_ live ?_ 65
    · simp [Decide.held, dec, empty]
    · unfold State.tickdiv; rw [State.rd_advanceTo]; omega
  unfold execRecordArrival
  simp only [found]
  rw [if_neg (by rw [State.rd_advanceTo]; exact not_not_intro current), waits, dec, empty, if_neg (by decide)]
  exact congrArg _ (State.recordIn_of_onTime (s := (s.advanceTo cycle).takeRecord o) (dec.symm ▸ flights) tag.symm (dec.symm ▸ empty) onTime)

end Arrival

/-- What a record that is to wait for its deadline changes: it leaves the fabric, MIN_MARGIN takes its margin, and it stands in the
deadline buffer of its stream. -/
theorem State.arrived (s : State) (st cycle : Nat) (o : RecOut) (r : Rec) {m : Int} (inTime : 0 ≤ m) (empty : (s.dec st).buffer = []) :
    let t := (((s.advanceTo cycle).takeRecord o).margin st m).updDec st fun d => { d with buffer := d.buffer ++ [(r, cycle)] }
    t.dec st = { s.dec st with buffer := [(r, cycle)] } ∧ (∀ q, q ≠ st → t.dec q = s.dec q) ∧
      t.fabric = ((s.advanceTo cycle).takeRecord o).fabric ∧ t.rdI OD.MIN_MARGIN st = min (s.rdI OD.MIN_MARGIN st) m ∧
      keepsCells [OD.MIN_MARGIN.key st] s t ∧ keeps [.clock, .fabric, .dict, .decisions] s t := by
  intro t
  have time := keeps_advanceTo s cycle
  have taken := keeps_takeRecord (s.advanceTo cycle) o
  have margin := keeps_margin ((s.advanceTo cycle).takeRecord o) st m
  have dict : ((s.advanceTo cycle).takeRecord o).dict = s.dict := State.advanceTo_dict s cycle
  have dec (q : Nat) : (((s.advanceTo cycle).takeRecord o).margin st m).dec q = s.dec q := by
    unfold State.dec; rw [margin .decisions (by decide), taken .decisions (by decide), time .decisions (by decide)]
  refine ⟨by rw [State.dec_updDec, dec, empty, List.nil_append], fun q hq => by rw [State.dec_updDec_of_ne _ _ hq, dec],
    margin .fabric (by decide), ?_, ?_, ?_⟩
  · have least := ((s.advanceTo cycle).takeRecord o).rdI_margin st inTime
    have same : ((s.advanceTo cycle).takeRecord o).rdI OD.MIN_MARGIN st = s.rdI OD.MIN_MARGIN st := by
      unfold State.rdI State.rd; rw [dict]
    rwa [same] at least
  · exact keepsCells_trans (keepsCells_trans (keepsCells_of_dict dict) (keepsCells_margin _ _ _)) (keepsCells_of_dict rfl)
  · exact keeps_trans (keeps_mono (by simp) time) <| keeps_trans (keeps_mono (by simp) taken) <|
      keeps_trans (keeps_mono (by simp) margin) (keeps_mono (by simp) (keeps_updDec _ _ _))

/-- An event without severity is no error: of the dictionary it can change the count of lost events alone (R465). -/
theorem keepsCells_raise_of_notice (s : State) {code : Nat} (notice : severity code = 0) (u l : Nat) :
    keepsCells [OD.EVT_LOST_TOTAL.key 0] s (s.raise code u l) := by
  unfold State.raise State.raiseD
  dsimp only
  rw [if_pos notice]
  have pluck (t : State) : (t.pluckError code).dict = t.dict := by
    unfold State.pluckError
    split
    · exact keeps_pluckFrom _ _ _ _ .dict (by decide)
    · rfl
  exact keepsCells_trans (keepsCells_announce _ _ _ _ _) (keepsCells_of_dict (pluck _))

/-- A stale record leaves the fabric and is counted; no decision unit changes. -/
theorem State.staleDiscarded (s : State) (st cycle : Nat) (o : RecOut) :
    let t := ((s.advanceTo cycle).takeRecord o).staleAtPort st
    t.fabric = ((s.advanceTo cycle).takeRecord o).fabric ∧ t.decisions = s.decisions ∧
      t.rd OD.STALE_TOKEN_TOTAL = (s.inc OD.STALE_TOKEN_TOTAL 0).rd OD.STALE_TOKEN_TOTAL ∧
      keeps [.clock, .fabric, .dict, .host, .faults] s t := by
  intro t
  have taken : keeps [.clock, .fabric] s ((s.advanceTo cycle).takeRecord o) :=
    keeps_trans (keeps_advanceTo s cycle) (keeps_mono (by simp) (keeps_takeRecord _ o))
  have counted : keeps [.dict, .host, .faults] ((s.advanceTo cycle).takeRecord o) t :=
    keeps_trans (keeps_mono (by simp) (keeps_inc _ _ _ _)) (keeps_raise _ _ _ _ (by decide))
  have kept : keeps [.clock, .fabric, .dict, .host, .faults] s t :=
    keeps_trans (keeps_mono (by simp) taken) (keeps_mono (by simp) counted)
  refine ⟨counted .fabric (by decide), kept .decisions (by decide), ?_, kept⟩
  calc t.rd OD.STALE_TOKEN_TOTAL
      = (((s.advanceTo cycle).takeRecord o).inc OD.STALE_TOKEN_TOTAL 0).rd OD.STALE_TOKEN_TOTAL :=
        (keepsCells_raise_of_notice _ (by decide) _ _).1 _ _ (by decide)
    _ = (s.inc OD.STALE_TOKEN_TOTAL 0).rd OD.STALE_TOKEN_TOTAL := by
        rw [State.rd_inc_same, State.rd_inc_same, State.rd, State.rd, taken .dict (by decide)]

/-- R17, R45: what no core has emitted does not arrive. -/
theorem execRecordArrival_of_none {s : State} {st : Fin 64} {w : Word64} {cycle : Nat} {e : Fin 8}
    (none' : ∀ o ∈ (s.advanceTo cycle).fabric.recordsOut, o.bits ≠ w) : execRecordArrival st w e cycle s = .next (s.advanceTo cycle) := by
  simp only [execRecordArrival, Fabric.recordFor_of_none none']

/-- Settles O26: a release changes its own stream's decision unit and no other (`keeps_release`), so that a held record, a substitute
and a stale one each answer the oldest frame (`State.answers_release`); a record that comes by the deadline finds nothing due before
it (`State.settle_of_waiting`). -/
theorem deadlineMonitorReleasesRecords : Obligations.DeadlineMonitorReleasesRecords := by
  intro s st f fl flights repairs due tag others left
  refine ⟨fun w cycle e o mem hw epoch port stream => ?_, fun w cycle e none' => execRecordArrival_of_none none', fun r c held => ?_,
    fun notHeld => ⟨fun live => ?_, fun stale => ?_⟩⟩
  · subst hw
    obtain ⟨o', mem', bits', epoch', found⟩ := Fabric.recordFor_of_mem mem port stream
    rw [epoch] at found epoch'
    refine ⟨fun current ftag alone live empty onTime tickdiv => ?_, fun stale => ?_⟩
    · subst alone
      have inTime : (0 : Int) ≤ (due : Int) - cycle := by omega
      obtain ⟨dec, rest, fabric, kept⟩ := s.arrived st cycle o' (Rec.ofBits st o.bits) inTime empty
      exact ⟨_, execRecordArrival_of_onTime found current ftag flights live empty onTime tickdiv,
        dec, rest, ⟨o', mem', bits', epoch', fabric⟩, kept⟩
    · obtain ⟨fabric, kept⟩ := s.staleDiscarded st cycle o'
      exact ⟨_, execRecordArrival_of_stale found stale, ⟨o', mem', bits', epoch', fabric⟩, kept⟩
  · exact ⟨_, execRecordRelease_of_held flights held, State.answers_releaseOldest flights repairs r⟩
  · exact ⟨_, execDeadlineMiss_of_live flights live notHeld, State.answers_missOldest flights repairs⟩
  · exact ⟨_, execStaleRecord_of_stale flights stale notHeld, State.answers_staleOldest flights repairs⟩

end Sys2Proof.Machine
end

section
/-! SUPPORT. Crossings of the fabric: gateways, viaducts, the hub switch and truss routers, each by the flit at the head of a queue. -/

namespace Sys2Proof.Machine

/-! ### Round-robin grants (R65, R132, R147) -/

/-- From any pointer on a round of `n` comes to every source. -/
theorem exists_roundRobin {n x : Nat} (ptr : Nat) (h : x < n) : ∃ i < n, (ptr + i) % n = x := by
  have q := Nat.mod_lt ptr (Nat.zero_lt_of_lt h)
  rcases Nat.lt_or_ge x (ptr % n) with below | above
  · refine ⟨x + n - ptr % n, by omega, ?_⟩
    rw [← Nat.mod_add_mod, show ptr % n + (x + n - ptr % n) = x + n by omega, Nat.add_mod_right, Nat.mod_eq_of_lt h]
  · refine ⟨x - ptr % n, by omega, ?_⟩
    rw [← Nat.mod_add_mod, show ptr % n + (x - ptr % n) = x by omega, Nat.mod_eq_of_lt h]

/-- A search finds the one element of which the predicate holds. -/
theorem find?_eq_some_of_unique {α : Type} {p : α → Bool} {l : List α} {x : α} (mem : x ∈ l) (holds : p x = true)
    (others : ∀ y ∈ l, y ≠ x → p y = false) : l.find? p = some x := by
  obtain ⟨y, found⟩ := Option.isSome_iff_exists.1 (List.find?_isSome.2 ⟨x, mem, holds⟩)
  by_cases same : y = x
  · rw [found, same]
  · exact absurd ((others y (List.mem_of_find?_eq_some found) same).symm.trans (List.find?_some found)) Bool.false_ne_true

/-- Where one source asks, a round grants it, whatever its pointer. -/
theorem roundRobin_find?_of_alone {p : Nat → Bool} {n x : Nat} (ptr : Nat) (h : x < n) (asks : p x = true)
    (others : ∀ y, y < n → y ≠ x → p y = false) : ((List.range n).map fun i => (ptr + i) % n).find? p = some x := by
  have bound : ∀ y ∈ (List.range n).map fun i => (ptr + i) % n, y < n := by
    simp only [List.mem_map]
    rintro _ ⟨i, -, rfl⟩
    exact Nat.mod_lt _ (Nat.zero_lt_of_lt h)
  obtain ⟨i, hi, at_⟩ := exists_roundRobin ptr h
  exact find?_eq_some_of_unique (List.mem_map.2 ⟨i, List.mem_range.2 hi, at_⟩) asks fun y mem => others y (bound y mem)

/-- Where no source asks, none is granted. -/
theorem roundRobin_find?_of_none {p : Nat → Bool} {n : Nat} (ptr : Nat) (none' : ∀ y, y < n → p y = false) :
    ((List.range n).map fun i => (ptr + i) % n).find? p = none := by
  simp only [List.find?_eq_none, List.mem_map, List.mem_range]
  rintro _ ⟨i, hi, rfl⟩
  rw [none' _ (Nat.mod_lt _ (Nat.zero_lt_of_lt hi))]
  exact Bool.false_ne_true

/-! ### The geometry of the package (R140, R142, R150) -/

/-- What the pass-through rows of the dies rest on is the same in two states: the fuses, and PORTABLE. -/
def State.sameGeometry (s t : State) : Prop := t.boot = s.boot ∧ t.rd OD.PORTABLE = s.rd OD.PORTABLE

namespace State.sameGeometry

variable {s t : State} (g : s.sameGeometry t)
include g

theorem disRow (d : Nat) : t.disRow d = s.disRow d := by
  unfold State.disRow State.grade State.fuse
  rw [g.1]

theorem passRow (d r : Nat) : t.passRow d r = s.passRow d r := by
  have grade : t.grade = s.grade := by unfold State.grade State.fuse; rw [g.1]
  unfold State.passRow
  rw [g.disRow, g.2, grade]

theorem rowStep (d : Nat) (down : Bool) : ∀ n r, t.rowStep d down n r = s.rowStep d down n r
  | 0, _ => rfl
  | n + 1, r => by simp only [State.rowStep, g.passRow, rowStep d down n]

theorem trussEnd (c out : Nat) : t.trussEnd c out = s.trussEnd c out := by
  simp only [State.trussEnd, State.logRow, g.rowStep, g.disRow]

theorem viaExit (via chan : Nat) (back : Bool) : t.viaExit via chan back = s.viaExit via chan back := by
  simp only [State.viaExit, State.physRow, g.passRow, g.disRow]

theorem trans {u : State} (h : t.sameGeometry u) : s.sameGeometry u := ⟨h.1.trans g.1, h.2.trans g.2⟩

end State.sameGeometry

/-- An entry's count leaves every other entry alone. -/
theorem State.rd_inc_other (s : State) {e f : Entry} (u n w : Nat) (h : e.idx * 256 + e.sub ≠ f.idx * 256 + f.sub) :
    (s.inc e u n).rd f w = s.rd f w := by
  unfold State.inc
  split <;> exact State.rd_wr_other _ _ _ _ h

/-! ### Gateways (R132, R133) -/

section Gateway

variable {s : State} {c : Fin 256} {outbound : Bool} {port : Fin 12} {ctrl : Bool} {t : Tok} {ts : List Tok}

/-- A gateway queue with its head taken. -/
def State.gateTaken (s : State) (c : Nat) (outbound : Bool) (port : Nat) (ctrl : Bool) (ts : List Tok) : State :=
  { s with fabric.gateQ := SMap.set [] s.fabric.gateQ (gKey c outbound port ctrl) ts }

/-- One source asks for an output, and no control flit goes before a data flit (R133, R147). -/
def State.gateAlone (s : State) (c : Nat) (outbound : Bool) (port : Nat) (ctrl : Bool) (d : GateDest) : Prop :=
  (∀ src, src < gateSources outbound → src ≠ port → s.gateAsks c outbound d ctrl src = false) ∧
  (ctrl = false → ∀ src, src < gateSources outbound → s.gateAsks c outbound d true src = false)

/-- A source of a gateway that is a queue, not the deck. -/
def gateSource (outbound : Bool) (port : Nat) : Prop := outbound = false → port < 8

theorem gateSource.lt_gateSources (source : gateSource outbound port) : port.val < gateSources outbound := by
  cases outbound
  · exact Nat.lt_of_lt_of_le (source rfl) (by decide)
  · exact port.isLt

variable (source : gateSource outbound port) (head : SMap.get [] s.fabric.gateQ (gKey c outbound port ctrl) = t :: ts)
include source head

theorem State.gateAsks_of_head :
    s.gateAsks c outbound (gateDest outbound (s.gateEntry c outbound t)) ctrl port = true := by
  have queue : ¬(outbound = false ∧ port.val = 8) := fun ⟨inbound, deck⟩ => by have := source inbound; omega
  simp [State.gateAsks, queue, State.gateHead, head]

/-- A head that asks alone for an output may go to it as soon as there is room. -/
theorem State.gateMay_of_alone (alone : s.gateAlone c outbound port ctrl (gateDest outbound (s.gateEntry c outbound t))) :
    s.gateMay c outbound (gateDest outbound (s.gateEntry c outbound t)) ctrl port =
      s.gateRoom c (gateDest outbound (s.gateEntry c outbound t)) ctrl := by
  obtain ⟨others, controls⟩ := alone
  have granted : s.gateGrant c outbound (gateDest outbound (s.gateEntry c outbound t)) ctrl = some port.val :=
    roundRobin_find?_of_alone _ source.lt_gateSources (State.gateAsks_of_head source head) others
  have first : (ctrl || !s.gateRoom c (gateDest outbound (s.gateEntry c outbound t)) true ||
      (s.gateGrant c outbound (gateDest outbound (s.gateEntry c outbound t)) true).isNone) = true := by
    cases ctrl
    · have none' : s.gateGrant c outbound (gateDest outbound (s.gateEntry c outbound t)) true = none :=
        roundRobin_find?_of_none _ (controls rfl)
      rw [none', Option.isNone_none, Bool.or_true]
    · rfl
  rw [State.gateMay, granted, first, decide_eq_true rfl, Bool.and_true, Bool.and_true]

/-- What a crossing does with the head of a queue, by where the table sends it. -/
theorem execGatewayCrossing_of_head : exec (.gatewayCrossing c outbound port ctrl) s =
    let e := s.gateEntry c outbound t
    let dest := gateDest outbound e
    let u := s.gateTaken c outbound port ctrl ts
    if dest = .nowhere then .next (u.gatewayFault c (if outbound then port.val else if bits e 6 4 < 12 then bits e 6 4 else 0))
    else if dest = .deck then .next (u.gateOut c dest ctrl { t with label := bits e 2 4 })
    else if s.gateMay c outbound dest ctrl port then
      .next ((u.gateTurn c outbound dest port).gateOut c dest ctrl { t with label := bits e 2 4 })
    else .next s := by
  have queue : ¬(outbound = false ∧ 8 ≤ port.val) := fun ⟨inbound, deck⟩ => by have := source inbound; omega
  have first : s.gateHead c outbound port ctrl = some t := by rw [State.gateHead, head]; rfl
  have taken : SMap.upd [] s.fabric.gateQ (gKey c outbound port ctrl) (List.drop 1) =
      SMap.set [] s.fabric.gateQ (gKey c outbound port ctrl) ts := by rw [SMap.upd, head]; rfl
  show execGatewayCrossing c outbound port ctrl s = _
  simp only [execGatewayCrossing, if_neg queue, first, taken]
  rfl

/-- A head that its table sends nowhere is discarded (R159). -/
theorem execGatewayCrossing_of_nowhere (dest : gateDest outbound (s.gateEntry c outbound t) = .nowhere) :
    completes (.gatewayCrossing c outbound port ctrl) s fun v => ∃ edge, v = (s.gateTaken c outbound port ctrl ts).gatewayFault c edge :=
  ⟨_, (execGatewayCrossing_of_head source head).trans (if_pos dest), _, rfl⟩

theorem execGatewayCrossing_of_deck (dest : gateDest outbound (s.gateEntry c outbound t) = .deck) :
    exec (.gatewayCrossing c outbound port ctrl) s =
      .next ((s.gateTaken c outbound port ctrl ts).toDeck c ctrl { t with label := bits (s.gateEntry c outbound t) 2 4 }) := by
  simp only [execGatewayCrossing_of_head source head, dest]
  rfl

/-- A head that alone asks for a truss lane or an edge goes there where there is room, and the output's pointer moves past it. -/
theorem execGatewayCrossing_of_alone {d : GateDest} (dest : gateDest outbound (s.gateEntry c outbound t) = d)
    (arbitrated : d ≠ .nowhere ∧ d ≠ .deck) (alone : s.gateAlone c outbound port ctrl d) : exec (.gatewayCrossing c outbound port ctrl) s =
      if s.gateRoom c d ctrl then .next (((s.gateTaken c outbound port ctrl ts).gateTurn c outbound d port).gateOut c d ctrl
        { t with label := bits (s.gateEntry c outbound t) 2 4 })
      else .next s := by
  subst dest
  simp only [execGatewayCrossing_of_head source head, State.gateMay_of_alone source head alone, if_neg arbitrated.1, if_neg arbitrated.2]

end Gateway

/-! ### Viaducts (R142, R145, R146) -/

section Viaduct

variable {s : State} {via : Fin 8} {chan : Fin 64} {lane : Fin 8} {ctrl back : Bool} {t : Tok} {ts : List Tok}

/-- A viaduct channel lane with its head taken. -/
def State.viaTaken (s : State) (via chan lane : Nat) (ctrl back : Bool) (ts : List Tok) : State :=
  { s with fabric.viaQ := SMap.set [] s.fabric.viaQ (vKey via chan lane ctrl back) ts }

variable (head : SMap.get [] s.fabric.viaQ (vKey via chan lane ctrl back) = t :: ts)
include head

/-- R145: a flit with a double-bit error is lost, whether there is room for it or not. -/
theorem execViaductCrossing_uncorrected : exec (.viaductCrossing via chan lane ctrl back .uncorrected) s =
    .next ((s.viaTaken via chan lane ctrl back ts).viaError via chan back) := by
  show execViaductCrossing via chan lane ctrl back .uncorrected s = _
  simp only [execViaductCrossing, head]
  rfl

variable (room : s.viaRoom via chan lane ctrl back = true)
include room

theorem execViaductCrossing_ok : exec (.viaductCrossing via chan lane ctrl back .ok) s =
    .next ((s.viaTaken via chan lane ctrl back ts).viaLand via chan lane ctrl back t) := by
  show execViaductCrossing via chan lane ctrl back .ok s = _
  simp only [execViaductCrossing, head, room]
  rfl

theorem execViaductCrossing_corrected : exec (.viaductCrossing via chan lane ctrl back .corrected) s =
    .next (((s.viaTaken via chan lane ctrl back ts).inc OD.VIA_CE via).viaLand via chan lane ctrl back t) := by
  show execViaductCrossing via chan lane ctrl back .corrected s = _
  simp only [execViaductCrossing, head, room]
  rfl

end Viaduct

section Landing

variable {s : State} {via chan lane : Nat} {ctrl back : Bool} {t : Tok}

/-- A die-to-die viaduct ends at a boundary truss router (R142). -/
theorem State.viaRoom_of_die (die : via < 4) : s.viaRoom via chan lane ctrl back =
    decide ((s.tq (trKey (s.viaExit via (chan % 8) back).1 (s.viaExit via (chan % 8) back).2 lane ctrl)).length < 4) := if_pos die

theorem State.viaLand_of_die (die : via < 4) : s.viaLand via chan lane ctrl back t =
    s.setTq (trKey (s.viaExit via (chan % 8) back).1 (s.viaExit via (chan % 8) back).2 lane ctrl)
      (s.tq (trKey (s.viaExit via (chan % 8) back).1 (s.viaExit via (chan % 8) back).2 lane ctrl) ++ [t]) := if_pos die

/-- A hub viaduct ends at the hub port of a truss router on its way back, at the hub's switch otherwise (R146). -/
theorem State.viaRoom_of_hub_back (hub : 4 ≤ via) : s.viaRoom via chan lane ctrl true =
    decide ((s.tq (trKey (64 * (via - 4) + chan) 5 (lane % 4) ctrl)).length < 4) := if_neg (Nat.not_lt.2 hub)

theorem State.viaLand_of_hub_back (hub : 4 ≤ via) : s.viaLand via chan lane ctrl true t =
    s.setTq (trKey (64 * (via - 4) + chan) 5 (lane % 4) ctrl) (s.tq (trKey (64 * (via - 4) + chan) 5 (lane % 4) ctrl) ++ [t]) :=
  if_neg (Nat.not_lt.2 hub)

theorem State.viaRoom_of_hub (hub : 4 ≤ via) : s.viaRoom via chan lane ctrl false =
    decide ((SMap.get [] s.fabric.hubQ (hKey (via - 4) chan lane ctrl)).length < 4) := if_neg (Nat.not_lt.2 hub)

theorem State.viaLand_of_hub (hub : 4 ≤ via) : s.viaLand via chan lane ctrl false t =
    { s with fabric.hubQ := SMap.upd [] s.fabric.hubQ (hKey (via - 4) chan lane ctrl) fun q => q ++ [t] } := if_neg (Nat.not_lt.2 hub)

end Landing

/-- Taking a head from a viaduct, and counting it as corrected, move no boundary router. -/
theorem State.viaTaken_sameGeometry (s : State) (via chan lane : Nat) (ctrl back : Bool) (ts : List Tok) :
    s.sameGeometry (s.viaTaken via chan lane ctrl back ts) := ⟨rfl, rfl⟩

theorem State.viaCe_sameGeometry (s : State) (via : Nat) : s.sameGeometry (s.inc OD.VIA_CE via) :=
  ⟨State.inc_boot _ _ _ _, State.rd_inc_other _ _ _ _ (by decide)⟩

/-! ### The hub switch (R146, R147) -/

section Hub

variable {s : State} {src : Fin 5} {chan : Fin 64} {lane : Fin 4} {ctrl : Bool} {t : Tok} {ts : List Tok} {r : Relay}

/-- A hub switch queue with its head taken. -/
def State.hubTaken (s : State) (src chan lane : Nat) (ctrl : Bool) (ts : List Tok) : State :=
  { s with fabric.hubQ := SMap.set [] s.fabric.hubQ (hKey src chan lane ctrl) ts }

variable (head : SMap.get [] s.fabric.hubQ (hKey src chan lane ctrl) = t :: ts) (relay : s.relayOf src chan lane t.label = some r)
include head relay

theorem State.hubDest_of_head : s.hubDest src chan lane ctrl = some r := by simp [State.hubDest, head, relay]

theorem State.hubAsks_of_head {d dchan dlane : Nat} (dest : r.dest = .die d dchan dlane) (arbitrated : r.reserved = false) :
    s.hubAsks d src ctrl = true := by
  refine List.any_eq_true.2 ⟨chan, List.mem_range.2 chan.isLt, List.any_eq_true.2 ⟨lane, List.mem_range.2 lane.isLt, ?_⟩⟩
  simp [State.hubDest_of_head head relay, dest, arbitrated]

/-- Its flit may leave for a die where its relay is reserved, or where no other source asks for the die. -/
theorem State.hubMay_of_alone {d dchan dlane : Nat} (dest : r.dest = .die d dchan dlane)
    (alone : r.reserved = false → (∀ x, x < 5 → x ≠ src.val → s.hubAsks d x ctrl = false) ∧
      (ctrl = false → ∀ x, x < 5 → s.hubAsks d x true = false)) : s.hubMay r d src ctrl = true := by
  by_cases reserved : r.reserved = true
  · rw [State.hubMay, reserved, Bool.true_or]
  · have arbitrated : r.reserved = false := Bool.eq_false_iff.2 reserved
    obtain ⟨others, controls⟩ := alone arbitrated
    have granted : s.hubGrant d ctrl = some src.val :=
      roundRobin_find?_of_alone _ src.isLt (State.hubAsks_of_head head relay dest arbitrated) others
    have first : (ctrl || (s.hubGrant d true).isNone) = true := by
      cases ctrl
      · exact Option.isNone_iff_eq_none.2 (roundRobin_find?_of_none _ (controls rfl))
      · rfl
    rw [State.hubMay, granted, first, decide_eq_true rfl, Bool.and_true, Bool.or_true]

theorem execHubRelay_of_block {n : Nat} (dest : r.dest = .block n) :
    exec (.hubRelay src chan lane ctrl) s = .next (s.hubTaken src chan lane ctrl ts) := by
  show execHubRelay src chan lane ctrl s = _
  simp only [execHubRelay, head, State.hubDest_of_head head relay, dest]
  rfl

/-- Towards a die a flit waits for room in the viaduct and for its grant; the pointer moves unless the relay is reserved. -/
theorem execHubRelay_of_die {d : Fin 4} {dchan : Fin 64} {dlane : Fin 4} (dest : r.dest = .die d dchan dlane) :
    exec (.hubRelay src chan lane ctrl) s =
      if (SMap.get [] s.fabric.viaQ (vKey (4 + d.val) dchan dlane ctrl true)).length < 4 ∧ s.hubMay r d src ctrl = true then
        .next ((if r.reserved then s.hubTaken src chan lane ctrl ts
          else { s.hubTaken src chan lane ctrl ts with fabric.hubRr := SMap.set 0 s.fabric.hubRr d ((src.val + 1) % 5) }).toVia
            (vKey (4 + d.val) dchan dlane ctrl true) t)
      else .next s := by
  have hd : d.val % 4 = d.val := Nat.mod_eq_of_lt d.isLt
  have hl : dlane.val % 4 = dlane.val := Nat.mod_eq_of_lt dlane.isLt
  show execHubRelay src chan lane ctrl s = _
  simp only [execHubRelay, head, State.hubDest_of_head head relay, dest, hd, hl]
  rfl

end Hub

/-! ### Where a gateway table sends a flit (R133) -/

theorem gateDest_of_nowhere {outbound : Bool} {e : Nat} (op : bits e 0 2 = 0) : gateDest outbound e = .nowhere := by simp [gateDest, op]

theorem gateDest_of_deck {outbound : Bool} {e : Nat} (op : bits e 0 2 = 2) : gateDest outbound e = .deck := by simp [gateDest, op]

theorem gateDest_of_truss {e : Nat} (op : bits e 0 2 = 1) : gateDest true e = .truss (bits e 10 3) := by simp [gateDest, op]

theorem gateDest_of_mesh {e : Nat} (op : bits e 0 2 = 3) (edge : bits e 6 4 < 12) : gateDest false e = .mesh (bits e 6 4) := by
  simp [gateDest, op, edge]

/-- Settles O20: a crossing does with the head of a queue what its table says (`execGatewayCrossing_of_head`), a viaduct lands it where
the channel ends (`State.viaLand`), and the hub switch relays it where it alone asks (`State.hubMay_of_alone`). -/
theorem gatewayViaductAndHubCrossings : Obligations.GatewayViaductAndHubCrossings := by
  intro s t ts ctrl
  refine ⟨fun c outbound port source head => ?_, fun via chan lane back head => ?_, fun src chan lane r head relay => ?_⟩
  · refine ⟨fun out op alone room => ?_, fun op => execGatewayCrossing_of_deck source head (gateDest_of_deck op), ?_,
      fun op => execGatewayCrossing_of_nowhere source head (gateDest_of_nowhere op)⟩
    · subst out
      exact (execGatewayCrossing_of_alone source head (gateDest_of_truss op) (by simp) alone).trans (if_pos (decide_eq_true room))
    · rintro k rfl op edge alone rfl
      have crossing := execGatewayCrossing_of_alone source head (gateDest_of_mesh op edge) (by simp) alone
      exact ⟨fun room => crossing.trans (if_pos (decide_eq_true room)),
        fun full => crossing.trans (if_neg fun room => Nat.not_lt.2 full (of_decide_eq_true room))⟩
  · refine ⟨fun die room => ?_, fun k hub dir key room => ?_, fun k hub dir key room => ?_, execViaductCrossing_uncorrected head⟩
    · have free : s.viaRoom via chan lane ctrl back = true := (State.viaRoom_of_die die).trans (decide_eq_true room)
      have taken := State.viaTaken_sameGeometry s via chan lane ctrl back ts
      have counted := (State.viaTaken_sameGeometry s via chan lane ctrl back ts).trans (State.viaCe_sameGeometry _ via)
      refine ⟨(execViaductCrossing_ok head free).trans ?_, (execViaductCrossing_corrected head free).trans ?_⟩
      · rw [State.viaLand_of_die die, taken.viaExit]
        rfl
      · rw [State.viaLand_of_die die, counted.viaExit, State.tq, State.inc_fabric]
        rfl
    · subst dir key
      have free := (State.viaRoom_of_hub_back (chan := chan) (ctrl := ctrl) hub).trans (decide_eq_true room)
      rw [execViaductCrossing_ok head free, State.viaLand_of_hub_back hub]
      rfl
    · subst dir key
      have free := (State.viaRoom_of_hub (chan := chan) (ctrl := ctrl) hub).trans (decide_eq_true room)
      rw [execViaductCrossing_ok head free, State.viaLand_of_hub hub]
      rfl
  · refine ⟨fun n dest => execHubRelay_of_block head relay dest, fun d dchan dlane dest => ?_⟩
    have relays := execHubRelay_of_die head relay dest
    refine ⟨fun full => relays.trans (if_neg fun may => Nat.not_lt.2 full may.1), fun room =>
      ⟨fun reserved => ?_, fun arbitrated others controls => ?_⟩⟩
    · have may := State.hubMay_of_alone head relay dest fun arbitrated => absurd (reserved.symm.trans arbitrated) (by decide)
      rw [relays, if_pos ⟨room, may⟩, if_pos reserved]
      rfl
    · have may := State.hubMay_of_alone head relay dest fun _ => ⟨others, controls⟩
      rw [relays, if_pos ⟨room, may⟩, arbitrated]
      rfl

end Sys2Proof.Machine
end

section
/-! SUPPORT. A truss router's grant to the only flit that waits at it. -/

namespace Sys2Proof.Machine

/-! ### Truss routers (R140, R141, R147) -/

/-- A fold whose steps leave the state as it is, for every element there is, leaves it as it is. -/
theorem foldl_eq_self {α β : Type} {f : β → α → β} {b : β} : ∀ {l : List α}, (∀ x ∈ l, f b x = b) → l.foldl f b = b
  | [], _ => rfl
  | x :: l, same => by
    rw [List.foldl_cons, same x List.mem_cons_self]
    exact foldl_eq_self fun y mem => same y (List.mem_cons_of_mem x mem)

/-- The grant order names every input port with every lane, and nothing else. -/
theorem mem_trussOrder {ptr : Nat} {pl : Nat × Nat} : pl ∈ trussOrder ptr ↔ pl.1 < 6 ∧ pl.2 < 8 := by
  obtain ⟨port, lane⟩ := pl
  simp only [trussOrder, List.mem_flatten, List.mem_map, List.mem_range]
  constructor
  · rintro ⟨_, ⟨i, -, rfl⟩, mem⟩
    obtain ⟨l, hl, same⟩ := List.mem_map.1 mem
    obtain ⟨rfl, rfl⟩ := Prod.mk.inj same
    exact ⟨Nat.mod_lt _ (by decide), List.mem_range.1 hl⟩
  · rintro ⟨hp, hl⟩
    obtain ⟨i, hi, rfl⟩ := exists_roundRobin ptr hp
    exact ⟨_, ⟨i, hi, rfl⟩, List.mem_map.2 ⟨lane, List.mem_range.2 hl, rfl⟩⟩

theorem bit_two_pow_self (n : Nat) : bit (2 ^ n) n = true := by
  rw [bit, Nat.shiftRight_eq_div_pow, Nat.div_self (Nat.two_pow_pos n)]
  rfl

/-- At a truss router no flit waits but at one input lane of one port, on one channel. -/
def State.trussAlone (s : State) (c port il : Nat) (ctrl : Bool) : Prop :=
  ∀ port' il' ctrl', port' < 6 → il' < 8 → (port', il', ctrl') ≠ (port, il, ctrl) → s.tq (trKey c port' il' ctrl') = []

section Hop

variable {s : State} {c : Fin 256} {port il : Nat} {out : Fin 6} {lane : Fin 8} {ctrl : Bool} {t : Tok} {ts : List Tok}

/-- A head at a truss router with a valid route to one output lane, where it has not been served (R141). -/
structure State.TrussHead (s : State) (c : Fin 256) (port il : Nat) (out : Fin 6) (lane : Fin 8) (ctrl : Bool) (t : Tok) (ts : List Tok) :
    Prop where
  port_lt : port < 6
  lane_lt : il < 8
  unserved : t.served = 0
  queue : s.tq (trKey c port il ctrl) = t :: ts
  alone : s.trussAlone c port il ctrl
  mask : trussMask (s.trussEntry c port il ctrl t.label) = 2 ^ out.val
  lane_eq : (if out = 5 then bits (s.trussEntry c port il ctrl t.label) 6 3 % 4 else bits (s.trussEntry c port il ctrl t.label) 6 3) = lane.val

variable (h : s.TrussHead c port il out lane ctrl t ts)
include h

theorem State.TrussHead.mem_order (ptr : Nat) : (port, il) ∈ trussOrder ptr := mem_trussOrder.2 ⟨h.port_lt, h.lane_lt⟩

/-- No head of the router is without an output, so none is discarded. -/
theorem State.TrussHead.dropTruss_eq (ctrl' : Bool) : s.dropTruss c ctrl' = s := by
  refine foldl_eq_self fun pl mem => ?_
  obtain ⟨hp, hl⟩ := mem_trussOrder.1 mem
  by_cases same : (pl.1, pl.2, ctrl') = (port, il, ctrl)
  · obtain ⟨rfl, rfl, rfl⟩ : pl.1 = port ∧ pl.2 = il ∧ ctrl' = ctrl := by simpa using same
    simp [h.queue, h.mask]
  · simp [h.alone _ _ _ hp hl same]

theorem State.TrussHead.asks : s.trussAsks c out lane ctrl (port, il) = true := by
  have lane_eq := h.lane_eq
  have out_eq : (out.val = 5) = (out = 5) := by rw [Fin.ext_iff]; rfl
  simp only [State.trussAsks, h.queue, h.mask, h.unserved, bit_two_pow_self, out_eq, lane_eq]
  simp [bit]

theorem State.TrussHead.asks_of_ne {pl : Nat × Nat} {ctrl' : Bool} {ptr : Nat} (mem : pl ∈ trussOrder ptr)
    (ne : (pl.1, pl.2, ctrl') ≠ (port, il, ctrl)) : s.trussAsks c out lane ctrl' pl = false := by
  obtain ⟨hp, hl⟩ := mem_trussOrder.1 mem
  simp [State.trussAsks, h.alone _ _ _ hp hl ne]

theorem State.TrussHead.granted (ptr : Nat) : (trussOrder ptr).find? (s.trussAsks c out lane ctrl) = some (port, il) :=
  find?_eq_some_of_unique (h.mem_order ptr) h.asks fun pl mem ne => h.asks_of_ne mem fun same => ne (by
    obtain ⟨rfl, rfl, -⟩ : pl.1 = port ∧ pl.2 = il ∧ True := by simpa using same
    rfl)

/-- The other channel has nothing to grant. -/
theorem State.TrussHead.granted_other {ctrl' : Bool} (other : ctrl' ≠ ctrl) (ptr : Nat) :
    (trussOrder ptr).find? (s.trussAsks c out lane ctrl') = none :=
  List.find?_eq_none.2 fun _ mem asks => by
    rw [h.asks_of_ne mem fun same => other (Prod.mk.inj (Prod.mk.inj same).2).2] at asks
    exact Bool.false_ne_true asks

/-- A hop grants the flit where its output lane has room. -/
theorem State.TrussHead.exec_eq (room : s.trussRoom c out lane ctrl = true) (ecc : Ecc) : exec (.trussHop c out lane ecc) s =
    .next (s.trussMove c out lane ctrl (port, il) (decide (ecc = .uncorrected))) := by
  show execTrussHop c out lane ecc s = _
  unfold execTrussHop
  simp only [h.dropTruss_eq]
  cases ctrl
  · simp only [h.granted_other (ctrl' := true) (by decide), h.granted, room]
  · simp only [h.granted, room]

/-- The router once the flit has left its queue: the pointer of an output lane that is not reserved has moved past its port (R147). -/
def State.trussTaken (s : State) (c port il out lane : Nat) (ctrl : Bool) (ts : List Tok) : State :=
  if s.laneReserved c out lane = true then s.setTq (trKey c port il ctrl) ts
  else { s.setTq (trKey c port il ctrl) ts with fabric.trussRr := SMap.set 0 s.fabric.trussRr ((c * 6 + out) * 8 + lane) ((port + 1) % 6) }

/-- The flit granted is served everywhere it goes, so that it leaves its queue. -/
theorem State.TrussHead.trussMove_eq (ue : Bool) : s.trussMove c out lane ctrl (port, il) ue =
    (s.trussTaken c port il out lane ctrl ts).trussDeliver c out lane ctrl
      { t with label := bits (s.trussEntry c port il ctrl t.label) 9 4, served := 0 } ue := by
  simp only [State.trussMove, h.queue, h.mask, h.unserved, Nat.zero_or, Nat.and_self, if_true]
  rfl

omit h in
theorem State.trussTaken_sameGeometry (s : State) (c port il out lane : Nat) (ctrl : Bool) (ts : List Tok) :
    s.sameGeometry (s.trussTaken c port il out lane ctrl ts) := by
  unfold State.trussTaken
  split <;> exact ⟨rfl, rfl⟩

omit h in
theorem State.trussTaken_queues (s : State) (c port il out lane : Nat) (ctrl : Bool) (ts : List Tok) :
    (s.trussTaken c port il out lane ctrl ts).fabric.viaQ = s.fabric.viaQ ∧
    (s.trussTaken c port il out lane ctrl ts).fabric.gateQ = s.fabric.gateQ := by
  unfold State.trussTaken
  split <;> exact ⟨rfl, rfl⟩

/-- The flit goes to the far end of the port (R140, R142). -/
theorem State.TrussHead.exec_of_end (room : s.trussRoom c out lane ctrl = true) {e : TrussEnd} (at_ : s.trussEnd c out = e) (ecc : Ecc) :
    (s.trussTaken c port il out lane ctrl ts).trussEnd c out = e ∧ exec (.trussHop c out lane ecc) s =
      .next ((s.trussTaken c port il out lane ctrl ts).trussDeliver c out lane ctrl
        { t with label := bits (s.trussEntry c port il ctrl t.label) 9 4, served := 0 } (decide (ecc = .uncorrected))) :=
  ⟨((s.trussTaken_sameGeometry c port il out lane ctrl ts).trussEnd c out).trans at_, by rw [h.exec_eq room, h.trussMove_eq]⟩

end Hop

/-- Settles O21: nothing is discarded and only one flit asks (`State.TrussHead.exec_eq`), and the far end of a port does not depend on the
queues (`State.sameGeometry.trussEnd`). -/
theorem trussHopMovesTheWaitingFlit : Obligations.TrussHopMovesTheWaitingFlit := by
  intro s c port il out lane ctrl t ts port_lt lane_lt unserved queue alone e valid single lane_eq room u t'
  have h : s.TrussHead c port il out lane ctrl t ts :=
    ⟨port_lt, lane_lt, unserved, queue, alone, (if_pos valid).trans single, lane_eq⟩
  have taken : u = s.trussTaken c port il out lane ctrl ts := rfl
  have lands {far : TrussEnd} (at_ : s.trussEnd c out = far) (ecc : Ecc) : u.trussEnd c out = far ∧ exec (.trussHop c out lane ecc) s =
      .next (u.trussDeliver c out lane ctrl t' (decide (ecc = .uncorrected))) := taken ▸ h.exec_of_end room at_ ecc
  obtain ⟨viaQ, gateQ⟩ : u.fabric.viaQ = s.fabric.viaQ ∧ u.fabric.gateQ = s.fabric.gateQ :=
    s.trussTaken_queues c port il out lane ctrl ts
  clear_value u
  refine ⟨fun n q at_ => ⟨?_, ?_, ?_⟩, fun via chan back ecc at_ => ?_, fun ecc at_ => ?_, fun ecc at_ => ?_⟩
  · obtain ⟨far, hop⟩ := lands at_ .ok
    rw [hop, State.trussDeliver, far]
    rfl
  · rw [(lands at_ .ok).2, (lands at_ .corrected).2]
    rfl
  · obtain ⟨far, hop⟩ := lands at_ .uncorrected
    rw [hop, State.trussDeliver, far]
    rfl
  all_goals
    obtain ⟨far, hop⟩ := lands at_ ecc
    rw [hop, State.trussDeliver, far]
    simp only [State.toVia, viaQ, gateQ]

end Sys2Proof.Machine
end

section
/-! SUPPORT. The words of cluster memory that deck entries write, and when they are read. -/

namespace Sys2Proof.Machine

/-! ### Words of cluster memory (R138, R159) -/

namespace Cluster

variable {k : Cluster} {now a b m : Nat} {w : DeckWord}

/-- A word's bank is in service, and no write of the word is on its way that lands later than four cycles from now. -/
structure Settles (k : Cluster) (now a : Nat) : Prop where
  inService : k.bankOut a = false
  landed : ∀ x ∈ k.memOld, x.1 = a → x.2.1 ≤ now + 4

@[simp] theorem bankOut_writeAt : (k.writeAt now b w).bankOut a = k.bankOut a := by
  unfold writeAt
  split <;> rfl

/-- A write keeps every word settling: the one it puts on its way lands in four cycles. -/
theorem Settles.writeAt (h : k.Settles now a) : (k.writeAt now b w).Settles now a := by
  refine ⟨bankOut_writeAt.trans h.inService, fun x mem at_ => ?_⟩
  unfold Cluster.writeAt at mem
  split at mem
  · exact h.landed x mem at_
  · rcases List.mem_append.1 mem with old | new
    · exact h.landed x (List.mem_filter.1 old).1 at_
    · obtain rfl := List.mem_singleton.1 new
      exact Nat.le_refl _

/-- The write of a word that is looked up at a cycle. -/
def onItsWay (m a : Nat) (x : Nat × Nat × DeckWord) : Bool := decide (x.1 = a ∧ m < x.2.1)

theorem wordAt_of_bankOut (out : k.bankOut a = true) : k.wordAt m a = { data := BitVec.ofNat 64 causeMem.toNat, v := true } := if_pos out

theorem wordAt_of_inService (inService : k.bankOut a = false) :
    k.wordAt m a = ((k.memOld.find? (onItsWay m a)).map fun x => x.2.2).getD (SMap.get {} k.mem a) := by
  unfold wordAt
  rw [if_neg (by rw [inService]; exact Bool.false_ne_true)]
  show (match k.memOld.find? (onItsWay m a) with | some x => x.2.2 | none => _) = _
  cases k.memOld.find? (onItsWay m a) <;> rfl

/-- Four cycles on no write of a word that settles is on its way. -/
theorem Settles.wordAt (h : k.Settles now a) (late : now + 4 ≤ m) : k.wordAt m a = SMap.get {} k.mem a := by
  have none' : k.memOld.find? (onItsWay m a) = none := by
    refine List.find?_eq_none.2 fun x mem found => ?_
    obtain ⟨at_, early⟩ := of_decide_eq_true found
    have := h.landed x mem at_
    omega
  rw [wordAt_of_inService h.inService, none']
  rfl

/-- Writes that have landed are forgotten four cycles later, when no read looks them up any more. -/
theorem find?_filter_onItsWay (l : List (Nat × Nat × DeckWord)) (late : now ≤ m) :
    (l.filter fun x => decide (now < x.2.1 + 4)).find? (onItsWay m a) = l.find? (onItsWay m a) := by
  rw [List.find?_filter]
  congr 1
  funext x
  have kept : m < x.2.1 → now < x.2.1 + 4 := by omega
  exact decide_eq_decide.2 ⟨fun both => of_decide_eq_true both.2, fun way => ⟨decide_eq_true (kept way.2), decide_eq_true way⟩⟩

theorem writeAt_of_inService (inService : k.bankOut b = false) : k.writeAt now b w = { k with
    mem := SMap.set {} k.mem b w,
    memOld := (k.memOld.filter fun x => decide (now < x.2.1 + 4)) ++ [(b, now + 4, SMap.get {} k.mem b)] } :=
  if_neg (by rw [inService]; exact Bool.false_ne_true)

/-- R138: a word written reads as before for four cycles, and as written from then on; every other word reads as before. -/
theorem Settles.wordAt_writeAt (h : k.Settles now b) (w : DeckWord) (from_ : now ≤ m) :
    (k.writeAt now b w).wordAt m a = if a = b ∧ now + 4 ≤ m then w else k.wordAt m a := by
  by_cases out : k.bankOut a = true
  · have other : a ≠ b := fun same => by rw [same, h.inService] at out; exact Bool.false_ne_true out
    rw [if_neg fun both => other both.1, wordAt_of_bankOut out, wordAt_of_bankOut (bankOut_writeAt.trans out)]
  · have inService : k.bankOut a = false := Bool.eq_false_iff.2 out
    by_cases both : a = b ∧ now + 4 ≤ m
    · obtain ⟨rfl, late⟩ := both
      rw [if_pos ⟨rfl, late⟩, h.writeAt.wordAt late, writeAt_of_inService h.inService, SMap.get_set_same]
    · rw [if_neg both, wordAt_of_inService (bankOut_writeAt.trans inService), wordAt_of_inService inService, writeAt_of_inService h.inService]
      simp only [List.find?_append, find?_filter_onItsWay _ from_]
      cases k.memOld.find? (onItsWay m a) with
      | some x => rfl
      | none =>
        by_cases same : a = b
        · have way : onItsWay m a (b, now + 4, SMap.get {} k.mem b) = true :=
            decide_eq_true ⟨same.symm, Nat.not_le.1 fun late => both ⟨same, late⟩⟩
          rw [List.find?_cons_of_pos way, same]
          rfl
        · have way : ¬onItsWay m a (b, now + 4, SMap.get {} k.mem b) = true := fun way => same (of_decide_eq_true way).1.symm
          rw [List.find?_cons_of_neg way, SMap.get_set_of_ne _ _ _ same]
          rfl

/-- R138: words of a slot all written alike read so from four cycles on, and still settle. -/
theorem wordAt_writes (now : Nat) (w : DeckWord) (late : now + 4 ≤ m) : ∀ (as : List Nat) (k : Cluster), (∀ b ∈ as, k.Settles now b) →
    ∀ a, (as.foldl (fun k b => k.writeAt now b w) k).wordAt m a = if a ∈ as then w else k.wordAt m a
  | [], _, _, _ => by simp
  | b :: as, k, settles, a => by
    have step := (settles b List.mem_cons_self).wordAt_writeAt (a := a) (m := m) w (by omega)
    rw [List.foldl_cons, wordAt_writes now w late as _ (fun x mem => (settles x (List.mem_cons_of_mem b mem)).writeAt), step]
    by_cases head : a = b
    · simp [head, late]
    · simp [head]

theorem fillSlot_eq (k : Cluster) (now e slot : Nat) (w : DeckWord) :
    k.fillSlot now e slot w = ((List.range (dkCount e + 1)).map (deckAddr e slot)).foldl (fun k b => k.writeAt now b w) k := by
  rw [List.foldl_map]
  rfl

theorem wordAt_fillSlot {e slot i : Nat} (settles : ∀ i, i ≤ dkCount e → k.Settles now (deckAddr e slot i)) (late : now + 4 ≤ m)
    (within : i ≤ dkCount e) : (k.fillSlot now e slot w).wordAt m (deckAddr e slot i) = w := by
  have all : ∀ b ∈ (List.range (dkCount e + 1)).map (deckAddr e slot), k.Settles now b := by
    intro b mem
    obtain ⟨i, hi, rfl⟩ := List.mem_map.1 mem
    exact settles i (Nat.le_of_lt_succ (List.mem_range.1 hi))
  rw [fillSlot_eq, wordAt_writes now w late _ _ all]
  exact if_pos (List.mem_map.2 ⟨i, List.mem_range.2 (Nat.lt_succ_of_le within), rfl⟩)

theorem Settles.setWritten (h : k.Settles now a) (n stag ring : Nat) (c : Option Nat) : (k.setWritten n stag ring c).Settles now a :=
  ⟨h.inService, h.landed⟩

@[simp] theorem writtenOf_setWritten (k : Cluster) (n stag ring c : Nat) : (k.setWritten n stag ring (some c)).writtenOf n stag = c := by
  simp [writtenOf, setWritten]

end Cluster
/-! ### One cluster's update -/

@[simp] theorem State.cluster_updCluster (s : State) (c : Nat) (f : Cluster → Cluster) : (s.updCluster c f).cluster c = f (s.cluster c) :=
  SMap.get_set_same _ _ _ _

theorem keepsClusters_updCluster (s : State) (c : Nat) (f : Cluster → Cluster) : keepsClusters c s (s.updCluster c f) :=
  ⟨fun _ other => SMap.get_set_of_ne _ _ _ other, rfl⟩

theorem keepsClusters_trans {c : Nat} {s t u : State} (a : keepsClusters c s t) (b : keepsClusters c t u) : keepsClusters c s u :=
  ⟨fun n other => (b.1 n other).trans (a.1 n other), by rw [b.2, a.2]⟩

theorem keeps_updCluster (s : State) (c : Nat) (f : Cluster → Cluster) : keeps [.fabric] s (s.updCluster c f) := by
  intro p hp; cases p <;> first | exact absurd (by decide) hp | rfl

theorem keeps_deckLanded (s : State) (c : Nat) (ctrl : Bool) (t : Tok) : keeps [.fabric] s (s.deckLanded c ctrl t) := by
  intro p hp; cases p <;> first | exact absurd (by decide) hp | rfl

/-! ### Handoff rings (R204, R205) -/

section Handoff

variable {s t : State} {c n st : Nat}

/-- What the fabric holds does not say where an entry's frames go. -/
theorem State.handoffOf_of_keeps (same : keeps [.fabric] s t) (c n : Nat) : t.handoffOf c n = s.handoffOf c n := by
  have act : t.act = s.act := same .act (by decide)
  have boot : t.boot = s.boot := same .boot (by decide)
  have logical : t.logicalCluster c = s.logicalCluster c := by
    unfold State.logicalCluster State.disRow State.dieRows State.grade State.fuse
    rw [boot]
  unfold State.handoffOf State.deepCfg
  rw [act, logical]

theorem State.handoffDone_of_none (none' : s.handoffOf c n = none) (e slot tick : Nat) (void : Bool) :
    s.handoffDone c n e slot tick void = s := by
  unfold State.handoffDone
  rw [none']

theorem State.handoffPush_of_room (room : (s.ring st).length < s.deepCfg.hqDepth) (h : Handoff) :
    s.handoffPush st h = { s with deep.rings := SMap.set [] s.deep.rings st (s.ring st ++ [h]) } := by
  unfold State.handoffPush
  simp only [decide_eq_false (Nat.not_le.2 room), Bool.false_eq_true, if_false]

/-- A frame of a handoff entry puts eight words in its stream's ring, which had room, while no core is in repair. -/
theorem State.handoffDone_of_room (feeds : s.handoffOf c n = some st) (room : (s.ring st).length < s.deepCfg.hqDepth)
    (repairs : s.faults.repairs = []) (e slot tick : Nat) (void : Bool) :
    (s.handoffDone c n e slot tick void).ring st = s.ring st ++
        [{ bits := if void then BitVec.ofNat 512 (2 ^ 392) else (s.cluster c).slotBits e slot, tick := tick }] ∧
      keeps [.deep] s (s.handoffDone c n e slot tick void) := by
  have pushed : s.handoffDone c n e slot tick void = { s with
      deep.handTag := SMap.set 0 s.deep.handTag st (tick % 2 ^ 16 + 1),
      deep.rings := SMap.set [] s.deep.rings st (s.ring st ++
        [{ bits := if void then BitVec.ofNat 512 (2 ^ 392) else (s.cluster c).slotBits e slot, tick := tick }]) } := by
    unfold State.handoffDone
    rw [feeds]
    simp only [State.repairing_of_no_repairs repairs, Bool.false_eq_true, if_false, BitVec.or_zero]
    refine (State.handoffPush_of_room ?_ _).trans rfl
    exact room
  rw [pushed]
  refine ⟨SMap.get_set_same _ _ _ _, fun p hp => ?_⟩
  cases p <;> first | exact absurd (by decide) hp | rfl

/-- The same where the deck has changed the fabric before. -/
theorem State.handoffDone_after (same : keeps [.fabric] s t) (feeds : s.handoffOf c n = some st)
    (room : (s.ring st).length < s.deepCfg.hqDepth) (repairs : s.faults.repairs = []) (e slot tick : Nat) (void : Bool) :
    (t.handoffDone c n e slot tick void).ring st = s.ring st ++
        [{ bits := if void then BitVec.ofNat 512 (2 ^ 392) else (t.cluster c).slotBits e slot, tick := tick }] ∧
      keeps [.deep] t (t.handoffDone c n e slot tick void) := by
  have ring : t.ring st = s.ring st := by rw [State.ring, same .deep (by decide), State.ring]
  have cfg : t.deepCfg = s.deepCfg := by rw [State.deepCfg, same .act (by decide), State.deepCfg]
  have faults : t.faults = s.faults := same .faults (by decide)
  rw [← ring]
  exact State.handoffDone_of_room ((State.handoffOf_of_keeps same c n).trans feeds) (by rw [ring, cfg]; exact room) (by rw [faults]; exact repairs)
    e slot tick void

end Handoff
/-! ### Writes of a deck entry (R136, R138) -/

section Write

variable {s : State} {c : Fin 256} {label : Fin 16} {f : Flit} {n e : Nat}

/-- The word a data flit carries. -/
def flitWord (f : Flit) : DeckWord := { data := f.payload, bt := BitVec.ofNat 4 f.btag, m := f.m }

/-- The state once the next data flit of a frame has been written. -/
def State.deckWritten (s : State) (c : Nat) (label : Nat) (f : Flit) (n e : Nat) : State :=
  let k := (s.cluster c).writtenOf n f.stag
  (s.deckLanded c false { flit := f, label := label }).updCluster c fun x =>
    (x.writeAt s.now (deckAddr e (f.stag % dkRing e) k) (flitWord f)).setWritten n f.stag (dkRing e) (some (k + 1))

/-- The state once a VOID or SKIP token has marked the slot of its frame. -/
def State.deckMarked (s : State) (c : Nat) (label : Nat) (f : Flit) (n e : Nat) (w : DeckWord) : State :=
  ((s.deckLanded c true { flit := f, label := label }).updCluster c fun x => x.setWritten n f.stag (dkRing e) none).updCluster c
    fun x => x.fillSlot s.now e (f.stag % dkRing e) w

variable (entry : (s.cluster c).deckEntry 1 label = some (n, e))
include entry

theorem execDeckWrite_past (past : dkCount e < (s.cluster c).writtenOf n f.stag) :
    exec (.deckWrite c label false f) s = .next (s.deckLanded c false { flit := f, label := label.val }) := by
  show execDeckWrite c label false f s = _
  have entry' : ((s.deckLanded c false { flit := f, label := label.val }).cluster c).deckEntry 1 label = some (n, e) := entry
  have past' : dkCount e < ((s.deckLanded c false { flit := f, label := label.val }).cluster c).writtenOf n f.stag := past
  simp only [execDeckWrite, entry', past', Bool.false_eq_true, if_false, if_true]

/-- A data flit within the slot is written; the last one of it completes the frame. -/
theorem execDeckWrite_within (within : (s.cluster c).writtenOf n f.stag ≤ dkCount e) : exec (.deckWrite c label false f) s =
    .next (if (s.cluster c).writtenOf n f.stag = dkCount e then
      (s.deckWritten c label f n e).handoffDone c n e (f.stag % dkRing e) (s.handTick c n f.stag) false
      else s.deckWritten c label f n e) := by
  show execDeckWrite c label false f s = _
  have entry' : ((s.deckLanded c false { flit := f, label := label.val }).cluster c).deckEntry 1 label = some (n, e) := entry
  have within' : ¬dkCount e < ((s.deckLanded c false { flit := f, label := label.val }).cluster c).writtenOf n f.stag := Nat.not_lt.2 within
  simp only [execDeckWrite, entry', within', Bool.false_eq_true, if_false]
  split
  · next last =>
    rw [if_pos (show (s.cluster c).writtenOf n f.stag = dkCount e from last)]
    rfl
  · next further =>
    rw [if_neg (show ¬(s.cluster c).writtenOf n f.stag = dkCount e from further)]
    rfl

theorem execDeckWrite_void (void : f.kind = 5) : exec (.deckWrite c label true f) s =
    .next ((s.deckMarked c label f n e { data := BitVec.ofNat 64 f.cause.toNat, v := true }).handoffDone c n e (f.stag % dkRing e)
      (s.tickOfTag f.ftag) true) := by
  show execDeckWrite c label true f s = _
  have entry' : ((s.deckLanded c true { flit := f, label := label.val }).cluster c).deckEntry 1 label = some (n, e) := entry
  simp only [execDeckWrite, entry', void]
  rfl

theorem execDeckWrite_skip (skip : f.kind = 4) : exec (.deckWrite c label true f) s = .next (s.deckMarked c label f n e { k := true }) := by
  show execDeckWrite c label true f s = _
  have entry' : ((s.deckLanded c true { flit := f, label := label.val }).cluster c).deckEntry 1 label = some (n, e) := entry
  simp only [execDeckWrite, entry', skip]
  rfl

/-- A BOF or a SELECT token leaves the deck, and that is all. -/
theorem execDeckWrite_begin (begins : f.kind = 1 ∨ f.kind = 3) :
    exec (.deckWrite c label true f) s = .next (s.deckLanded c true { flit := f, label := label.val }) := by
  show execDeckWrite c label true f s = _
  have entry' : ((s.deckLanded c true { flit := f, label := label.val }).cluster c).deckEntry 1 label = some (n, e) := entry
  rcases begins with begins | begins <;> simp only [execDeckWrite, entry', begins] <;> rfl

end Write

/-! ### What a write leaves -/

section Written

variable {s : State} {c label n e : Nat} {f : Flit}

theorem State.keeps_deckWritten (s : State) (c label : Nat) (f : Flit) (n e : Nat) : keeps [.fabric] s (s.deckWritten c label f n e) :=
  keeps_trans (keeps_deckLanded _ _ _ _) (keeps_updCluster _ _ _)

theorem State.keeps_deckMarked (s : State) (c label : Nat) (f : Flit) (n e : Nat) (w : DeckWord) :
    keeps [.fabric] s (s.deckMarked c label f n e w) :=
  keeps_trans (keeps_deckLanded _ _ _ _) (keeps_trans (keeps_updCluster _ _ _) (keeps_updCluster _ _ _))

theorem State.keepsClusters_deckWritten (s : State) (c label : Nat) (f : Flit) (n e : Nat) :
    keepsClusters c (s.deckLanded c false { flit := f, label := label }) (s.deckWritten c label f n e) := keepsClusters_updCluster _ _ _

theorem State.keepsClusters_deckMarked (s : State) (c label : Nat) (f : Flit) (n e : Nat) (w : DeckWord) :
    keepsClusters c (s.deckLanded c true { flit := f, label := label }) (s.deckMarked c label f n e w) :=
  keepsClusters_trans (keepsClusters_updCluster _ _ _) (keepsClusters_updCluster _ _ _)

theorem State.cluster_deckWritten : (s.deckWritten c label f n e).cluster c =
    ((s.cluster c).writeAt s.now (deckAddr e (f.stag % dkRing e) ((s.cluster c).writtenOf n f.stag)) (flitWord f)).setWritten
      n f.stag (dkRing e) (some ((s.cluster c).writtenOf n f.stag + 1)) := State.cluster_updCluster _ _ _

theorem State.cluster_deckMarked {w : DeckWord} : (s.deckMarked c label f n e w).cluster c =
    ((s.cluster c).setWritten n f.stag (dkRing e) none).fillSlot s.now e (f.stag % dkRing e) w := by
  unfold State.deckMarked
  rw [State.cluster_updCluster, State.cluster_updCluster]
  rfl

/-- The word written reads so from four cycles on, and the frame's next data flit goes to the next word. -/
theorem State.wordAt_deckWritten
    (settles : (s.cluster c).Settles s.now (deckAddr e (f.stag % dkRing e) ((s.cluster c).writtenOf n f.stag))) :
    (∀ m a, s.now ≤ m → ((s.deckWritten c label f n e).cluster c).wordAt m a =
      if a = deckAddr e (f.stag % dkRing e) ((s.cluster c).writtenOf n f.stag) ∧ s.now + 4 ≤ m then flitWord f else (s.cluster c).wordAt m a) ∧
    ((s.deckWritten c label f n e).cluster c).writtenOf n f.stag = (s.cluster c).writtenOf n f.stag + 1 := by
  rw [State.cluster_deckWritten]
  exact ⟨fun m a from_ => settles.wordAt_writeAt (flitWord f) from_, Cluster.writtenOf_setWritten _ _ _ _ _⟩

theorem State.wordAt_deckMarked {w : DeckWord}
    (settles : ∀ i, i ≤ dkCount e → (s.cluster c).Settles s.now (deckAddr e (f.stag % dkRing e) i)) (i m : Nat) (within : i ≤ dkCount e)
    (late : s.now + 4 ≤ m) : ((s.deckMarked c label f n e w).cluster c).wordAt m (deckAddr e (f.stag % dkRing e) i) = w := by
  rw [State.cluster_deckMarked]
  exact Cluster.wordAt_fillSlot (fun i hi => (settles i hi).setWritten n f.stag (dkRing e) none) late within

end Written

theorem State.cluster_of_fabric {s t : State} (same : t.fabric = s.fabric) (c : Nat) : t.cluster c = s.cluster c := by
  rw [State.cluster, same, State.cluster]

theorem keepsClusters_of_fabric {c : Nat} {s t u : State} (a : keepsClusters c s t) (same : u.fabric = t.fabric) : keepsClusters c s u :=
  keepsClusters_trans a ⟨fun n _ => State.cluster_of_fabric same n, by rw [same]⟩

/-- Settles O22: a word is read four cycles after its write (`Cluster.Settles.wordAt_writeAt`), also where a whole slot is marked
(`Cluster.wordAt_fillSlot`), and a ring with room takes the entry (`State.handoffDone_of_room`). -/
theorem deckWritesFrameSlots : Obligations.DeckWritesFrameSlots := by
  intro s c label f n e entry u slot k addr word late writes
  have settles {i : Nat} (h : late i) : (s.cluster c).Settles s.now (addr i) := ⟨h.1, h.2⟩
  refine ⟨fun within settled further => ?_, fun st last settled feeds room repairs => ?_, execDeckWrite_past entry, ?_, ?_,
    execDeckWrite_begin entry⟩
  · have written : exec (.deckWrite c label false f) s = .next (s.deckWritten c label f n e) := by
      rw [execDeckWrite_within entry within]
      split
      · next last =>
        rcases further with before | none'
        · exact absurd last (Nat.ne_of_lt before)
        · rw [State.handoffDone_of_none ((State.handoffOf_of_keeps (State.keeps_deckWritten s c label f n e) c n).trans none')]
      · rfl
    obtain ⟨words, count⟩ := State.wordAt_deckWritten (label := label) (settles settled)
    exact ⟨_, written, ⟨words, count, State.keepsClusters_deckWritten s c label f n e⟩, State.keeps_deckWritten s c label f n e⟩
  · obtain ⟨words, count⟩ := State.wordAt_deckWritten (label := label) (settles settled)
    have completed : exec (.deckWrite c label false f) s =
        .next ((s.deckWritten c label f n e).handoffDone c n e slot (s.handTick c n f.stag) false) := by
      rw [execDeckWrite_within entry (Nat.le_of_eq last), if_pos last]
    obtain ⟨ring, deep⟩ :=
      State.handoffDone_after (State.keeps_deckWritten s c label f n e) feeds room repairs e slot (s.handTick c n f.stag) false
    have fabric := deep .fabric (by decide)
    have cluster := State.cluster_of_fabric fabric c
    rw [← cluster] at words count
    refine ⟨_, completed, ⟨words, count, keepsClusters_of_fabric (State.keepsClusters_deckWritten s c label f n e) fabric⟩,
      keeps_trans (keeps_mono (by simp) (State.keeps_deckWritten s c label f n e)) (keeps_mono (by simp) deep), ?_⟩
    rw [cluster]
    exact ring
  · rintro (skip | ⟨void, none'⟩) settled
    · refine ⟨_, execDeckWrite_skip entry skip, fun i m within from_ => ?_, State.keepsClusters_deckMarked s c label f n e _,
        State.keeps_deckMarked s c label f n e _⟩
      rw [if_pos skip]
      exact State.wordAt_deckMarked (fun i hi => settles (settled i hi)) i m within from_
    · have marked := execDeckWrite_void entry void
      rw [State.handoffDone_of_none ((State.handoffOf_of_keeps (State.keeps_deckMarked s c label f n e _) c n).trans none')] at marked
      refine ⟨_, marked, fun i m within from_ => ?_, State.keepsClusters_deckMarked s c label f n e _, State.keeps_deckMarked s c label f n e _⟩
      rw [if_neg (by rw [void]; decide)]
      exact State.wordAt_deckMarked (fun i hi => settles (settled i hi)) i m within from_
  · intro st void feeds room repairs
    exact ⟨_, execDeckWrite_void entry void,
      (State.handoffDone_after (State.keeps_deckMarked s c label f n e _) feeds room repairs e slot (s.tickOfTag f.ftag) true).1⟩

end Sys2Proof.Machine
end

section
/-! SUPPORT. Stand-ins: one whose quad is deep, and what its repair window names. -/

namespace Sys2Proof.Machine

/-- The repair of core 0, which its image gives no stream: fenced while a configuration ran, its stand-in loaded. -/
def Repair.ofNoStream : Repair := { core := 0, detected := 0, mask := 0, started := true, loaded := some 0 }

/-- A configuration runs with quad 0 deep and no deep slot in progress; the stand-in of core 0 is loaded, and the next tick boundary is
to come. -/
def State.deepSpareLoaded : State :=
  { clock := { running := true, bnd := 9000 }, act := { running := true, content := { deep := { quads := [(0, false, 0)] } } },
    faults := { repairs := [.ofNoStream] } }

/-- At a boundary at which no deep slot begins the stand-in of a deep quad does not connect (R480). -/
theorem deepSpareLoaded_standIn : exec (.standIn 0) State.deepSpareLoaded = .next State.deepSpareLoaded := by
  have repair : State.deepSpareLoaded.repairOf 0 = some .ofNoStream := by decide
  have waits : State.deepSpareLoaded.mayConnect 0 .ofNoStream = false := by decide
  show execStandIn 0 State.deepSpareLoaded = _
  simp only [execStandIn, repair, waits]
  rfl

/-- Refutes O60: its clause on a repair that names no stream (mask 0) has the stand-in connect at the next tick boundary in every quad,
but in a deep quad it connects at the first deep-slot boundary after its load instead (R480), and a core fenced while a configuration
runs may have an empty stream mask. In `State.deepSpareLoaded`, which is such a state, the command changes nothing. The clause on other
masks does leave deep quads out. -/
theorem not_repairWindowsAndStandIns : ¬ Obligations.RepairWindowsAndStandIns := by
  intro repairs
  obtain ⟨-, -, -, -, connects⟩ := repairs State.deepSpareLoaded 0 .ofNoStream (by decide) (by decide) rfl rfl
  obtain ⟨noStream, -⟩ := connects 0 rfl (by decide) rfl
  obtain ⟨t, next, standsIn, -⟩ := noStream rfl
  have same : State.deepSpareLoaded = t := Host.Outcome.next.inj (deepSpareLoaded_standIn.symm.trans next)
  subst same
  exact absurd standsIn (by decide)

end Sys2Proof.Machine
end
